-- ==== Sys2Proof/Word.lean ====
section
/-! DEFINITION. Words and plain data used throughout the model of the T64: bytes, frame numbers, plan numbers,
the four tenants and a value for each tenant. -/

namespace Sys2Proof

/-- One byte of a frame, a link message or the control line. -/
abbrev Byte := BitVec 8

/-- A frame number: 16 bits, wrapping (00_scope.md, Frames and frame numbers; R1). -/
abbrev FrameNo := BitVec 16

/-- A plan number: 8 bits, "one more" than 255 is 0 (00_scope.md). -/
abbrev PlanNo := BitVec 8

/-- A site id (R59). -/
abbrev SiteId := BitVec 32

/-- The four operator contexts (00_scope.md, Tenants). Tenant 0 does not exist. -/
inductive Tenant where
  | t1 | t2 | t3 | t4
  deriving DecidableEq, Repr

/-- The tenants in ascending number. -/
def Tenant.all : List Tenant := [.t1, .t2, .t3, .t4]

/-- The tenant's number, 1 to 4. -/
def Tenant.number : Tenant → Nat
  | .t1 => 1
  | .t2 => 2
  | .t3 => 3
  | .t4 => 4

/-- The tenant a number names, none outside 1..4. -/
def Tenant.ofNumber : Nat → Option Tenant
  | 1 => some .t1
  | 2 => some .t2
  | 3 => some .t3
  | 4 => some .t4
  | _ => none

/-- One value for each tenant. -/
structure PerTenant (α : Type) where
  t1 : α
  t2 : α
  t3 : α
  t4 : α
  deriving DecidableEq, Repr

namespace PerTenant

/-- The value held for a tenant. -/
def get {α : Type} (v : PerTenant α) : Tenant → α
  | .t1 => v.t1
  | .t2 => v.t2
  | .t3 => v.t3
  | .t4 => v.t4

/-- Replace one tenant's value. -/
def set {α : Type} (v : PerTenant α) (t : Tenant) (a : α) : PerTenant α :=
  match t with
  | .t1 => { v with t1 := a }
  | .t2 => { v with t2 := a }
  | .t3 => { v with t3 := a }
  | .t4 => { v with t4 := a }

/-- The same value for every tenant. -/
def const {α : Type} (a : α) : PerTenant α := ⟨a, a, a, a⟩

/-- A value computed from the tenant. -/
def ofFn {α : Type} (f : Tenant → α) : PerTenant α := ⟨f .t1, f .t2, f .t3, f .t4⟩

/-- The four values in tenant order. -/
def toList {α : Type} (v : PerTenant α) : List α := [v.t1, v.t2, v.t3, v.t4]

/-- A value computed from each tenant's value. -/
def map {α β : Type} (f : α → β) (v : PerTenant α) : PerTenant β := ⟨f v.t1, f v.t2, f v.t3, f v.t4⟩

/-- The sum over the tenants. -/
def sum (v : PerTenant Nat) : Nat := v.t1 + v.t2 + v.t3 + v.t4

end PerTenant

end Sys2Proof
end

