-- ==== Sys2Proof/Syntax.lean ====
section
/-! DEFINITION. The commands of the T64: one constructor for each row of spec/opcode_table.json, with the operands
that come from outside the part. The fields of a link message are those of R183, the fields of a request those of
R181, each at the size the format gives it. -/

namespace Sys2Proof

/-- The role a strap selects (R58). -/
inductive Role where
  | site
  | hub
  deriving DecidableEq, Repr

/-- The control line rate a strap selects (R163): 115,200 or 921,600 bit/s. -/
inductive LineRate where
  | rate115200
  | rate921600
  deriving DecidableEq, Repr

/-- The two blocks that offer messages to the transmit queue (R45). -/
inductive Producer where
  | linkController
  | selfTest
  deriving DecidableEq, Repr

/-- What the modem delivers at a boundary (R5, R11, R12): whether position 0 was undecodable, the quality sample, and
the positions it decoded, position 0 first, each of 768 bytes. -/
structure ModemFrame where
  undecodable : Bool
  quality : Nat
  positions : List (List Byte)
  deriving DecidableEq, Repr

/-- The commands. The docstring of each names the row's rule. -/
inductive Instr where
  /-- POWER_ON_RESET (R174), with the strap levels at its end (R58, R163). -/
  | powerOnReset (role : Role) (rate : LineRate)
  /-- ENTER_RESET (R174), with the strap levels at its end. -/
  | enterReset (role : Role) (rate : LineRate)
  /-- FRAME_BOUNDARY (R11), with the nanoseconds the oscillator advanced the time counter since the last step that
  advanced it (R124). -/
  | frameBoundary (elapsed : Nat)
  /-- RECEIVED_FRAME (R13), with what the modem delivers. -/
  | receivedFrame (frame : ModemFrame)
  /-- HELLO taken (R65, R66, R69). -/
  | hello (role : Byte) (siteId peer : SiteId)
  /-- JOIN taken (R67, R69). -/
  | join (siteId : SiteId) (effective : FrameNo) (f1 f2 f3 f4 : Byte)
  /-- JOIN_ACK taken (R68). -/
  | joinAck (siteId : SiteId) (effective : FrameNo)
  /-- SHIFT taken (R77). -/
  | shift (number profile test n1 n2 n3 n4 f1 f2 f3 f4 : Byte) (effective : FrameNo)
  /-- SHIFT_ACK taken (R78). -/
  | shiftAck (number : Byte)
  /-- SHIFT_NAK taken (R78). -/
  | shiftNak (number reason : Byte)
  /-- STATUS taken (R72). -/
  | status (fast slow : BitVec 16) (d1 d2 d3 d4 hold : Byte)
  /-- BYE taken (R64). -/
  | bye (reason : Byte)
  /-- TIME_REQ taken (R128). -/
  | timeReq (sequence : Byte)
  /-- TIME_RESP taken (R132). -/
  | timeResp (sequence : Byte) (t2 t3 : BitVec 64) (p2 p3 traceable : Byte)
  /-- TEST_CTL taken (R152). -/
  | testCtl (action kind mode test : Byte)
  /-- TEST_ACK taken (R151, R155). -/
  | testAck (action accepted : Byte) (frames : BitVec 32) (bits : BitVec 48) (errored : BitVec 32)
  /-- PLAN_ACTIVATION (R25). -/
  | planActivation
  /-- ADOPTED_ACTIVATION (R27). -/
  | adoptedActivation
  /-- PENDING_DISCARD (R28). -/
  | pendingDiscard
  /-- FALLBACK_ACTIVATION (R31). -/
  | fallbackActivation
  /-- IDLE_RETURN (R22). -/
  | idleReturn
  /-- LOOPBACK_SWITCH_EFFECT (R18). -/
  | loopbackSwitchEffect
  /-- JOIN_TIMEOUT (R68). -/
  | joinTimeout
  /-- LOST_TIMEOUT (R83). -/
  | lostTimeout
  /-- RETRY_WAIT_END (R79). -/
  | retryWaitEnd
  /-- LC_FREE_NOTICE (R111). -/
  | lcFreeNotice
  /-- STOP_ENTRY_OFF (R63). -/
  | stopEntryOff
  /-- CHANNEL_RESTART_FINISH (R55). -/
  | channelRestartFinish
  /-- QUEUE_RETRY_OFFER (R45), by one producer. -/
  | queueRetryOffer (producer : Producer)
  /-- STATUS_BUILD (R71). -/
  | statusBuild
  /-- RISE_EVALUATION (R75). -/
  | riseEvaluation
  /-- DEMAND_WINDOW_CLOSE (R107). -/
  | demandWindowClose
  /-- DRAIN_FLUSH (R90) of one tenant. -/
  | drainFlush (tenant : Tenant)
  /-- TIME_REQ_OFFER (R131). -/
  | timeReqOffer
  /-- EXCHANGE_LOST (R132). -/
  | exchangeLost
  /-- HOLDOVER_EXPIRED (R140). -/
  | holdoverExpired
  /-- REFERENCE_PULSE (R127), with the oscillator's advance since the last step that advanced the counter and the
  seconds of the pulse's time record, if it came with one. -/
  | referencePulse (elapsed : Nat) (record : Option (BitVec 32))
  /-- REFERENCE_TIMEOUT (R127). -/
  | referenceTimeout
  /-- SECONDS_ROLLOVER (R124, R141), with the oscillator's advance since the last step that advanced the counter. -/
  | secondsRollover (elapsed : Nat)
  /-- TEST_ARMING_DEADLINE (R151). -/
  | testArmingDeadline
  /-- TEST_START_DEADLINE (R151, R159). -/
  | testStartDeadline
  /-- STAGE_COMPLETE (R159). -/
  | stageComplete
  /-- STOP_ANSWER_DEADLINE (R155). -/
  | stopAnswerDeadline
  /-- SNAPSHOT_CAPTURE (R177). -/
  | snapshotCapture
  /-- PACKET_ARRIVAL (R95) at one tenant port. -/
  | packetArrival (tenant : Tenant) (packet : List Byte)
  /-- CONTROL_FRAME_RECEIVED (R164): characters with good stop bits, the last of which completes a frame. -/
  | controlFrameReceived (chars : List Byte)
  /-- CONTROL_LINE_ERROR (R163): characters with good stop bits, then one with a bad stop bit. -/
  | controlLineError (chars : List Byte)
  /-- CONTROL_GAP_TIMEOUT (R165): characters with good stop bits, then more than 5 ms without one. -/
  | controlGapTimeout (chars : List Byte)
  /-- REPLY_SENT (R166). -/
  | replySent
  /-- PART_INFO (R173). -/
  | partInfo
  /-- PART_RESET (R174). -/
  | partReset
  /-- REPORTS_FETCH (R171). -/
  | reportsFetch
  /-- ATTN_ENABLE (R172). -/
  | attnEnable (enable : Byte)
  /-- SET_SITE_ID (R59). -/
  | setSiteId (siteId peer : SiteId)
  /-- LINK_CONFIG (R60). -/
  | linkConfig (hostMax hysteresis lead flags : Byte)
  /-- LINK_START (R62). -/
  | linkStart
  /-- LINK_STOP (R63). -/
  | linkStop (reason : Byte)
  /-- LINK_STATUS (R84). -/
  | linkStatus
  /-- PLAN_READ (R37). -/
  | planRead
  /-- TENANT_CONFIG (R86). -/
  | tenantConfig (tenant committed weight ceiling : Byte) (queueLimit : BitVec 16) (burst fill sync : Byte)
  /-- TENANT_OPEN (R87). -/
  | tenantOpen (tenant : Byte)
  /-- TENANT_CLOSE (R89). -/
  | tenantClose (tenant : Byte)
  /-- TENANT_FLUSH (R99). -/
  | tenantFlush (tenant : Byte)
  /-- TENANT_STATUS (R105). -/
  | tenantStatus (tenant : Byte)
  /-- ALLOC_MODE (R118). -/
  | allocMode (mode f1 f2 f3 f4 : Byte)
  /-- ALLOC_STATUS (R122). -/
  | allocStatus
  /-- TIMING_CONFIG (R142). -/
  | timingConfig (kp ki : Byte) (steerMin steerMax centre lockWindow : BitVec 16) (holdoverLimit : Byte)
      (period : BitVec 16) (delayMax : BitVec 32)
  /-- TIMING_RESTART (R143). -/
  | timingRestart
  /-- TIMING_STATUS (R144). -/
  | timingStatus
  /-- TIME_READ (R145). -/
  | timeRead
  /-- TEST_START (R149). -/
  | testStart (kind mode test run : Byte) (frames allowed : BitVec 32)
  /-- TEST_STOP (R161). -/
  | testStop
  /-- TEST_RESULT (R162). -/
  | testResult
  /-- COUNTERS_SNAPSHOT (R176). -/
  | countersSnapshot (clear : Byte)
  /-- COUNTERS_READ (R179). -/
  | countersRead (selector : Byte)
  deriving DecidableEq, Repr

end Sys2Proof
end

