-- ==== Sys2Proof/Config.lean ====
section
/-! DEFINITION. The free values: byte codes that the spec says a reply carries and gives no number for. Each is a
constant with no body, so that nothing can be proved of its value (log 10). -/

namespace Sys2Proof.Config

/-- DESIGN CHOICE (free value, log 10): the code of an allocation's cause in ALLOC_STATUS (R122), by the cause's place
in R122's list. Section 11.2 gives none. -/
opaque allocCauseCode : Nat → Byte

/-- DESIGN CHOICE (free value, log 10): the code of a tenant's class in ALLOC_STATUS (R122), by the class's place in
R109's table. -/
opaque tenantClassCode : Nat → Byte

/-- DESIGN CHOICE (free value, log 10): the code of a reassembly context's mode in TENANT_STATUS (R105), by the mode's
place in R100's list. -/
opaque reassemblyModeCode : Nat → Byte

end Sys2Proof.Config
end

