-- ==== Sys2Proof/Machine/State.lean ====
section
/-! DEFINITION. The state of the T64: one structure for each of the eleven blocks, the reasons a step can stop, and the
state right after power-on reset. Plain data throughout. -/

namespace Sys2Proof.Machine

/-! ### Why a step can stop -/

/-- The faults. -/
inductive Fault where
  /-- Raised by RECEIVED_FRAME alone, for an operand that no modem can deliver: a decodable frame without position 0, a
  position that is not 768 bytes long, or fewer positions than the good header's profile sends (R5, R11). Safe: the
  part never meets such a frame (log 6). -/
  | malformedFrame
  deriving DecidableEq, Repr

/-- The refusals. -/
inductive Refusal where
  /-- Raised by `exec` alone, for a row that has no meaning yet. Safe. No arm raises it. -/
  | notModelled (mnemonic : String)
  deriving DecidableEq, Repr

/-! ### Shared data -/

/-- MODEL's own (log 4): whether a change that is to be taken at a later boundary is due. `next`: at the boundary that
follows; `now`: at the boundary under way, or overdue. -/
inductive Due where
  | no
  | next
  | now
  deriving DecidableEq, Repr

/-- A plan record (R19). `flagged` is the fallback flag. -/
structure Plan where
  number : PlanNo
  profile : Nat
  test : Nat
  counts : PerTenant Nat
  flagged : Bool
  deriving DecidableEq, Repr

/-- The pending plan (R19): a plan with its effective frame, carried fallback counts, confirmed field and adoption mark
(`mark` is `no` while the plan is not marked, R27). -/
structure Pending where
  plan : Plan
  effective : FrameNo
  carried : PerTenant Nat
  confirmed : Bool
  mark : Due
  deriving DecidableEq, Repr

/-- The link messages (R41), each with its body's fields at the sizes of R183. -/
inductive LinkMessage where
  | hello (role : Byte) (siteId peer : SiteId)
  | join (siteId : SiteId) (effective : FrameNo) (counts : PerTenant Byte)
  | joinAck (siteId : SiteId) (effective : FrameNo)
  | shift (number profile test : Byte) (counts fallback : PerTenant Byte) (effective : FrameNo)
  | shiftAck (number : Byte)
  | shiftNak (number reason : Byte)
  | status (fast slow : BitVec 16) (demands : PerTenant Byte) (hold : Byte)
  | bye (reason : Byte)
  | timeReq (sequence : Byte)
  | timeResp (sequence : Byte) (t2 t3 : BitVec 64) (p2 p3 traceable : Byte)
  | testCtl (action kind mode test : Byte)
  | testAck (action accepted : Byte) (frames : BitVec 32) (bits : BitVec 48) (errored : BitVec 32)
  deriving DecidableEq, Repr

/-- A message that a producer keeps after the queue refused it (R45). `fresh`: refused at the boundary or in the frame
under way, so that it is offered again from the next boundary on. -/
structure KeptMessage where
  message : LinkMessage
  fresh : Bool
  deriving DecidableEq, Repr

/-! ### Modem Port and Slot Framer (01) -/

/-- A frame as the SF composed it (R9) with what the MP hands the modem beside it: the profile of positions 1 and up
(R4) and the mute indication (R17). `positions` holds positions 0 to U − 1. -/
structure TxFrame where
  frame : FrameNo
  profile : Nat
  mute : Bool
  positions : List (List Byte)
  deriving DecidableEq, Repr

/-- The Modem Port. -/
structure MP where
  /-- the number of the frame in progress (R1) -/
  frame : FrameNo
  /-- MODEL's own (log 4): the frame in progress has been composed; false between the first step of a boundary and its
  composition -/
  composed : Bool
  /-- MODEL's own (log 4): the received frame of the boundary under way has been taken -/
  rxTaken : Bool
  /-- the number R2 gives the frame that begins at the next boundary -/
  renumber : Option FrameNo
  /-- the local loopback switch as the ST set it (R18) -/
  loopSwitch : Bool
  /-- the switch as it is in effect (R18) -/
  loopback : Bool
  /-- whether a change of the switch is to take effect -/
  loopDue : Due
  /-- the frame composed last -/
  tx : TxFrame
  /-- the frame composed before it, which local loopback returns -/
  txBefore : TxFrame
  deriving DecidableEq, Repr

/-- The Slot Framer's frame lock (R14, R15). -/
structure SF where
  locked : Bool
  goodRun : Nat
  missRun : Nat
  regainRun : Option Nat
  /-- the lock state before the last received frame was taken (R66, fourth condition) -/
  lockedBefore : Bool
  deriving DecidableEq, Repr

/-! ### Plan Store (02) -/

/-- The Plan Store. -/
structure PS where
  active : Plan
  pending : Option Pending
  previous : Option Plan
  fallback : Plan
  /-- the second step of R22 is due -/
  idleDue : Due
  /-- the second step of R31 is due -/
  fallbackDue : Due
  deriving DecidableEq, Repr

/-! ### Message Channel (03) -/

/-- A received message that waits for dispatch, with what R51 passes along. -/
structure RxMessage where
  message : LinkMessage
  /-- the local frame of the boundary at which the area was taken -/
  taken : FrameNo
  /-- the frame number in the frame's header -/
  header : FrameNo
  /-- the message began at bit 8 -/
  atBit8 : Bool
  deriving DecidableEq, Repr

/-- The Message Channel. The channel state is RUNNING when `restart` is `no` and RESTARTING otherwise (R53). -/
structure MC where
  restart : Due
  /-- the area of the frame that begins at the boundary under way carries the abort (R54) -/
  abortArea : Bool
  timeHolder : Option LinkMessage
  repeatHolder : Option LinkMessage
  queue : List LinkMessage
  /-- the inter-message flag count F (R42) -/
  flagCount : Nat
  inbox : List RxMessage
  /-- MODEL's own (log 26): how many messages left the queue or the time holder for the area composed at the boundary under
  way, which an entry to SEARCH or OFF there withdraws (R54) -/
  released : Nat
  deriving DecidableEq, Repr

/-! ### Link Controller (04) -/

/-- The link states (04, the table of states). -/
inductive LinkState where
  | off | search | join | up | shift | lost
  deriving DecidableEq, Repr

/-- The causes of a LINK_STATE report (R61), in the order that numbers them. -/
inductive LinkCause where
  | start | joinSent | joinTimeout | joined | shiftBegin | shiftEnd | lockLost | partnerFallback | regained
  | lostTimeout | partnerBye | partnerRestart | stop
  deriving DecidableEq, Repr

/-- Why a shift failed (R79), in the order that numbers the causes. -/
inductive ShiftFailure where
  | nak (reason : Byte)
  | lateAck
  | noAdoption
  | linkLost
  deriving DecidableEq, Repr

/-- The part's identity (R59). -/
structure Identity where
  siteId : SiteId
  peer : SiteId
  deriving DecidableEq, Repr

/-- A stop in progress (R63): the boundaries whose frame still carries the BYE, the reason the request gave, and whether
the boundary at which the LC enters OFF has come. -/
structure Stop where
  count : Nat
  reason : Byte
  offDue : Bool
  deriving DecidableEq, Repr

/-- The JOIN record (R66). -/
structure JoinRecord where
  effective : FrameNo
  counts : PerTenant Nat
  deriving DecidableEq, Repr

/-- The proposal record (R76), with the late-ACK mark of R78. -/
structure Proposal where
  number : PlanNo
  effective : FrameNo
  lateAck : Bool
  deriving DecidableEq, Repr

/-- The Link Controller. -/
structure LC where
  role : Role
  identity : Option Identity
  hostMax : Nat
  hysteresis : Nat
  lead : Nat
  link : LinkState
  stop : Option Stop
  /-- the LINK_STATE report of a stop, queued when the restart finishes (R61): the old state and the reason -/
  offReport : Option (LinkState × Byte)
  partner : Option SiteId
  joinRecord : Option JoinRecord
  proposal : Option Proposal
  /-- the quality history, oldest first (R70) -/
  history : List Nat
  farFast : Nat
  farSlow : Nat
  farHold : PerTenant Bool
  failures : Nat
  lastFailure : Option ShiftFailure
  /-- the frame at whose boundary the retry wait ends (R79) -/
  retryEnd : Option FrameNo
  /-- frames since the last change of the active plan, up to 2,000 (R75) -/
  sinceChange : Nat
  lostCount : Option Nat
  roleClash : Bool
  kept : List KeptMessage
  /-- the notice to the CA that the LC is free (R76, R79) -/
  freeNotice : Due
  /-- a shift resolved at the boundary under way (R79) -/
  resolvedHere : Bool
  /-- MODEL's own (log 4): the STATUS of this boundary is still to be built (R71) -/
  statusDue : Bool
  /-- MODEL's own (log 4): the rise of this boundary is still to be evaluated (R75) -/
  riseDue : Bool
  /-- MODEL's own (log 4): the kept messages may be offered again at this boundary (R45) -/
  retryDue : Bool
  deriving DecidableEq, Repr

/-! ### Tenant Unit (05) -/

/-- The tenant states (R85). -/
inductive TenantState where
  | closed | active | draining
  deriving DecidableEq, Repr

/-- The causes of a TENANT_STATE report (R92), in the order that numbers them. -/
inductive TenantCause where
  | opened | partnerOpen | close | closed | sync
  deriving DecidableEq, Repr

/-- The seven configuration fields (R85, R86). -/
structure TenantConfig where
  committed : Nat
  weight : Nat
  ceiling : Nat
  queueLimit : Nat
  burst : Nat
  fill : Byte
  syncDependent : Bool
  deriving DecidableEq, Repr

/-- The four indications of a tenant state nibble (R7). -/
structure Nibble where
  isOpen : Bool
  draining : Bool
  syncOk : Bool
  hold : Bool
  deriving DecidableEq, Repr

/-- A packet of a queue (R93, R98): its length, how many of its two length bytes have been sent, and its bytes still
unsent. -/
structure QPacket where
  length : Nat
  lengthSent : Nat
  rest : List Byte
  deriving DecidableEq, Repr

/-- A reassembly context (R100). In `packet`, the length and the bytes gathered, the latest first. -/
inductive Reassembly where
  | hunt
  | idle
  | length (first : Byte)
  | packet (length : Nat) (gathered : List Byte)
  deriving DecidableEq, Repr

/-- The drain of a DRAINING tenant (R89, R90). -/
structure Drain where
  start : FrameNo
  flushed : Bool
  deriving DecidableEq, Repr

/-- A tenant's record (R85). `syncOk` is the sync condition; `ready` is the credit while the ready line is asserted. -/
structure TenantRec where
  state : TenantState
  config : TenantConfig
  syncOk : Bool
  far : Nibble
  hold : Bool
  queue : List QPacket
  reassembly : Reassembly
  drain : Option Drain
  ready : Option Nat
  deriving DecidableEq, Repr

/-- The Tenant Unit. -/
structure TN where
  tenants : PerTenant TenantRec
  /-- free blocks of the shared buffer (R93) -/
  free : Nat
  /-- packet bytes unsent in each queue before the composition of the frame in progress (R107) -/
  unsent : PerTenant Nat
  /-- packets passed out of each port at the last received frame (R102) -/
  out : PerTenant (List (List Byte))
  deriving DecidableEq, Repr

/-! ### Capacity Allocator (06) -/

/-- The classes of R109, in the order of its table. -/
inductive TenantClass where
  | eligible | drainingHeld | none
  deriving DecidableEq, Repr

/-- The causes of an allocation (R122), in the order of its list. -/
inductive AllocCause where
  | periodic | profile | tenant | test | mode | deferred
  deriving DecidableEq, Repr

/-- The last candidate (R119, R122). -/
structure Candidate where
  profile : Nat
  test : Nat
  counts : PerTenant Nat
  fallback : PerTenant Nat
  cause : AllocCause
  frame : FrameNo
  worth : Bool
  available : Nat
  classes : PerTenant TenantClass
  need : PerTenant Nat
  demand : PerTenant Nat
  deriving DecidableEq, Repr

/-- The Capacity Allocator. -/
structure CA where
  sums : PerTenant Nat
  demands : PerTenant Nat
  farDemands : PerTenant Nat
  fixed : Bool
  fixedCounts : PerTenant Nat
  waiting : Bool
  last : Option Candidate
  /-- MODEL's own (log 4): the demand window of this boundary is still to be closed (R107) -/
  windowDue : Bool
  deriving DecidableEq, Repr

/-! ### Timing Unit (07) -/

/-- The timing states of both roles (R127, R129), in the order of their codes. -/
inductive TimingState where
  | freeRun | acquire | locked | holdover | reference | referenceLost
  deriving DecidableEq, Repr

/-- The causes of a TIMING_STATE report (R130), in the order of their codes. -/
inductive TimingCause where
  | linkUp | linkDown | lockedOn | lostExchanges | largeError | relock | expired | restart | referenceValid
  | referenceInvalid
  deriving DecidableEq, Repr

/-- The time counter (R124). -/
structure Time where
  seconds : BitVec 32
  nanos : Nat
  deriving DecidableEq, Repr

/-- A frame-start record (R126). -/
structure FrameStart where
  frame : FrameNo
  time : Time
  plan : PlanNo
  deriving DecidableEq, Repr

/-- The previous reference pulse (R127): its record, if it came with one, and the boundaries since. -/
structure RefPulse where
  record : Option (BitVec 32)
  age : Nat
  deriving DecidableEq, Repr

/-- The outstanding exchange (R131). -/
structure Exchange where
  sequence : Byte
  frame : FrameNo
  t1 : Nat
  p1 : PlanNo
  deriving DecidableEq, Repr

/-- The values of TIMING_CONFIG (R142). -/
structure TimingConfig where
  kp : Nat
  ki : Nat
  steerMin : Nat
  steerMax : Nat
  centre : Nat
  lockWindow : Nat
  holdoverLimit : Nat
  period : Nat
  delayMax : Nat
  deriving DecidableEq, Repr

/-- The Timing Unit. -/
structure TM where
  time : Time
  state : TimingState
  expired : Bool
  config : TimingConfig
  steer : Nat
  current : FrameStart
  before : FrameStart
  pulse : Option RefPulse
  sequence : Byte
  /-- the frame at whose boundary the next TIME_REQ is offered (R131) -/
  nextOffer : Option FrameNo
  /-- the first TIME_REQ after an entry to UP or SHIFT (R131) -/
  firstOffer : Due
  /-- the sequence of the last request offered whose placement starts an exchange (R131) -/
  armed : Option Byte
  outstanding : Option Exchange
  /-- the exchange window: offset and delay of each exchange, oldest first (R134) -/
  window : List (Int × Int)
  integrator : Int
  history : List Nat
  goodRun : Nat
  largeRun : Nat
  lostRun : Nat
  lastOffset : Option Int
  lastDelay : Option Int
  lastE : Option Int
  lastU : Option Int
  lastS : Option Nat
  holdoverCode : Option Nat
  holdoverTimer : Option Nat
  /-- the pulse-per-second output is driven high (R141) -/
  pps : Bool
  deriving DecidableEq, Repr

/-! ### Self-Test Unit (08) -/

/-- The kinds of test (R146), in the order of their codes. -/
inductive TestKind where
  | loop | far | sweep
  deriving DecidableEq, Repr

/-- CHECK or ECHO (R146). -/
inductive TestMode where
  | check | echo
  deriving DecidableEq, Repr

/-- COUNT with its number of frames, or FREE (R146). -/
inductive TestRun where
  | count (frames : Nat)
  | free
  deriving DecidableEq, Repr

/-- The test states (R146), in the order of their codes. -/
inductive TestState where
  | idle | arming | starting | running | stopping | done
  deriving DecidableEq, Repr

/-- The outcomes (R146), in the order of their codes. -/
inductive TestOutcome where
  | passed | failed | stopped | abortedFade | abortedRoom | abortedLink
  deriving DecidableEq, Repr

/-- One entry of the sweep stage table (R146): the frames and the errored frames counted. -/
structure StageEntry where
  frames : Nat
  errored : Nat
  deriving DecidableEq, Repr

/-- The responder context (R152). -/
structure Responder where
  kind : TestKind
  mode : TestMode
  test : Nat
  frames : Nat
  bits : Nat
  errored : Nat
  deriving DecidableEq, Repr

/-- The TEST positions taken at one boundary (R153): the local frame that began there, and the bytes of each. -/
structure TestTaken where
  boundary : FrameNo
  positions : List (Nat × List Byte)
  deriving DecidableEq, Repr

/-- The Self-Test Unit. -/
structure ST where
  kind : Option TestKind
  mode : Option TestMode
  test : Option Nat
  run : Option TestRun
  allowed : Option Nat
  state : TestState
  outcome : Option TestOutcome
  /-- the outcome an end has fixed, until DONE (R156) -/
  verdict : Option TestOutcome
  frames : Nat
  wrapped : Bool
  bits : Nat
  errored : Nat
  erroredFrames : Option Nat
  farFrames : Option Nat
  stages : List (Option StageEntry)
  activation : Option FrameNo
  reqTest : Nat
  reqProfile : Option Nat
  deadline : Option FrameNo
  /-- the stop answer is awaited (R155) -/
  awaiting : Bool
  /-- the stage whose plan is requested (R159) -/
  stageWanted : Nat
  /-- the stage whose plan was activated last, with its activation frame (R159) -/
  stageActive : Option (Nat × FrameNo)
  /-- how many stages are complete: stages 0 up to this number (R159, R160) -/
  stagesComplete : Nat
  commissioned : Nat
  saved : Option Nat
  responder : Option Responder
  /-- the TEST positions taken at the last boundary and at the one before (R153) -/
  taken : TestTaken
  takenBefore : TestTaken
  kept : List KeptMessage
  /-- MODEL's own (log 4): the kept messages may be offered again at this boundary (R45) -/
  retryDue : Bool
  deriving DecidableEq, Repr

/-! ### Counter Bank (10) -/

/-- The counters of a tenant's group, in the order of the table of section 5.9. -/
inductive TenantCounter where
  | packetsAdmitted | admissionDrops | lengthErrors | packetsSent | drainFlushes | packetsDelivered | receiveDrops
  | reassemblyErrors | gapDiscards
  deriving DecidableEq, Repr

/-- The counters of the link group, in the order of section 10.1. -/
inductive LinkCounter where
  | goodHeaders | headerErrors | undecodableFrames | lockGains | lockLosses | frameMismatches | renumberings
  | qualityClamps | mutedFrames
  | planActivations | headerAdoptions | pendingDiscards | planUnknownFrames
  | roleClashes | identityMismatches | joinRefusals | partnerRestarts | partnerFallbacks | unexpectedMessages
  | statusReceived | shiftsProposed | proposalsRefused | shiftsAccepted | shiftsFailed | lateAcks | acksSent | naksSent
  | deferredTriggers | allocationsProposed | allocationsRecorded | roomAborts
  deriving DecidableEq, Repr

/-- The counters of the message channel group, in the order of the table of section 3.11. -/
inductive ChannelCounter where
  | messagesSent | messagesReceived | runts | checkFailures | abortsReceived | oversize | unterminated | unknownKinds
  | wrongLength | misplacedTime | queueFullRefusals | statusReplacements | timeReplacements | withdrawn | notDispatched
  deriving DecidableEq, Repr

/-- The counters of the timing group, in the order of the table of section 7.9. -/
inductive TimingCounter where
  | requestsSent | responsesSent | accepted | lost | rejectedPlan | rejectedDelay | updates | steps | freezes
  | relockRefusals | unexpected | alignments | referenceFaults
  deriving DecidableEq, Repr

/-- The counters of the test group, in the order of the table of section 8.9. -/
inductive TestCounter where
  | ctlReceived | responderRefusals | unexpected | startExpiries
  deriving DecidableEq, Repr

/-- The counters of the control group, in the order of the table of section 9.6. -/
inductive ControlCounter where
  | lineErrors | gapDiscards | lengthDiscards | checkFailures | bufferOverflows | unknownKinds | wrongLengths
  | requestsServed | reportsLost | reportsFetched
  deriving DecidableEq, Repr

/-- One copy of all 109 counters (R175): nine groups, each in the order of its table. -/
structure Bank where
  tenants : PerTenant (List Nat)
  link : List Nat
  channel : List Nat
  timing : List Nat
  test : List Nat
  control : List Nat
  deriving DecidableEq, Repr

/-- The bank with every counter 0. -/
def Bank.zero : Bank :=
  { tenants := PerTenant.const (List.replicate 9 0), link := List.replicate 31 0, channel := List.replicate 15 0,
    timing := List.replicate 13 0, test := List.replicate 4 0, control := List.replicate 10 0 }

/-- The three counters that the composition of an area counts in: messages, requests and responses sent (R43, R128, R131). -/
structure SentCounts where
  messages : Nat
  requests : Nat
  responses : Nat
  deriving DecidableEq, Repr

/-- The Counter Bank (R176, R177, R180). -/
structure CB where
  live : Bank
  snapshot : Bank
  valid : Bool
  /-- the capture frame and the cleared mark -/
  capture : Option (FrameNo × Bool)
  /-- the pending capture with its clear flag -/
  pending : Option Bool
  captureDue : Due
  /-- MODEL's own (log 26): the counts as they stood before the area composed at the boundary under way was counted; none
  once a capture has copied them -/
  beforeArea : Option SentCounts
  deriving DecidableEq, Repr

/-! ### Control Port (09) -/

/-- The kinds of report (R169), in the order of their codes from 1. -/
inductive ReportKind where
  | resetDone | linkState | roleClash | planActive | shiftFailed | tenantState | farTenant | timingState | testDone
  deriving DecidableEq, Repr

/-- A report (R169): the subject is a tenant number or 0, and the detail is eight bytes. -/
structure Report where
  kind : ReportKind
  subject : Nat
  frame : FrameNo
  detail : List Byte
  deriving DecidableEq, Repr

/-- A good request (R164). -/
structure Request where
  kind : Byte
  tag : Byte
  body : List Byte
  deriving DecidableEq, Repr

/-- The receiver's mode (R164). In `inside`, the characters gathered after the start byte, in order. -/
inductive Receiver where
  | outside
  | inside (gathered : List Byte)
  deriving DecidableEq, Repr

/-- What becomes of the oldest request of the input buffer (R167, R168): no request is being served; it has passed the
checks and is with its owner; it is a COUNTERS_SNAPSHOT whose capture is awaited; its reply is being sent. -/
inductive Service where
  | idle
  | handed
  | capturing
  | replying (frame : List Byte)
  deriving DecidableEq, Repr

/-- The Control Port. -/
structure CP where
  rate : LineRate
  receiver : Receiver
  buffer : List Request
  service : Service
  reports : List Report
  lost : Bool
  attention : Bool
  /-- the last character of the reply to a PART_RESET has been sent (R174) -/
  resetDue : Bool
  deriving DecidableEq, Repr

/-! ### The machine -/

/-- The state of the T64. `pending` is the model's queue of commands that wait, the front first. -/
structure State where
  mp : MP
  sf : SF
  ps : PS
  mc : MC
  lc : LC
  tn : TN
  ca : CA
  tm : TM
  st : ST
  cb : CB
  cp : CP
  pending : List Instr
  deriving DecidableEq, Repr

namespace State

/-! Each block's state changes through one of these; their laws are in Laws/State.lean. -/

/-- Change the Modem Port. -/
def modMP (f : MP → MP) (s : State) : State := { s with mp := f s.mp }
/-- Change the Slot Framer. -/
def modSF (f : SF → SF) (s : State) : State := { s with sf := f s.sf }
/-- Change the Plan Store. -/
def modPS (f : PS → PS) (s : State) : State := { s with ps := f s.ps }
/-- Change the Message Channel. -/
def modMC (f : MC → MC) (s : State) : State := { s with mc := f s.mc }
/-- Change the Link Controller. -/
def modLC (f : LC → LC) (s : State) : State := { s with lc := f s.lc }
/-- Change the Tenant Unit. -/
def modTN (f : TN → TN) (s : State) : State := { s with tn := f s.tn }
/-- Change the Capacity Allocator. -/
def modCA (f : CA → CA) (s : State) : State := { s with ca := f s.ca }
/-- Change the Timing Unit. -/
def modTM (f : TM → TM) (s : State) : State := { s with tm := f s.tm }
/-- Change the Self-Test Unit. -/
def modST (f : ST → ST) (s : State) : State := { s with st := f s.st }
/-- Change the Counter Bank. -/
def modCB (f : CB → CB) (s : State) : State := { s with cb := f s.cb }
/-- Change the Control Port. -/
def modCP (f : CP → CP) (s : State) : State := { s with cp := f s.cp }

end State

/-! ### After power-on reset -/

/-- The flagged idle plan numbered 0 (section 2.2, R22). -/
def Plan.flaggedIdle : Plan := { number := 0, profile := 0, test := 0, counts := PerTenant.const 0, flagged := true }

/-- The frame composed at the end of a reset: frame 0 under the flagged idle plan, muted (R6, R17, R38, R182). Every
tenant shows SYNC_OK and HOLD. -/
def TxFrame.afterReset : TxFrame :=
  { frame := 0, profile := 0, mute := true,
    positions :=
      ([0x5E, 0x27, 0xB4, 0x61, 0x00, 0x00, 0x80, 0x00, 0x33, 0x33, 0x1C, 0x93] ++ List.replicate 756 0x7E)
        :: List.replicate 11 (List.replicate 768 0xFF) }

/-- The tenant record after reset (R85). -/
def TenantRec.afterReset : TenantRec :=
  { state := .closed,
    config := { committed := 0, weight := 1, ceiling := 63, queueLimit := 64, burst := 4, fill := 0xFF,
                syncDependent := false },
    syncOk := true, far := ⟨false, false, false, false⟩, hold := true, queue := [], reassembly := .hunt,
    drain := none, ready := none }

/-- The Self-Test Unit after reset (R146, R152, R153, R160). -/
def ST.afterReset : ST :=
  { kind := none, mode := none, test := none, run := none, allowed := none, state := .idle, outcome := none,
    verdict := none, frames := 0, wrapped := false, bits := 0, errored := 0, erroredFrames := some 0, farFrames := none,
    stages := List.replicate 6 none, activation := none, reqTest := 0, reqProfile := none, deadline := none,
    awaiting := false, stageWanted := 0, stageActive := none, stagesComplete := 0, commissioned := 5, saved := none,
    responder := none, taken := ⟨0, []⟩, takenBefore := ⟨0xFFFF, []⟩, kept := [], retryDue := false }

/-- The Timing Unit after reset (R124 to R142): FREE_RUN at SITE, REFERENCE_LOST at HUB. -/
def TM.afterReset (role : Role) : TM :=
  { time := ⟨0, 0⟩,
    state := match role with
      | .site => .freeRun
      | .hub => .referenceLost,
    expired := false,
    config := { kp := 40, ki := 4, steerMin := 0, steerMax := 4095, centre := 2048, lockWindow := 100,
                holdoverLimit := 60, period := 250, delayMax := 200000 },
    steer := 2048, current := ⟨0, ⟨0, 0⟩, 0⟩, before := ⟨0xFFFF, ⟨0, 0⟩, 0⟩, pulse := none, sequence := 0,
    nextOffer := none, firstOffer := .no, armed := none, outstanding := none, window := [], integrator := 0,
    history := [], goodRun := 0, largeRun := 0, lostRun := 0, lastOffset := none, lastDelay := none, lastE := none,
    lastU := none, lastS := none, holdoverCode := none, holdoverTimer := none, pps := false }

/-- The state at the end of a reset with the given straps (R174), holding the one RESET_DONE report whose first detail
byte is the cause. The queue of commands is the model's own and is empty. DESIGN CHOICE (log 20): the boundary that begins
frame 0 has had its received frame (`rxTaken`), so the first RECEIVED_FRAME is that of frame 1. -/
def State.afterReset (cause : Byte) (role : Role) (rate : LineRate) : State :=
  { mp := { frame := 0, composed := true, rxTaken := true, renumber := none, loopSwitch := false, loopback := false,
            loopDue := .no, tx := .afterReset, txBefore := .afterReset },
    sf := { locked := false, goodRun := 0, missRun := 0, regainRun := none, lockedBefore := false },
    ps := { active := .flaggedIdle, pending := none, previous := none, fallback := .flaggedIdle, idleDue := .no,
            fallbackDue := .no },
    mc := { restart := .no, abortArea := false, timeHolder := none, repeatHolder := none, queue := [], flagCount := 1,
            inbox := [], released := 0 },
    lc := { role := role, identity := none, hostMax := 5, hysteresis := 20, lead := 32, link := .off, stop := none,
            offReport := none, partner := none, joinRecord := none, proposal := none, history := [], farFast := 0,
            farSlow := 0, farHold := PerTenant.const false, failures := 0, lastFailure := none, retryEnd := none,
            sinceChange := 0, lostCount := none, roleClash := false, kept := [], freeNotice := .no,
            resolvedHere := false, statusDue := false, riseDue := false, retryDue := false },
    tn := { tenants := PerTenant.const .afterReset, free := 512, unsent := PerTenant.const 0, out := PerTenant.const [] },
    ca := { sums := PerTenant.const 0, demands := PerTenant.const 0, farDemands := PerTenant.const 0, fixed := false,
            fixedCounts := PerTenant.const 0, waiting := false, last := none, windowDue := false },
    tm := .afterReset role,
    st := .afterReset,
    cb := { live := .zero, snapshot := .zero, valid := false, capture := none, pending := none, captureDue := .no,
            beforeArea := none },
    cp := { rate := rate, receiver := .outside, buffer := [], service := .idle,
            reports := [{ kind := .resetDone, subject := 0, frame := 0,
                          detail := [cause,
                            match role with
                              | .site => 0
                              | .hub => 1,
                            match rate with
                              | .rate115200 => 0
                              | .rate921600 => 1, 0, 0, 0, 0, 0] }],
            lost := false, attention := true, resetDue := false },
    pending := [] }

/-- The machine right after power-on reset. DESIGN CHOICE (log 5): the straps select SITE and 115,200 bit/s; the spec
gives the straps no level of their own, and POWER_ON_RESET carries both. -/
def State.reset : State := State.afterReset 0 .site .rate115200

end Sys2Proof.Machine
end

