-- ==== Sys2Proof/Machine/Bits.lean ====
section
/-! DEFINITION. Bytes, bits, the CRC-16 and the orders in which they are sent (11_formats.md, opening; R6, R38, R40). -/

namespace Sys2Proof.Machine

/-- The `n` least significant bytes of a number, most significant first. -/
def beBytes : Nat → Nat → List Byte
  | 0, _ => []
  | n + 1, v => BitVec.ofNat 8 (v / 256 ^ n) :: beBytes n v

/-- The number a list of bytes spells, most significant first. -/
def beValue (bs : List Byte) : Nat := bs.foldl (fun acc b => acc * 256 + b.toNat) 0

/-- A signed number in `n` bytes of two's complement (R181). -/
def beSigned (n : Nat) (v : Int) : List Byte := beBytes n (v % (256 ^ n : Int)).toNat

/-- The bits of a byte, most significant first (R38, R40). -/
def byteBits (b : Byte) : List Bool :=
  [b.getLsbD 7, b.getLsbD 6, b.getLsbD 5, b.getLsbD 4, b.getLsbD 3, b.getLsbD 2, b.getLsbD 1, b.getLsbD 0]

/-- The bits of a sequence of bytes in the order sent. -/
def bitsOf (bs : List Byte) : List Bool := bs.flatMap byteBits

/-- A byte from up to eight bits, most significant first. -/
def byteOfBits (bits : List Bool) : Byte := BitVec.ofNat 8 (bits.foldl (fun acc b => acc * 2 + b.toNat) 0)

/-- The bytes that a stream of bits fills, eight bits at a time. -/
def bytesOf : List Bool → List Byte
  | b7 :: b6 :: b5 :: b4 :: b3 :: b2 :: b1 :: b0 :: rest => byteOfBits [b7, b6, b5, b4, b3, b2, b1, b0] :: bytesOf rest
  | _ => []

/-- One bit through the CRC-16 register: generator x^16 + x^12 + x^5 + 1, no reflection (R6). -/
def crcBit (crc : BitVec 16) (bit : Bool) : BitVec 16 :=
  if crc.msb != bit then (crc <<< 1) ^^^ 0x1021#16 else crc <<< 1

/-- The CRC-16 of a sequence of bytes: initial value all ones, no final inversion (R6, R40, 9.2, 11). -/
def crc16 (bs : List Byte) : BitVec 16 := (bitsOf bs).foldl crcBit 0xFFFF#16

/-- The two check bytes, the more significant first. -/
def crcBytes (bs : List Byte) : List Byte := beBytes 2 (crc16 bs).toNat

/-- A position of 768 bytes 0xFF (R9, R10, R17, R153). -/
def onesPosition : List Byte := List.replicate 768 0xFF

/-- How many bits of two bytes differ. -/
def byteDifference (a b : Byte) : Nat := ((byteBits (a ^^^ b)).filter id).length

/-- How many bits of two sequences differ, position by position. -/
def bitDifference (as bs : List Byte) : Nat := (List.zipWith byteDifference as bs).sum

end Sys2Proof.Machine
end

