-- ==== Sys2Proof/Machine/Operands.lean ====
section
/-! DEFINITION. The operand forms: frame-number arithmetic, clamping, code values (11.2, 11.3), the layout of link
messages (R183) and of request fields and reply fields (R181). -/

namespace Sys2Proof.Machine

/-! ### Frame numbers (00_scope.md, Frames and frame numbers) -/

/-- How many frames `a` lies ahead of `b`, modulo 65,536. -/
def framesAhead (a b : FrameNo) : Nat := (a - b).toNat

/-- `a` is ahead of `b`. -/
def isAhead (a b : FrameNo) : Bool := 1 ≤ framesAhead a b && framesAhead a b ≤ 32767

/-- `a` is at or after `b`. -/
def isAtOrAfter (a b : FrameNo) : Bool := a == b || isAhead a b

/-- The frame `n` after `f`, modulo 65,536. -/
def frameAdd (f : FrameNo) (n : Nat) : FrameNo := f + BitVec.ofNat 16 n

/-- Add one to a 32-bit saturating counter (R175). -/
def satInc (n : Nat) : Nat := min (n + 1) 4294967295

/-- Bring a value into a range (00_scope.md, "clamped"). -/
def clamp (lo hi v : Nat) : Nat := max lo (min v hi)

/-- Bring a signed value into a range. -/
def clampInt (lo hi v : Int) : Int := max lo (min v hi)

/-! ### Code values (11.2) -/

/-- A flag, mark or indication: 0 clear, 1 set (R181). -/
def flagCode (b : Bool) : Byte := if b then 1 else 0

def roleCode : Role → Byte
  | .site => 0
  | .hub => 1

/-- The role byte of a HELLO: 1 is HUB and any other value is taken as SITE (R183). -/
def roleOf (b : Byte) : Role := if b == 1 then .hub else .site

def rateCode : LineRate → Byte
  | .rate115200 => 0
  | .rate921600 => 1

def linkStateCode : LinkState → Byte
  | .off => 0
  | .search => 1
  | .join => 2
  | .up => 3
  | .shift => 4
  | .lost => 5

/-- LINK_STATE causes, numbered from 0 as R61 lists them (11.3). -/
def linkCauseCode : LinkCause → Byte
  | .start => 0
  | .joinSent => 1
  | .joinTimeout => 2
  | .joined => 3
  | .shiftBegin => 4
  | .shiftEnd => 5
  | .lockLost => 6
  | .partnerFallback => 7
  | .regained => 8
  | .lostTimeout => 9
  | .partnerBye => 10
  | .partnerRestart => 11
  | .stop => 12

/-- PLAN_ACTIVE causes (11.3). -/
inductive PlanCause where
  | effective | adopted | fallback | idle | loopSet | loopEnd
  deriving DecidableEq, Repr

def planCauseCode : PlanCause → Byte
  | .effective => 0
  | .adopted => 1
  | .fallback => 2
  | .idle => 3
  | .loopSet => 4
  | .loopEnd => 5

/-- SHIFT_FAILED causes (11.3). -/
def shiftFailureCode : ShiftFailure → Byte
  | .nak _ => 0
  | .lateAck => 1
  | .noAdoption => 2
  | .linkLost => 3

/-- The NAK reason of a failure: 0xFF unless the cause is NAK (11.3). -/
def shiftFailureReason : ShiftFailure → Byte
  | .nak reason => reason
  | .lateAck => 0xFF
  | .noAdoption => 0xFF
  | .linkLost => 0xFF

/-- NAK reasons (11.2). -/
def nakPlanNumber : Byte := 0
def nakLate : Byte := 1
def nakMalformed : Byte := 2
def nakProfile : Byte := 3

def tenantStateCode : TenantState → Byte
  | .closed => 0
  | .active => 1
  | .draining => 2

def tenantCauseCode : TenantCause → Byte
  | .opened => 0
  | .partnerOpen => 1
  | .close => 2
  | .closed => 3
  | .sync => 4

def timingStateCode : TimingState → Byte
  | .freeRun => 0
  | .acquire => 1
  | .locked => 2
  | .holdover => 3
  | .reference => 4
  | .referenceLost => 5

def timingCauseCode : TimingCause → Byte
  | .linkUp => 0
  | .linkDown => 1
  | .lockedOn => 2
  | .lostExchanges => 3
  | .largeError => 4
  | .relock => 5
  | .expired => 6
  | .restart => 7
  | .referenceValid => 8
  | .referenceInvalid => 9

def testKindCode : TestKind → Byte
  | .loop => 0
  | .far => 1
  | .sweep => 2

/-- The kind of a TEST_START (R149); other values name none. -/
def testKindOf (b : Byte) : Option TestKind :=
  if b == 0 then some .loop else if b == 1 then some .far else if b == 2 then some .sweep else none

/-- The kind of a TEST_CTL: a kind other than SWEEP is taken as FAR (R152). -/
def responderKindOf (b : Byte) : TestKind := if b == 2 then .sweep else .far

def testModeCode : TestMode → Byte
  | .check => 0
  | .echo => 1

/-- A mode other than ECHO is taken as CHECK (R149, R152). -/
def testModeOf (b : Byte) : TestMode := if b == 1 then .echo else .check

def testStateCode : TestState → Byte
  | .idle => 0
  | .arming => 1
  | .starting => 2
  | .running => 3
  | .stopping => 4
  | .done => 5

def outcomeCode : TestOutcome → Byte
  | .passed => 0
  | .failed => 1
  | .stopped => 2
  | .abortedFade => 3
  | .abortedRoom => 4
  | .abortedLink => 5

/-- Test actions (11.2): an action other than START is taken as STOP (R152). -/
def actionStart : Byte := 1
def actionStop : Byte := 0

/-- Stop and BYE reasons (11.2): any value other than RESET is taken as STOP (R63). -/
def stopReasonOf (b : Byte) : Byte := if b == 1 then 1 else 0

def reportKindCode : ReportKind → Byte
  | .resetDone => 1
  | .linkState => 2
  | .roleClash => 3
  | .planActive => 4
  | .shiftFailed => 5
  | .tenantState => 6
  | .farTenant => 7
  | .timingState => 8
  | .testDone => 9

/-- The four bits of a nibble, OPEN first (R182), as the lower bits of a byte (11.3). -/
def nibbleCode (n : Nibble) : Byte := byteOfBits [n.isOpen, n.draining, n.syncOk, n.hold]

/-- The nibble in the upper four bits of a header byte (R182). -/
def upperNibble (b : Byte) : Nibble := ⟨b.getLsbD 7, b.getLsbD 6, b.getLsbD 5, b.getLsbD 4⟩

/-- The nibble in the lower four bits of a header byte (R182). -/
def lowerNibble (b : Byte) : Nibble := ⟨b.getLsbD 3, b.getLsbD 2, b.getLsbD 1, b.getLsbD 0⟩

/-- Result codes (11.2, R168). -/
inductive ResultCode where
  | ok | accepted | busy | state | badArg | noRoom | locked | unknown
  deriving DecidableEq, Repr

def resultByte : ResultCode → Byte
  | .ok => 0
  | .accepted => 1
  | .busy => 2
  | .state => 3
  | .badArg => 4
  | .noRoom => 5
  | .locked => 6
  | .unknown => 7

/-! ### Link messages (R41, R183) -/

/-- The kind codes (R183). -/
def messageKind : LinkMessage → Byte
  | .hello .. => 0x01
  | .join .. => 0x02
  | .joinAck .. => 0x03
  | .shift .. => 0x04
  | .shiftAck .. => 0x05
  | .shiftNak .. => 0x06
  | .status .. => 0x07
  | .bye .. => 0x08
  | .timeReq .. => 0x10
  | .timeResp .. => 0x11
  | .testCtl .. => 0x20
  | .testAck .. => 0x21

/-- The body of a message, field by field in the order of R183. -/
def messageBody : LinkMessage → List Byte
  | .hello role siteId peer => role :: (beBytes 4 siteId.toNat ++ beBytes 4 peer.toNat)
  | .join siteId effective counts => beBytes 4 siteId.toNat ++ beBytes 2 effective.toNat ++ counts.toList
  | .joinAck siteId effective => beBytes 4 siteId.toNat ++ beBytes 2 effective.toNat
  | .shift number profile test counts fallback effective =>
      [number, profile, test] ++ counts.toList ++ fallback.toList ++ beBytes 2 effective.toNat
  | .shiftAck number => [number]
  | .shiftNak number reason => [number, reason]
  | .status fast slow demands hold => beBytes 2 fast.toNat ++ beBytes 2 slow.toNat ++ demands.toList ++ [hold]
  | .bye reason => [reason]
  | .timeReq sequence => [sequence]
  | .timeResp sequence t2 t3 p2 p3 traceable =>
      sequence :: (beBytes 8 t2.toNat ++ beBytes 8 t3.toNat ++ [p2, p3, traceable])
  | .testCtl action kind mode test => [action, kind, mode, test]
  | .testAck action accepted frames bits errored =>
      [action, accepted] ++ beBytes 4 frames.toNat ++ beBytes 6 bits.toNat ++ beBytes 4 errored.toNat

/-- The body length of a kind, none for a kind that R41 does not list. -/
def bodyLengthOf (kind : Byte) : Option Nat :=
  match kind.toNat with
  | 0x01 => some 9
  | 0x02 => some 10
  | 0x03 => some 6
  | 0x04 => some 13
  | 0x05 => some 1
  | 0x06 => some 2
  | 0x07 => some 9
  | 0x08 => some 1
  | 0x10 => some 1
  | 0x11 => some 20
  | 0x20 => some 4
  | 0x21 => some 16
  | _ => none

/-- The number in `n` bytes from offset `i` of a body. -/
def field (body : List Byte) (i n : Nat) : Nat := beValue ((body.drop i).take n)

/-- The byte at an offset of a body. -/
def byteAt (body : List Byte) (i : Nat) : Byte := body.getD i 0

/-- Four successive bytes of a body, one for each tenant. -/
def quadAt (body : List Byte) (i : Nat) : PerTenant Byte :=
  ⟨byteAt body i, byteAt body (i + 1), byteAt body (i + 2), byteAt body (i + 3)⟩

/-- The message that a kind and a body spell, none for an unknown kind or a body of another length. -/
def parseMessage (kind : Byte) (body : List Byte) : Option LinkMessage :=
  if bodyLengthOf kind = some body.length then
    match kind.toNat with
    | 0x01 => some (.hello (byteAt body 0) (BitVec.ofNat 32 (field body 1 4)) (BitVec.ofNat 32 (field body 5 4)))
    | 0x02 => some (.join (BitVec.ofNat 32 (field body 0 4)) (BitVec.ofNat 16 (field body 4 2)) (quadAt body 6))
    | 0x03 => some (.joinAck (BitVec.ofNat 32 (field body 0 4)) (BitVec.ofNat 16 (field body 4 2)))
    | 0x04 => some (.shift (byteAt body 0) (byteAt body 1) (byteAt body 2) (quadAt body 3) (quadAt body 7)
        (BitVec.ofNat 16 (field body 11 2)))
    | 0x05 => some (.shiftAck (byteAt body 0))
    | 0x06 => some (.shiftNak (byteAt body 0) (byteAt body 1))
    | 0x07 => some (.status (BitVec.ofNat 16 (field body 0 2)) (BitVec.ofNat 16 (field body 2 2)) (quadAt body 4)
        (byteAt body 8))
    | 0x08 => some (.bye (byteAt body 0))
    | 0x10 => some (.timeReq (byteAt body 0))
    | 0x11 => some (.timeResp (byteAt body 0) (BitVec.ofNat 64 (field body 1 8)) (BitVec.ofNat 64 (field body 9 8))
        (byteAt body 17) (byteAt body 18) (byteAt body 19))
    | 0x20 => some (.testCtl (byteAt body 0) (byteAt body 1) (byteAt body 2) (byteAt body 3))
    | 0x21 => some (.testAck (byteAt body 0) (byteAt body 1) (BitVec.ofNat 32 (field body 2 4))
        (BitVec.ofNat 48 (field body 6 6)) (BitVec.ofNat 32 (field body 12 4)))
    | _ => none
  else none

/-- The message's bytes: kind, body and check, the more significant check byte first (R40). -/
def messageBytes (m : LinkMessage) : List Byte :=
  let covered := messageKind m :: messageBody m
  covered ++ crcBytes covered

/-- The hold flags of a STATUS: tenant 1 in bit 3 down to tenant 4 in bit 0 (R183). -/
def holdCode (h : PerTenant Bool) : Byte := byteOfBits h.toList

def holdOf (b : Byte) : PerTenant Bool := ⟨b.getLsbD 3, b.getLsbD 2, b.getLsbD 1, b.getLsbD 0⟩

/-! ### Reply fields (R181) -/

def enc8 (n : Nat) : List Byte := beBytes 1 n
def enc16 (n : Nat) : List Byte := beBytes 2 n
def enc32 (n : Nat) : List Byte := beBytes 4 n
def enc48 (n : Nat) : List Byte := beBytes 6 n
def encFlag (b : Bool) : List Byte := [flagCode b]
def encFrame (f : FrameNo) : List Byte := beBytes 2 f.toNat
def encCounts (c : PerTenant Nat) : List Byte := c.toList.flatMap enc8

/-- An optional field: a presence indication, then the field, or as many bytes 0 when it is absent (R181). -/
def encOpt {α : Type} (width : Nat) (f : α → List Byte) : Option α → List Byte
  | some a => 1 :: f a
  | none => 0 :: List.replicate width 0

/-- The nanoseconds of the time counter as one number (R124). -/
def timeNumber (t : Time) : Nat := t.seconds.toNat * 1000000000 + t.nanos

/-- The time counter in a reply: seconds, then nanoseconds (R181). -/
def encTime (t : Time) : List Byte := enc32 t.seconds.toNat ++ enc32 t.nanos

end Sys2Proof.Machine
end

