-- ==== Sys2Proof/Machine/Profiles.lean ====
section
/-! DEFINITION. The profile table (R3), the plan record's checks (R19) and the layout rule (R20). -/

namespace Sys2Proof.Machine

/-- The usable positions U of a profile (R3). A value above 5 is no profile; 64 stands there only to make the function
total, and every use is guarded by the range check of R8 or R19. -/
def usable : Nat → Nat
  | 0 => 12
  | 1 => 20
  | 2 => 28
  | 3 => 40
  | 4 => 52
  | _ => 64

/-- The quality a profile needs to hold, in 0.1 dB (R3). -/
def qualityNeed : Nat → Nat
  | 0 => 0
  | 1 => 90
  | 2 => 130
  | 3 => 170
  | 4 => 220
  | _ => 270

/-- The highest profile whose needed quality is at most `q` (R74). -/
def highestProfile (q : Nat) : Nat :=
  if 270 ≤ q then 5 else if 220 ≤ q then 4 else if 170 ≤ q then 3 else if 130 ≤ q then 2 else if 90 ≤ q then 1 else 0

/-- Every field of a plan lies in its range (R19). -/
def Plan.inRange (p : Plan) : Bool :=
  p.profile ≤ 5 && p.test ≤ 63 && p.counts.toList.all (· ≤ 63)

/-- A plan is well-formed when its positions fit below U (R19). -/
def Plan.wellFormed (p : Plan) : Bool :=
  p.inRange && 1 + p.test + p.counts.sum ≤ usable p.profile

/-- Carried fallback counts are well-formed when they make a well-formed profile-0 plan (R19). -/
def countsWellFormed (c : PerTenant Nat) : Bool := c.toList.all (· ≤ 63) && 1 + c.sum ≤ 12

/-- The owner of a slot position (R20). -/
inductive Owner where
  | linkControl
  | test
  | tenant (t : Tenant)
  | spare
  | dark
  deriving DecidableEq, Repr

/-- The layout rule (R20): the owner of position `k` under a plan. -/
def ownerOf (p : Plan) (k : Nat) : Owner :=
  let c := p.counts
  if k = 0 then .linkControl
  else if usable p.profile ≤ k then .dark
  else if k ≤ p.test then .test
  else if k ≤ p.test + c.t1 then .tenant .t1
  else if k ≤ p.test + c.t1 + c.t2 then .tenant .t2
  else if k ≤ p.test + c.t1 + c.t2 + c.t3 then .tenant .t3
  else if k ≤ p.test + c.t1 + c.t2 + c.t3 + c.t4 then .tenant .t4
  else .spare

/-- The code of an owner in the owner map of PLAN_READ (R181). -/
def ownerCode : Owner → Byte
  | .linkControl => 0
  | .test => 1
  | .tenant .t1 => 2
  | .tenant .t2 => 3
  | .tenant .t3 => 4
  | .tenant .t4 => 5
  | .spare => 6
  | .dark => 7

/-- The owner map of a plan: 64 entries (R20, R37). -/
def ownerMap (p : Plan) : List Owner := (List.range 64).map (ownerOf p)

/-- The loop plan of a LOOP test (R35). -/
def loopPlan (t : Nat) : Plan := { number := 0, profile := 0, test := t, counts := PerTenant.const 0, flagged := false }

/-- The fallback plan that an activation leaves: profile 0, T = 0, the carried counts and the activated plan's number
(R25, R30). -/
def fallbackPlan (number : PlanNo) (carried : PerTenant Nat) : Plan :=
  { number := number, profile := 0, test := 0, counts := carried, flagged := true }

/-! ### The frame header (R6, R8, R182) -/

/-- The fields of a good header. -/
structure Header where
  frame : FrameNo
  profile : Nat
  flagged : Bool
  number : PlanNo
  nibbles : PerTenant Nibble
  deriving DecidableEq, Repr

/-- The alignment word (R182). -/
def alignmentWord : List Byte := [0x5E, 0x27, 0xB4, 0x61]

/-- The first ten bytes of a header (R182). -/
def headerFields (h : Header) : List Byte :=
  alignmentWord ++ encFrame h.frame ++
    [(if h.flagged then 0x80 else 0) ||| BitVec.ofNat 8 h.profile, h.number,
     (nibbleCode h.nibbles.t1 <<< 4) ||| nibbleCode h.nibbles.t2,
     (nibbleCode h.nibbles.t3 <<< 4) ||| nibbleCode h.nibbles.t4]

/-- The twelve bytes of a header: the fields, then the header check (R6). -/
def headerBytes (h : Header) : List Byte := headerFields h ++ crcBytes (headerFields h)

/-- How R8 judges a received position 0 that the modem could decode. -/
inductive HeaderVerdict where
  | notGood
  | good (h : Header)
  deriving DecidableEq, Repr

/-- The judgement of R8: alignment word, header check, then profile field. -/
def judgeHeader (position0 : List Byte) : HeaderVerdict :=
  let fields := position0.take 10
  let profile := (byteAt position0 6 &&& 0x7F).toNat
  if fields.take 4 = alignmentWord ∧ (position0.drop 10).take 2 = crcBytes fields ∧ profile ≤ 5 then
    .good
      { frame := BitVec.ofNat 16 (field position0 4 2), profile := profile,
        flagged := (byteAt position0 6).getLsbD 7, number := byteAt position0 7,
        nibbles := ⟨upperNibble (byteAt position0 8), lowerNibble (byteAt position0 8),
                    upperNibble (byteAt position0 9), lowerNibble (byteAt position0 9)⟩ }
  else .notGood

end Sys2Proof.Machine
end

