-- ==== Sys2Proof/Machine/Ops.lean ====
section
/-! DEFINITION. The named operations that every block shares: counting (R175), queueing reports (R169, R170), offering
messages to the Message Channel (R44 to R47) and keeping refused ones (R45), and the opening of a frame boundary. -/

namespace Sys2Proof.Machine

/-! ### Counters (R175) -/

/-- Add one, saturating, to the counter at an index. -/
def bumpAt (counters : List Nat) (i : Nat) : List Nat := counters.modify i satInc

/-- Count one in the link group. -/
def countLink (c : LinkCounter) (s : State) : State :=
  s.modCB fun cb => { cb with live := { cb.live with link := bumpAt cb.live.link c.ctorIdx } }

/-- Count one in the message channel group. -/
def countChannel (c : ChannelCounter) (s : State) : State :=
  s.modCB fun cb => { cb with live := { cb.live with channel := bumpAt cb.live.channel c.ctorIdx } }

/-- Count one in the timing group. -/
def countTiming (c : TimingCounter) (s : State) : State :=
  s.modCB fun cb => { cb with live := { cb.live with timing := bumpAt cb.live.timing c.ctorIdx } }

/-- Count one in the test group. -/
def countTest (c : TestCounter) (s : State) : State :=
  s.modCB fun cb => { cb with live := { cb.live with test := bumpAt cb.live.test c.ctorIdx } }

/-- Count one in the control group. -/
def countControl (c : ControlCounter) (s : State) : State :=
  s.modCB fun cb => { cb with live := { cb.live with control := bumpAt cb.live.control c.ctorIdx } }

/-- Count one in a tenant's group. -/
def countTenant (t : Tenant) (c : TenantCounter) (s : State) : State :=
  s.modCB fun cb =>
    { cb with live := { cb.live with tenants := cb.live.tenants.set t (bumpAt (cb.live.tenants.get t) c.ctorIdx) } }

/-- Count `n` events, one after another. -/
def countTimes (count : State → State) : Nat → State → State
  | 0, s => s
  | n + 1, s => countTimes count n (count s)

/-- Count one when a condition holds. -/
def countIf (cond : Bool) (count : State → State) (s : State) : State := if cond then count s else s

/-- The counters of what areas carry, as they stand. -/
def Bank.sent (b : Bank) : SentCounts :=
  { messages := b.channel.getD ChannelCounter.messagesSent.ctorIdx 0,
    requests := b.timing.getD TimingCounter.requestsSent.ctorIdx 0,
    responses := b.timing.getD TimingCounter.responsesSent.ctorIdx 0 }

/-- The bank with those counters at given values. -/
def Bank.withSent (c : SentCounts) (b : Bank) : Bank :=
  { b with channel := b.channel.set ChannelCounter.messagesSent.ctorIdx c.messages,
           timing := (b.timing.set TimingCounter.requestsSent.ctorIdx c.requests).set
             TimingCounter.responsesSent.ctorIdx c.responses }

/-- Count what the area composed at this boundary carries (R43, R128, R131): its messages, and whether a TIME_REQ that
starts an exchange or a TIME_RESP is among them. The counts before are kept, for an entry to SEARCH or OFF at this boundary
(R54). -/
def countArea (placed : Nat) (request response : Bool) (s : State) : State :=
  let s := s.modCB fun cb => { cb with beforeArea := some cb.live.sent }
  let s := countTimes (countChannel .messagesSent) placed s
  countIf response (countTiming .responsesSent) (countIf request (countTiming .requestsSent) s)

/-- The area composed at this boundary is not sent: its counts stand as if it had carried nothing (R54). DESIGN CHOICE (log
26): counts that a capture has copied since stand. -/
def uncountArea (s : State) : State :=
  s.modCB fun cb =>
    match cb.beforeArea with
    | some c => { cb with live := cb.live.withSent c }
    | none => cb

/-! ### Reports (R169, R170) -/

/-- The eight detail bytes, unused ones 0. -/
def detailOf (bytes : List Byte) : List Byte := (bytes ++ List.replicate 8 0).take 8

/-- Offer a report to the report queue (R170). -/
def offerReport (r : Report) (s : State) : State :=
  if s.cp.reports.length < 32 then s.modCP fun cp => { cp with reports := cp.reports ++ [r] }
  else countControl .reportsLost (s.modCP fun cp => { cp with lost := true })

/-- Queue a report that carries the current frame number. DESIGN CHOICE (log 34): where one event brings reports of several
blocks, which R169 lets stand in either order, they are queued in the order in which the event's definition calls this. -/
def report (kind : ReportKind) (subject : Nat) (detail : List Byte) (s : State) : State :=
  offerReport { kind := kind, subject := subject, frame := s.mp.frame, detail := detailOf detail } s

/-! ### Offers to the Message Channel -/

/-- The message is a STATUS. -/
def isStatus : LinkMessage → Bool
  | .status .. => true
  | _ => false

/-- Put a STATUS in the place of the one held (R46). -/
def replaceStatus (m : LinkMessage) (queue : List LinkMessage) : List LinkMessage :=
  queue.map fun q => if isStatus q then m else q

/-- Offer a message to the transmit queue; the answer says whether it was accepted (R45, R46). -/
def offerQueue (m : LinkMessage) (s : State) : State × Bool :=
  if isStatus m && s.mc.queue.any isStatus then
    (countChannel .statusReplacements (s.modMC fun mc => { mc with queue := replaceStatus m mc.queue }), true)
  else if s.mc.queue.length < 8 then (s.modMC fun mc => { mc with queue := mc.queue ++ [m] }, true)
  else (countChannel .queueFullRefusals s, false)

/-- The messages a producer keeps for a retry. -/
def keptOf (p : Producer) (s : State) : List KeptMessage :=
  match p with
  | .linkController => s.lc.kept
  | .selfTest => s.st.kept

/-- Replace the messages a producer keeps. -/
def setKept (p : Producer) (ks : List KeptMessage) (s : State) : State :=
  match p with
  | .linkController => s.modLC fun lc => { lc with kept := ks }
  | .selfTest => s.modST fun st => { st with kept := ks }

/-- Keep a message behind those already kept; a STATUS takes the place of a kept STATUS (R45, R46). DESIGN CHOICE (log 36):
that place is the old STATUS's own, ahead of the messages built since. -/
def keepMessage (m : LinkMessage) (fresh : Bool) (ks : List KeptMessage) : List KeptMessage :=
  if isStatus m && ks.any (fun k => isStatus k.message) then
    ks.map fun k => if isStatus k.message then { k with message := m } else k
  else ks ++ [⟨m, fresh⟩]

/-- A producer hands a message it built to the queue: it is offered at once, or kept behind the messages the producer
already keeps, or kept when the queue refuses it (R45). -/
def send (p : Producer) (m : LinkMessage) (s : State) : State :=
  if keptOf p s = [] then
    match offerQueue m s with
    | (s', true) => s'
    | (s', false) => setKept p [⟨m, true⟩] s'
  else setKept p (keepMessage m false (keptOf p s)) s

/-- Offer kept messages again, oldest first (R45). DESIGN CHOICE (log 27): once one is refused, those behind it are not
offered at this boundary, nor counted as refused. Answers the state and what is still kept. -/
def retryMessages : List KeptMessage → State → State × List KeptMessage
  | [], s => (s, [])
  | k :: ks, s =>
    if k.fresh then (s, k :: ks)
    else
      match offerQueue k.message s with
      | (s', true) => retryMessages ks s'
      | (s', false) => (s', k :: ks)

/-- Offer a message to the time-message holder (R44). -/
def offerTime (m : LinkMessage) (s : State) : State :=
  let s := if s.mc.timeHolder.isSome then countChannel .timeReplacements s else s
  s.modMC fun mc => { mc with timeHolder := some m }

/-- Place a message in the repeat-message holder (R47). -/
def placeRepeat (m : LinkMessage) (s : State) : State := s.modMC fun mc => { mc with repeatHolder := some m }

/-- Clear the repeat-message holder (R47). -/
def clearRepeat (s : State) : State := s.modMC fun mc => { mc with repeatHolder := none }

/-! ### The opening of a frame boundary -/

/-- A change due at the boundary that follows becomes due now. -/
def Due.age : Due → Due
  | .no => .no
  | .next => .now
  | .now => .now

/-- The Modem Port at the opening of a boundary: the frame number advances, or takes the number R2 gave (R1, R2). -/
def openMP (mp : MP) : MP :=
  { mp with frame := mp.renumber.getD (mp.frame + 1), renumber := none, composed := false, rxTaken := false,
            loopDue := mp.loopDue.age }

/-- The Plan Store at the opening of a boundary. -/
def openPS (ps : PS) : PS :=
  { ps with idleDue := ps.idleDue.age, fallbackDue := ps.fallbackDue.age,
            pending := ps.pending.map fun p => { p with mark := p.mark.age } }

/-- The kept messages may be offered again from the opening of a boundary on (R45). -/
def unfreshen (ks : List KeptMessage) : List KeptMessage := ks.map fun k => { k with fresh := false }

/-- The Link Controller at the opening of the boundary that begins frame `f`: the counts of boundaries rise (R75, R81),
the fourth boundary of a stop has come when its count is 0 (R63), and the periodic steps fall due (R71, R75). -/
def openLC (f : FrameNo) (lc : LC) : LC :=
  { lc with sinceChange := min (lc.sinceChange + 1) 2000,
            lostCount := if lc.link = .lost then lc.lostCount.map (· + 1) else lc.lostCount,
            stop := lc.stop.map fun st => { st with offDue := st.offDue || st.count == 0 },
            freeNotice := lc.freeNotice.age, resolvedHere := false,
            statusDue := f.toNat % 64 == 0, riseDue := f.toNat % 64 == 0, retryDue := true,
            kept := unfreshen lc.kept }

/-- The Timing Unit at the opening of a boundary: the holdover timer rises in HOLDOVER (R140), the boundaries since the
last reference pulse are counted (R127; up to 65,535, log 11), and the pulse driven in the frame before is over
(R141, log 13). -/
def openTM (tm : TM) : TM :=
  { tm with holdoverTimer :=
              if tm.state = .holdover then tm.holdoverTimer.map fun n => satInc n else tm.holdoverTimer,
            pulse := tm.pulse.map fun p => { p with age := min (p.age + 1) 65535 },
            firstOffer := tm.firstOffer.age, pps := false }

/-- Open the next frame boundary: what every boundary brings before any of its steps. DESIGN CHOICE (log 35): a
renumbering (R2) is counted here, at the first boundary that gets its number from it, not where lock was gained. -/
def openBoundary (s : State) : State :=
  let f := (openMP s.mp).frame
  let s := if s.mp.renumber.isSome && f != s.mp.frame + 1 then countLink .renumberings s else s
  { s with
    mp := openMP s.mp,
    ps := openPS s.ps,
    mc := { s.mc with restart := s.mc.restart.age, abortArea := false, released := 0 },
    lc := openLC f s.lc,
    ca := { s.ca with windowDue := f.toNat % 256 == 0 },
    tm := openTM s.tm,
    st := { s.st with retryDue := true, kept := unfreshen s.st.kept },
    cb := { s.cb with captureDue := s.cb.captureDue.age, beforeArea := none } }

/-- A step of a frame boundary (log 4). It is taken at the boundary under way when its condition holds there; otherwise
it opens the next boundary, when the frame in progress has been composed and the condition holds at that boundary;
otherwise its moment has not come and nothing changes. -/
def atBoundary (cond : State → Bool) (act : State → State) (s : State) : State :=
  if cond s then act s
  else if s.mp.composed && cond (openBoundary s) then act (openBoundary s)
  else s

end Sys2Proof.Machine
end

