-- ==== Sys2Proof/Machine/Flags.lean ====
section
/-! DEFINITION. The flags, lines, conditions and figures that the spec derives from the state. -/

namespace Sys2Proof.Machine

/-! ### Lines and indications -/

/-- The attention line: the report queue is not empty and attention is enabled (R172). -/
def attentionLine (s : State) : Bool := !s.cp.reports.isEmpty && s.cp.attention

/-- The mute condition at a boundary (R17). -/
def muted (s : State) : Bool := s.lc.link == .off || s.mp.loopback

/-- The timing state allows the pulse-per-second output (R141): LOCKED, or HOLDOVER not expired. -/
def pulsing (tm : TM) : Bool := tm.state == .locked || (tm.state == .holdover && !tm.expired)

/-- The link is in the pair of states UP and SHIFT (R129). -/
def inPair : LinkState → Bool
  | .up => true
  | .shift => true
  | _ => false

/-- The link is in UP, SHIFT or LOST. -/
def inService : LinkState → Bool
  | .lost => true
  | l => inPair l

/-! ### Tenants -/

/-- The blocks of a packet of `n` bytes (R93). -/
def blocksFor (n : Nat) : Nat := (n + 255) / 256

/-- The blocks a queued packet still holds: those whose last byte has not been placed (R93, R98). -/
def packetBlocks (p : QPacket) : Nat :=
  if p.rest.isEmpty then 0 else blocksFor p.length - (p.length - p.rest.length) / 256

/-- A tenant's occupancy (R93). -/
def occupancy (t : TenantRec) : Nat := (t.queue.map packetBlocks).sum

/-- The packet bytes of a queue not yet placed in any frame (R107). -/
def unsentBytes (t : TenantRec) : Nat := (t.queue.map fun p => p.rest.length).sum

/-- A tenant's allowance under the active plan (R94). -/
def allowance (active : Plan) (tenant : Tenant) (t : TenantRec) : Nat :=
  min t.config.queueLimit (48 * active.counts.get tenant)

/-- The reserved count: the sum of the ready credits (R96). -/
def reserved (tn : TN) : Nat := (tn.tenants.map fun t => t.ready.getD 0).sum

/-- The unreserved free count (R96). -/
def unreservedFree (tn : TN) : Nat := tn.free - reserved tn

/-- The hold flag's rule (R97), from the occupancy, the allowance and the flag as it stands. -/
def holdRule (occ allow : Nat) (held : Bool) : Bool :=
  if allow ≤ occ then true else if occ ≤ allow / 2 then false else held

/-- A tenant state nibble (R7). -/
def nibbleOf (t : TenantRec) : Nibble :=
  { isOpen := t.state != .closed, draining := t.state == .draining, syncOk := t.syncOk, hold := t.hold }

/-- The sync condition's rule (R103). -/
def syncRule (role : Role) (tm : TM) (dependent : Bool) : Bool :=
  !dependent ||
    match role with
    | .site => pulsing tm
    | .hub => tm.state == .reference

/-- A tenant's class (R109). -/
def classOf (t : TenantRec) : TenantClass :=
  if t.state = .active ∧ t.syncOk then .eligible
  else if t.state = .draining ∧ t.queue ≠ [] ∧ t.syncOk then .drainingHeld
  else .none

/-- The committed slots of the tenants that are not CLOSED, one tenant left out (R86 to R88). -/
def committedOthers (tn : TN) (tenant : Tenant) : Nat :=
  ((Tenant.all.filter fun u => u ≠ tenant ∧ (tn.tenants.get u).state ≠ .closed).map
    fun u => (tn.tenants.get u).config.committed).sum

/-- The sum of the committed slots over all tenants that are not CLOSED (R87). -/
def committedSum (tn : TN) : Nat :=
  ((Tenant.all.filter fun u => (tn.tenants.get u).state ≠ .closed).map
    fun u => (tn.tenants.get u).config.committed).sum

/-- The condition under which a DRAINING tenant closes (R91). -/
def closeCondition (s : State) (tenant : Tenant) : Bool :=
  let t := s.tn.tenants.get tenant
  t.state == .draining && t.queue.isEmpty && s.ps.active.counts.get tenant == 0 &&
    (match s.ps.pending with
     | none => true
     | some p => p.plan.counts.get tenant == 0 && p.carried.get tenant == 0) &&
    s.ps.fallback.counts.get tenant == 0 &&
    (match s.lc.role, s.lc.link, s.lc.joinRecord with
     | .site, .join, some j => j.counts.get tenant == 0
     | _, _, _ => true)

/-! ### The quality figures (R70) -/

/-- The fast minimum: the least of the most recent 16 samples, 0 while the history is empty. -/
def fastMinimum (history : List Nat) : Nat :=
  match history.drop (history.length - 16) with
  | [] => 0
  | q :: qs => qs.foldl min q

/-- The slow mean: the floor of the mean of the samples held, 0 while the history is empty. -/
def slowMean (history : List Nat) : Nat := history.sum / history.length

/-! ### The Link Controller -/

/-- The timing cap (R73). -/
def timingCap (s : State) : Nat :=
  match s.lc.role with
  | .hub => 5
  | .site => if s.tm.state = .locked ∨ s.tm.state = .holdover then 5 else 3

/-- The ceiling (R73). -/
def ceiling (s : State) : Nat := min s.lc.hostMax (min s.st.commissioned (timingCap s))

/-- The Link Controller is free (R111). -/
def lcFree (s : State) : Bool :=
  s.lc.link == .up && s.ps.pending.isNone && s.lc.retryEnd.isNone && s.lc.stop.isNone

/-- The test record holds a test in ARMING, STARTING, RUNNING or STOPPING. -/
def testBusy (st : ST) : Bool :=
  match st.state with
  | .idle => false
  | .done => false
  | _ => true

/-- A profile sweep is running (R74, R159). -/
def sweepBusy (st : ST) : Bool := st.kind == some .sweep && testBusy st

/-- A FAR test holds off the rise (R75). -/
def farBusy (st : ST) : Bool := st.kind == some .far && testBusy st

/-- The conditions that R74 and R75 share, with that of R79: no shift resolved at this boundary. -/
def decisionsOpen (s : State) : Bool :=
  s.lc.role == .site && lcFree s && !sweepBusy s.st && !s.lc.resolvedHere

/-- A fall is called for (R74), under the conditions for evaluating it. -/
def fallCalled (s : State) : Bool :=
  let q := min (fastMinimum s.lc.history) s.lc.farFast
  decisionsOpen s && (q < qualityNeed s.ps.active.profile || ceiling s < s.ps.active.profile)

/-- The target of a fall (R74). -/
def fallTarget (s : State) : Nat :=
  min (highestProfile (min (fastMinimum s.lc.history) s.lc.farFast)) (ceiling s)

/-- A rise is called for (R75). It is not where a fall is called for. -/
def riseCalled (s : State) : Bool :=
  let q := min (slowMean s.lc.history) s.lc.farSlow
  let p := s.ps.active.profile
  decisionsOpen s && !fallCalled s && 2000 ≤ s.lc.sinceChange && !farBusy s.st &&
    p < 5 && p + 1 ≤ ceiling s && qualityNeed (p + 1) + s.lc.hysteresis ≤ q

/-- The identity checks of R66: the wanted peer id against the HELLO's site id, and the HELLO's wanted peer id against
the part's own site id. -/
def identityPasses (identity : Option Identity) (siteId peer : SiteId) : Bool :=
  match identity with
  | none => false
  | some me => (me.peer == 0 || me.peer == siteId) && (peer == 0 || peer == me.siteId)

/-- The wanted peer id admits a site id (R67). -/
def peerAdmits (identity : Option Identity) (siteId : SiteId) : Bool :=
  match identity with
  | none => false
  | some me => me.peer == 0 || me.peer == siteId

/-- An effective frame is ahead of the current frame by 4 to 32,767 frames (R67, R77). -/
def leadHolds (effective now : FrameNo) : Bool := 4 ≤ framesAhead effective now && framesAhead effective now ≤ 32767

/-! ### The Self-Test Unit -/

/-- A test is clear of the plans (R157). -/
def clearOfPlans (ps : PS) : Bool :=
  ps.active.test == 0 &&
    match ps.pending with
    | none => true
    | some p => p.plan.test == 0

/-- The judgement of a test's errored bits (R156). -/
def judgeErrors (st : ST) : TestOutcome := if st.errored ≤ st.allowed.getD 0 then .passed else .failed

/-- The commissioned ceiling that a sweep's end sets (R160). -/
def ceilingFromStages (st : ST) : Nat :=
  if st.stagesComplete = 0 then st.saved.getD st.commissioned
  else ((st.stages.take st.stagesComplete).takeWhile fun e =>
    match e with
    | some entry => entry.errored == 0
    | none => false).length - 1

end Sys2Proof.Machine
end

