-- ==== Sys2Proof/Machine/Channel.lean ====
section
/-! DEFINITION. The Message Channel (03): the area as a bit stream (R38 to R43), the receive assembler (R48 to R50) and
the channel restart (R53 to R55). -/

namespace Sys2Proof.Machine

/-! ### Composing an area -/

/-- The flag 01111110 (R38). -/
def flagBits : List Bool := [false, true, true, true, true, true, true, false]

/-- Zero insertion (R39); `ones` counts the consecutive 1 bits sent just before. -/
def insertZeros : Nat → List Bool → List Bool
  | _, [] => []
  | ones, b :: bs =>
    if b then
      if ones + 1 = 5 then true :: false :: insertZeros 0 bs else true :: insertZeros (ones + 1) bs
    else false :: insertZeros 0 bs

/-- The bits of a message as sent: kind, body and check, with zero insertion (R39, R40). -/
def sentBits (m : LinkMessage) : List Bool := insertZeros 0 (bitsOf (messageBytes m))

/-- The number of bits of an area. -/
def areaBits : Nat := 6048

/-- `n` flags in a row. -/
def flags (n : Nat) : List Bool := (List.replicate n flagBits).flatten

/-- The area as it is being composed: the bits laid down so far and whether a message has been placed. -/
structure AreaDraft where
  bits : List Bool
  placed : Nat
  deriving DecidableEq, Repr

/-- The draft with only the opening flag (R38). -/
def AreaDraft.opening : AreaDraft := ⟨flagBits, 0⟩

/-- Place a message when it and its closing flag end inside the area (R43): the F inter-message flags of R42 before it
when another message stands before it (the first of them, its closing flag, is already laid down), the message, and its
closing flag. -/
def placeMessage (f : Nat) (m : LinkMessage) (d : AreaDraft) : Option AreaDraft :=
  let between := if d.placed = 0 then [] else flags (f - 1)
  let bits := d.bits ++ between
  let sent := sentBits m
  if bits.length + sent.length + 8 ≤ areaBits then some ⟨bits ++ sent ++ flagBits, d.placed + 1⟩ else none

/-- Place messages from the head of the queue until one does not fit (R43). Answers the draft and what stays queued. -/
def placeQueue (f : Nat) : List LinkMessage → AreaDraft → AreaDraft × List LinkMessage
  | [], d => (d, [])
  | m :: ms, d =>
    match placeMessage f m d with
    | some d' => placeQueue f ms d'
    | none => (d, m :: ms)

/-- End the area with whole flags while one fits, then 0 bits (R38). -/
def finishArea (d : AreaDraft) : List Byte :=
  let room := areaBits - d.bits.length
  bytesOf (d.bits ++ flags (room / 8) ++ List.replicate (room % 8) false)

/-- The area of a restart: the opening flag, the abort as eight 1 bits, then 754 flags (R54). -/
def abortAreaBytes : List Byte := 0x7E :: 0xFF :: List.replicate 754 0x7E

/-! ### The receive assembler -/

/-- What the assembler found in one area: messages in the order of their closing flags, each with whether it began at
bit 8, and the counters to count, in order. -/
structure Found where
  messages : List (LinkMessage × Bool)
  counts : List ChannelCounter
  deriving DecidableEq, Repr

/-- The assembler's mode (R48): in MESSAGE, the bit position after the opening flag and the gathered bits, latest
first. -/
inductive Assembly where
  | hunt
  | message (start : Nat) (gathered : List Bool)
  deriving DecidableEq, Repr

/-- The assembler at work: its mode, the run of 1 bits just received and what it has found (latest first). `ones` stands
at 7 where no run can be part of a flag (before the first bit of the area). -/
structure Assembler where
  mode : Assembly
  ones : Nat
  messages : List (LinkMessage × Bool)
  counts : List ChannelCounter
  deriving DecidableEq, Repr

/-- The judgement of a message ended by a flag (R50). -/
def judgeMessage (bits : List Bool) : Except ChannelCounter LinkMessage :=
  if bits.length < 24 then .error .runts
  else if bits.length % 8 ≠ 0 then .error .checkFailures
  else
    let bytes := bytesOf bits
    let covered := bytes.take (bytes.length - 2)
    if bytes.drop (bytes.length - 2) ≠ crcBytes covered then .error .checkFailures
    else
      match covered with
      | [] => .error .runts
      | kind :: body =>
        if bodyLengthOf kind = none then .error .unknownKinds
        else
          match parseMessage kind body with
          | some m => .ok m
          | none => .error .wrongLength

/-- The longest message, in bits: 67 bytes (R50). -/
def longestMessage : Nat := 536

/-- The message that a flag ends: the bits gathered since the flag before, without the six 1 bits of this flag and without
the 0 before them, unless that 0 was removed as an inserted zero or ended the flag before (R48). -/
def endedBits (gathered : List Bool) : List Bool :=
  match gathered.drop 6 with
  | false :: rest => rest.reverse
  | rest => rest.reverse

/-- A flag has ended: the message before it is judged (R48, R50); `next` is the bit position after the flag. -/
def endMessage (start next : Nat) (gathered : List Bool) (a : Assembler) : Assembler :=
  let bits := endedBits gathered
  let a := { a with mode := .message next [], ones := 0 }
  if bits = [] then a
  else if longestMessage < bits.length then { a with counts := .oversize :: a.counts }
  else
    match judgeMessage bits with
    | .ok m => { a with messages := (m, start == 8) :: a.messages }
    | .error c => { a with counts := c :: a.counts }

/-- Seven consecutive 1 bits have come: an abort (R49), unless the bits before them had already passed the longest message
(R50, log 18). -/
def abortOrOversize (gathered : List Bool) : ChannelCounter :=
  if longestMessage + 6 < gathered.length then .oversize else .abortsReceived

/-- What is still gathered when the area ends (R48, R50). -/
def openMessage (gathered : List Bool) : List ChannelCounter :=
  if longestMessage < gathered.length then [.oversize]
  else if 8 ≤ gathered.length then [.unterminated]
  else []

/-- One bit of the area at position `i` (R48 to R50). The six 1 bits of a flag and the 0 before them are gathered until the
flag's end shows what they were, so a message is known to be oversize at the latest when seven bits more than the longest
message have been gathered. -/
def assembleBit (i : Nat) (bit : Bool) (a : Assembler) : Assembler :=
  match a.mode with
  | .hunt =>
    if bit then { a with ones := a.ones + 1 }
    else if a.ones = 6 then { a with mode := .message (i + 1) [], ones := 0 }
    else { a with ones := 0 }
  | .message start gathered =>
    if bit then
      if a.ones = 6 then { a with mode := .hunt, ones := 7, counts := abortOrOversize gathered :: a.counts }
      else
        let g := true :: gathered
        if longestMessage + 7 < g.length then { a with mode := .hunt, ones := a.ones + 1, counts := .oversize :: a.counts }
        else { a with mode := .message start g, ones := a.ones + 1 }
    else if a.ones = 5 then { a with ones := 0 }
    else if a.ones = 6 then endMessage start (i + 1) gathered a
    else
      let g := false :: gathered
      if longestMessage + 7 < g.length then { a with mode := .hunt, ones := 0, counts := .oversize :: a.counts }
      else { a with mode := .message start g, ones := 0 }

/-- The bits of an area, in order, from position `i`. -/
def assembleBits : Nat → List Bool → Assembler → Assembler
  | _, [], a => a
  | i, b :: bs, a => assembleBits (i + 1) bs (assembleBit i b a)

/-- The assembler at the start of an area: HUNT, nothing gathered (R48). -/
def Assembler.start : Assembler := ⟨.hunt, 7, [], []⟩

/-- A whole area (R48): what it held, with what is still gathered at its end judged. -/
def assembleArea (area : List Byte) : Found :=
  let a := assembleBits 0 (bitsOf area) Assembler.start
  let counts :=
    match a.mode with
    | .hunt => a.counts
    | .message _ gathered => openMessage gathered ++ a.counts
  ⟨a.messages.reverse, counts.reverse⟩

end Sys2Proof.Machine
end

