-- ==== Sys2Proof/Machine/SelfTest.lean ====
section
/-! DEFINITION. The Self-Test Unit (08): pattern and checks, the filling of TEST positions, the test's ends, and what the
unit does on plan changes, link changes and messages. Changes of the requested T and profile are handed to the Capacity
Allocator by the callers (`withTestTrigger`, Capacity.lean). -/

namespace Sys2Proof.Machine

/-! ### The pattern (R147) -/

/-- The seed for a position of a frame. -/
def patternSeed (f : FrameNo) (p : Nat) : BitVec 15 := BitVec.ofNat 15 ((f.toNat * 64 + p) % 32767 + 1)

/-- One step of the shift register: stage 15 is the most significant bit, stage 1 takes the exclusive-or of the old
stages 15 and 14. -/
def patternStep (x : BitVec 15) : BitVec 15 :=
  (x <<< 1) ||| (if x.getLsbD 14 != x.getLsbD 13 then 1#15 else 0#15)

/-- The first `n` outputs of the register. -/
def patternBits : Nat → BitVec 15 → List Bool
  | 0, _ => []
  | n + 1, x => x.getLsbD 14 :: patternBits n (patternStep x)

/-- The 768 bytes of the pattern for a position of a frame. -/
def testPattern (f : FrameNo) (p : Nat) : List Byte := bytesOf (patternBits 6144 (patternSeed f p))

/-! ### Checks (R148) -/

/-- The largest value of bits compared. -/
def bitsLimit : Nat := 281474976710655

/-- The largest 32-bit value. -/
def wordLimit : Nat := 4294967295

/-- The bits that differ from the pattern over the TEST positions of one frame. -/
def erroredBits (origin : FrameNo) (positions : List (Nat × List Byte)) : Nat :=
  (positions.map fun p => bitDifference (testPattern origin p.1) p.2).sum

/-- Count one frame tested, wrapping (R148). -/
def countFrame (st : ST) : ST :=
  if st.frames = wordLimit then { st with frames := 0, wrapped := true } else { st with frames := st.frames + 1 }

/-- Add the checks of one received frame to the test record (R148): `n` positions with `errs` errored bits. -/
def addChecks (n errs : Nat) (st : ST) : ST :=
  let st := countFrame st
  { st with bits := min (st.bits + n * 6144) bitsLimit, errored := min (st.errored + errs) wordLimit,
            erroredFrames := st.erroredFrames.map fun e => if errs = 0 then e else min (e + 1) wordLimit }

/-- Add the checks of one received frame to the responder context (R153). -/
def addResponderChecks (n errs : Nat) (r : Responder) : Responder :=
  { r with frames := if r.frames = wordLimit then 0 else r.frames + 1, bits := min (r.bits + n * 6144) bitsLimit,
           errored := min (r.errored + errs) wordLimit }

/-- One frame more in a stage's entry. -/
def stageFrame (errs : Nat) (e : Option StageEntry) : Option StageEntry :=
  let entry := e.getD ⟨0, 0⟩
  some { frames := entry.frames + 1, errored := if errs = 0 then entry.errored else entry.errored + 1 }

/-- Add a frame to a sweep stage's entry when its origin lies in A to A + 2,047 (R159). -/
def addStageFrame (origin : FrameNo) (errs : Nat) (st : ST) : ST :=
  match st.kind, st.stageActive with
  | some .sweep, some (p, a) =>
    if framesAhead origin a ≤ 2047 then
      { st with stages := st.stages.modify p (stageFrame errs) }
    else st
  | _, _ => st

/-! ### The local loopback switch (R18) -/

/-- Set or clear the switch: a change takes effect at the boundary following it. DESIGN CHOICE (log 21): a switch set and
cleared again before that boundary, by a LOOP test started and stopped within one frame, or the reverse, is no change. -/
def setLoopSwitch (on : Bool) (s : State) : State :=
  s.modMP fun mp => { mp with loopSwitch := on, loopDue := if mp.loopback == on then .no else .next }

/-! ### Ends of a test (R155 to R157) -/

/-- The T that a test's TEST_CTL carries: for a sweep 11, the T of stage 0 (R151). -/
def controlTest (st : ST) : Nat := if st.kind = some .sweep then 11 else st.test.getD 0

/-- A TEST_CTL of the unit's own test (R151, R155). -/
def testControl (action : Byte) (st : ST) : LinkMessage :=
  .testCtl action (testKindCode (st.kind.getD .far)) (testModeCode (st.mode.getD .check))
    (BitVec.ofNat 8 (controlTest st))

/-- A test in STOPPING that is clear of the plans and awaits no answer enters DONE (R157) and queues TEST_DONE
(R161). DESIGN CHOICE (log 25): this stands in the event that ended the test when the test is already clear there, and the
TEST trigger then sees the request of DONE. -/
def tryDone (s : State) : State :=
  let st := s.st
  if st.state = .stopping ∧ clearOfPlans s.ps ∧ ¬ st.awaiting then
    let outcome := st.verdict.getD .abortedLink
    let kind := st.kind.getD .loop
    report .testDone 0
      ([testKindCode kind, outcomeCode outcome, flagCode st.wrapped,
        if kind = .sweep then BitVec.ofNat 8 st.commissioned else 0xFF] ++ enc32 st.frames)
      (s.modST fun st =>
        { st with state := .done, outcome := some outcome, verdict := none, deadline := none, reqTest := 0,
                  reqProfile := none })
  else s

/-- The end of a test (R155 to R157, R160): STOPPING, with the outcome fixed unless the stop answer will give it; the
requested T becomes 0 and, for a sweep, the requested profile 0; a LOOP test clears the switch; a FAR test or a sweep
offers its TEST_CTL STOP unless the end is taken at an entry to SEARCH or OFF. -/
def stopTest (verdict : Option TestOutcome) (offerStop await : Bool) (s : State) : State :=
  let st := s.st
  let sweep := st.kind == some .sweep
  let loop := st.kind == some .loop
  let s := s.modST fun st =>
    { st with state := .stopping, verdict := verdict, reqTest := 0,
              reqProfile := if sweep then some 0 else none,
              deadline := if await then some (frameAdd s.mp.frame 64) else none, awaiting := await,
              commissioned := if sweep then ceilingFromStages st else st.commissioned,
              saved := if sweep then none else st.saved }
  let s := if loop then setLoopSwitch false s else s
  let s := if offerStop && !loop then send .selfTest (testControl actionStop st) s else s
  tryDone s

/-- A FAR test in CHECK mode (R153, R155). -/
def farCheck (st : ST) : Bool := st.kind == some .far && st.mode == some .check

/-- The end of a COUNT run at N, or of a FREE run by TEST_STOP, or of a completed sweep (R154, R156): judged now, or on
the stop answer for a FAR test in CHECK mode that is RUNNING. DESIGN CHOICE (log 31): a FREE run of such a test that is
stopped in ARMING or STARTING, where no answer is awaited (R155), is judged at once on the record's own counts. -/
def finishTest (s : State) : State :=
  if farCheck s.st && s.st.state == .running then stopTest none true true s
  else stopTest (some (judgeErrors s.st)) true false s

/-- An abort of a FAR test or a sweep (R158), with its outcome. -/
def abortTest (outcome : TestOutcome) (offerStop : Bool) (s : State) : State :=
  stopTest (some outcome) offerStop false s

/-- The run is a COUNT run whose N has been reached (R154). -/
def countReached (st : ST) : Bool :=
  match st.run with
  | some (.count n) => st.frames == n
  | _ => false

/-- The test is in ARMING, STARTING or RUNNING. -/
def testLive (st : ST) : Bool := st.state == .arming || st.state == .starting || st.state == .running

/-- The stop answer (R155): an accepted one is stored and judged, a refused one leaves ABORTED_LINK, and STOPPED stands
in either case. -/
def takeStopAnswer (accepted : Bool) (frames bits errored : Nat) (s : State) : State :=
  let s := s.modST fun st =>
    let st := if accepted then
        { st with bits := bits, errored := min errored bits, farFrames := some frames }
      else st
    { st with awaiting := false, deadline := none,
              verdict := some (st.verdict.getD (if accepted then judgeErrors st else .abortedLink)) }
  tryDone s

/-! ### What the unit does on the changes of others -/

/-- A stage of the sweep begins (R159). DESIGN CHOICE (log 32): its entry in the stage table leaves "not run" here, at the
activation, with 0 frames tested and 0 errored frames. -/
def beginStage (p : Nat) (f : FrameNo) (st : ST) : ST :=
  { st with state := .running, stageActive := some (p, f), deadline := none, activation := some (st.activation.getD f),
            stages := st.stages.set p (some ⟨0, 0⟩) }

/-- The new active plan is that of the stage requested, which is not yet active (R159). -/
def stageBegins (st : ST) (new : Plan) : Bool :=
  (st.state == .starting || st.state == .running) && new.profile == st.stageWanted &&
    new.test == usable st.stageWanted - 1 && st.stageActive.map (·.1) != some st.stageWanted

/-- What the unit does when it learns the new active plan (R26, R151, R157 to R159). -/
def testPlanChange (old : Plan) (s : State) : State :=
  let new := s.ps.active
  let st := s.st
  let s :=
    if st.kind = some .far ∧ testLive st then
      if new.profile ≠ old.profile then abortTest .abortedFade true s
      else if st.state = .starting ∧ st.test = some new.test then
        s.modST fun st => { st with state := .running, activation := some s.mp.frame, deadline := none }
      else s
    else if st.kind = some .sweep ∧ stageBegins st new then s.modST (beginStage st.stageWanted s.mp.frame)
    else s
  tryDone s

/-- What the unit does on an entry of the link to LOST, SEARCH or OFF (R152, R158): the responder context is dropped and
a FAR test or a sweep ends ABORTED_LINK, with its TEST_CTL STOP at an entry to LOST only (R155). -/
def testLinkDown (offerStop : Bool) (s : State) : State :=
  let s := s.modST fun st => { st with responder := none }
  if s.st.kind ≠ some .loop ∧ testLive s.st then abortTest .abortedLink offerStop s else s

/-! ### Filling and taking TEST positions (R153) -/

/-- The bytes the unit took in position `p` at the boundary that began frame `f`, if it took any. -/
def takenAt (st : ST) (f : FrameNo) (p : Nat) : Option (List Byte) :=
  let record :=
    if st.taken.boundary = f then some st.taken
    else if st.takenBefore.boundary = f then some st.takenBefore
    else none
  record.bind fun r => (r.positions.find? fun q => q.1 == p).map (·.2)

/-- The 768 bytes of TEST position `p` of frame `f` (R153). -/
def testFill (st : ST) (f : FrameNo) (p : Nat) : List Byte :=
  if st.state = .running ∨ st.state = .stopping then testPattern f p
  else
    match st.responder with
    | some r =>
      if r.mode = .echo then (takenAt st (f - 1) p).getD onesPosition else onesPosition
    | none => onesPosition

/-- Keep the TEST positions taken at a boundary (R153). -/
def keepTaken (f : FrameNo) (positions : List (Nat × List Byte)) (s : State) : State :=
  s.modST fun st => { st with takenBefore := st.taken, taken := ⟨f, positions⟩ }

/-- Check the TEST positions of one frame against an origin frame, and end a COUNT run that is complete (R148, R154,
R159). -/
def checkFrame (origin : FrameNo) (positions : List (Nat × List Byte)) (s : State) : State :=
  let errs := erroredBits origin positions
  let s := s.modST fun st => addStageFrame origin errs (addChecks positions.length errs st)
  if countReached s.st then finishTest s else s

/-- The frame from which echoes are checked: the test activation frame, or the stage's (R153). -/
def checkFrom (st : ST) : Option FrameNo :=
  if st.kind = some .sweep then st.stageActive.map (·.2) else st.activation

/-- The near end's part of R150 and R153 on the TEST positions of a frame decoded with `plan` whose header names frame
`h`. -/
def nearCheck (h : FrameNo) (plan : Plan) (looped : Bool) (positions : List (Nat × List Byte)) (s : State) : State :=
  let st := s.st
  if st.state ≠ .running then s
  else
    match st.kind with
    | some .loop => if looped && plan == loopPlan (st.test.getD 0) then checkFrame h positions s else s
    | some .far =>
      if st.mode = some .echo ∧ (checkFrom st).any (isAtOrAfter (h - 2)) then checkFrame (h - 2) positions s else s
    | some .sweep => if (checkFrom st).any (isAtOrAfter (h - 2)) then checkFrame (h - 2) positions s else s
    | none => s

/-- The responder's part of R153. -/
def responderCheck (h : FrameNo) (positions : List (Nat × List Byte)) (s : State) : State :=
  s.modST fun st =>
    { st with responder := st.responder.map fun r =>
        if r.mode = .check then addResponderChecks positions.length (erroredBits h positions) r else r }

/-- The unit takes the TEST positions of a distributed frame (R153). -/
def takeTestPositions (h : FrameNo) (plan : Plan) (looped : Bool) (positions : List (Nat × List Byte)) (s : State) :
    State :=
  if positions = [] then s else responderCheck h positions (nearCheck h plan looped positions s)

/-- A frame that carries TEST positions has been composed: a FAR test in CHECK mode counts it while RUNNING (R153,
R154). -/
def testComposed (plan : Plan) (s : State) : State :=
  if 0 < plan.test ∧ farCheck s.st ∧ s.st.state = .running then
    let s := s.modST countFrame
    if countReached s.st then finishTest s else s
  else s

/-! ### The responder (R152) -/

/-- The answer to a TEST_CTL. -/
def testAckMessage (action : Byte) (accepted : Bool) (frames bits errored : Nat) : LinkMessage :=
  .testAck action (flagCode accepted) (BitVec.ofNat 32 frames) (BitVec.ofNat 48 bits) (BitVec.ofNat 32 errored)

/-- Take a TEST_CTL (R152). -/
def takeTestControl (action kind mode test : Byte) (s : State) : State :=
  let s := countTest .ctlReceived s
  if action = actionStart then
    if testBusy s.st then
      countTest .responderRefusals (send .selfTest (testAckMessage actionStart false 0 0 0) s)
    else
      send .selfTest (testAckMessage actionStart true 0 0 0)
        (s.modST fun st =>
          { st with responder := some ⟨responderKindOf kind, testModeOf mode, test.toNat, 0, 0, 0⟩ })
  else
    match s.st.responder with
    | some r =>
      let ack :=
        if r.mode = .check then testAckMessage actionStop true r.frames r.bits r.errored
        else testAckMessage actionStop true 0 0 0
      send .selfTest ack (s.modST fun st => { st with responder := none })
    | none => send .selfTest (testAckMessage actionStop false 0 0 0) s

end Sys2Proof.Machine
end

