-- ==== Sys2Proof/Machine/Tenants.lean ====
section
/-! DEFINITION. The Tenant Unit (05): lines and records kept up with every change, admission, the tenant stream, flushes,
reassembly and far nibbles. Allocation triggers are raised by the callers. -/

namespace Sys2Proof.Machine

/-- Change one tenant's record. -/
def modTenant (t : Tenant) (f : TenantRec → TenantRec) (s : State) : State :=
  s.modTN fun tn => { tn with tenants := tn.tenants.set t (f (tn.tenants.get t)) }

/-- One tenant's record. -/
def tenantRec (s : State) (t : Tenant) : TenantRec := s.tn.tenants.get t

/-! ### Ready and hold (R96, R97) -/

/-- Whether an asserted ready line falls: the tenant has left ACTIVE, the credit is spent, or the allowance less the
occupancy is below the credit (R96). -/
def readyFalls (active : Plan) (tenant : Tenant) (t : TenantRec) : Bool :=
  match t.ready with
  | none => false
  | some credit => t.state != .active || credit == 0 || allowance active tenant t < occupancy t + credit

/-- Drop the credits that fall. -/
def dropReady (active : Plan) (tn : TN) : TN :=
  { tn with tenants := PerTenant.ofFn fun tenant =>
      let t := tn.tenants.get tenant
      if readyFalls active tenant t then { t with ready := none } else t }

/-- Assert one tenant's ready line when the first row of R96 allows it. -/
def assertReady (active : Plan) (tenant : Tenant) (tn : TN) : TN :=
  let t := tn.tenants.get tenant
  if t.ready = none ∧ t.state = .active ∧ occupancy t + t.config.burst ≤ allowance active tenant t ∧
      t.config.burst ≤ unreservedFree tn then
    { tn with tenants := tn.tenants.set tenant { t with ready := some t.config.burst } }
  else tn

/-- Re-evaluate the ready lines: what falls falls, then each low line is evaluated in ascending tenant number (R96). -/
def refreshReady (active : Plan) (tn : TN) : TN :=
  assertReady active .t4 (assertReady active .t3 (assertReady active .t2 (assertReady active .t1 (dropReady active tn))))

/-- Re-evaluate the hold flags (R97). -/
def refreshHold (active : Plan) (tn : TN) : TN :=
  { tn with tenants := PerTenant.ofFn fun tenant =>
      let t := tn.tenants.get tenant
      { t with hold := holdRule (occupancy t) (allowance active tenant t) t.hold } }

/-- Re-evaluate the hold flags and ready lines after any change of their inputs (R96, R97). -/
def refreshTenants (s : State) : State :=
  s.modTN fun tn => refreshReady s.ps.active (refreshHold s.ps.active tn)

/-! ### Tenant states (R88, R91, R92) -/

/-- Queue a TENANT_STATE report (R92): the record as it now stands, the old state, the cause, the clamped flag. -/
def reportTenant (tenant : Tenant) (old : TenantState) (cause : TenantCause) (clamped : Bool) (s : State) : State :=
  let t := tenantRec s tenant
  report .tenantState tenant.number
    [tenantStateCode t.state, tenantStateCode old, flagCode t.syncOk, tenantCauseCode cause, flagCode clamped] s

/-- Close one tenant when R91's condition holds. -/
def closeTenant (tenant : Tenant) (s : State) : State :=
  if closeCondition s tenant then
    reportTenant tenant .draining .closed false
      (modTenant tenant (fun t => { t with state := .closed, drain := none, reassembly := .hunt }) s)
  else s

/-- Evaluate the close condition of every tenant (R91). DESIGN CHOICE (log 24): in ascending tenant number, which is the
order of their reports (R92). -/
def closeEval (s : State) : State :=
  refreshTenants (closeTenant .t4 (closeTenant .t3 (closeTenant .t2 (closeTenant .t1 s))))

/-- Open one CLOSED tenant to which an installed plan gives positions, clamping its committed slots (R88). -/
def partnerOpenOne (pending : Pending) (tenant : Tenant) (s : State) : State :=
  let t := tenantRec s tenant
  if t.state = .closed ∧ (0 < pending.plan.counts.get tenant ∨ 0 < pending.carried.get tenant) then
    let room := 11 - committedOthers s.tn tenant
    let clamped := room < t.config.committed
    reportTenant tenant .closed .partnerOpen clamped
      (modTenant tenant (fun t =>
        { t with state := .active,
                 config := if clamped then { t.config with committed := room } else t.config }) s)
  else s

/-- Open the CLOSED tenants to which an installed plan gives positions (R88). DESIGN CHOICE (log 24): in ascending tenant
number, each clamped against those opened before it, and before any DRAINING tenant that the installation closes. -/
def partnerOpen (pending : Pending) (s : State) : State :=
  refreshTenants (partnerOpenOne pending .t4 (partnerOpenOne pending .t3 (partnerOpenOne pending .t2
    (partnerOpenOne pending .t1 s))))

/-! ### Sync condition (R103) -/

/-- Re-evaluate one tenant's sync condition; a change is reported. The answer says whether it changed. -/
def evalSync (tenant : Tenant) (s : State) : State × Bool :=
  let t := tenantRec s tenant
  let sync := syncRule s.lc.role s.tm t.config.syncDependent
  if sync = t.syncOk then (s, false)
  else (reportTenant tenant t.state .sync false (modTenant tenant (fun t => { t with syncOk := sync }) s), true)

/-! ### Admission (R95) -/

/-- A packet arrives at a tenant port. -/
def admitPacket (tenant : Tenant) (packet : List Byte) (s : State) : State :=
  let t := tenantRec s tenant
  let blocks := blocksFor packet.length
  let credit := t.ready.getD 0
  if packet.length < 64 ∨ 2048 < packet.length then countTenant tenant .lengthErrors s
  else if t.state ≠ .active then countTenant tenant .admissionDrops s
  else if allowance s.ps.active tenant t < occupancy t + blocks then countTenant tenant .admissionDrops s
  else if unreservedFree s.tn + credit < blocks then countTenant tenant .admissionDrops s
  else
    refreshTenants
      ((countTenant tenant .packetsAdmitted
        (modTenant tenant (fun t =>
          { t with queue := t.queue ++ [⟨packet.length, 0, packet⟩],
                   ready := t.ready.map fun c => c - min c blocks })
          (s.modTN fun tn => { tn with free := tn.free - blocks }))).modCA fun ca =>
            { ca with sums := ca.sums.set tenant (ca.sums.get tenant + packet.length) })

/-! ### Flushes (R90, R99) -/

/-- Free every block of a tenant's queue. -/
def emptyQueue (tenant : Tenant) (s : State) : State :=
  let blocks := occupancy (tenantRec s tenant)
  modTenant tenant (fun t => { t with queue := [] }) (s.modTN fun tn => { tn with free := tn.free + blocks })

/-! ### The tenant stream (R98) -/

/-- What one position, or a part of it, takes from a queue: the stream bytes, the offset of the first length field that
begins there, the queue left, the blocks freed and the packets sent. -/
structure Filled where
  bytes : List Byte
  pointer : Option Nat
  queue : List QPacket
  freed : Nat
  sent : Nat
  deriving DecidableEq, Repr

/-- What a packet gives to the stream from an offset of a position: its length bytes still unsent, then its bytes, as
far as the position's 766 stream bytes go. -/
def packetTake (offset : Nat) (p : QPacket) : List Byte × QPacket :=
  let lengthPart := ((beBytes 2 p.length).drop p.lengthSent).take (766 - offset)
  let room := 766 - offset - lengthPart.length
  (lengthPart ++ p.rest.take room,
    { p with lengthSent := p.lengthSent + lengthPart.length, rest := p.rest.drop room })

/-- Take stream bytes from the queue for a position, from an offset on. -/
def fillFrom : Nat → List QPacket → Filled
  | _, [] => ⟨[], none, [], 0, 0⟩
  | offset, p :: ps =>
    if 766 ≤ offset then ⟨[], none, p :: ps, 0, 0⟩
    else
      let (taken, left) := packetTake offset p
      let pointer := if p.lengthSent = 0 then some offset else none
      if left.rest = [] then
        let more := fillFrom (offset + taken.length) ps
        { bytes := taken ++ more.bytes, pointer := pointer.orElse fun _ => more.pointer, queue := more.queue,
          freed := packetBlocks p + more.freed, sent := more.sent + 1 }
      else ⟨taken, pointer, left :: ps, packetBlocks p - packetBlocks left, 0⟩

/-- The 768 bytes of one tenant position: the pointer, the stream bytes, and the fill code to the end (R98, R182). -/
def positionBytes (fill : Byte) (f : Filled) : List Byte :=
  beBytes 2 (f.pointer.getD 0xFFFF) ++ f.bytes ++ List.replicate (766 - f.bytes.length) fill

/-- A tenant's positions of one frame. -/
structure Stream where
  positions : List (List Byte)
  queue : List QPacket
  freed : Nat
  sent : Nat
  deriving DecidableEq, Repr

/-- Fill `n` positions in ascending order (R98). -/
def fillPositions (fill : Byte) : Nat → List QPacket → Stream
  | 0, q => ⟨[], q, 0, 0⟩
  | n + 1, q =>
    let f := fillFrom 0 q
    let more := fillPositions fill n f.queue
    ⟨positionBytes fill f :: more.positions, more.queue, f.freed + more.freed, f.sent + more.sent⟩

/-- Compose one tenant's positions of a frame: the blocks whose last byte is placed are freed, and the packets whose
last byte is placed are counted (R93, R98). -/
def composeTenant (tenant : Tenant) (s : State) : State × List (List Byte) :=
  let t := tenantRec s tenant
  let stream := fillPositions t.config.fill (s.ps.active.counts.get tenant) t.queue
  (countTimes (countTenant tenant .packetsSent) stream.sent
    (modTenant tenant (fun t => { t with queue := stream.queue })
      (s.modTN fun tn => { tn with free := tn.free + stream.freed })), stream.positions)

/-! ### Reassembly (R100 to R102) -/

/-- A context at work on a position: its mode, the packets completed (latest first) and the errors found. -/
structure Rebuild where
  mode : Reassembly
  packets : List (List Byte)
  errors : Nat
  deriving DecidableEq, Repr

/-- One stream byte at offset `i` of a position whose pointer is `p`, none for 0xFFFF (R100, R101). -/
def rebuildByte (fill : Byte) (p : Option Nat) (i : Nat) (b : Byte) (r : Rebuild) : Rebuild :=
  match r.mode with
  | .hunt => r
  | .idle =>
    if p = some i then { r with mode := .length b }
    else if b = fill then r
    else
      match p with
      | some k => if i < k then { r with mode := .hunt, errors := r.errors + 1 } else { r with mode := .length b }
      | none => { r with mode := .hunt, errors := r.errors + 1 }
  | .length first =>
    let n := first.toNat * 256 + b.toNat
    if 64 ≤ n ∧ n ≤ 2048 then { r with mode := .packet n [] } else { r with mode := .hunt, errors := r.errors + 1 }
  | .packet n gathered =>
    if gathered.length + 1 = n then { r with mode := .idle, packets := (b :: gathered).reverse :: r.packets }
    else { r with mode := .packet n (b :: gathered) }

/-- The stream bytes of a position from offset `i` on. -/
def rebuildBytes (fill : Byte) (p : Option Nat) : Nat → List Byte → Rebuild → Rebuild
  | _, [], r => r
  | i, b :: bs, r => rebuildBytes fill p (i + 1) bs (rebuildByte fill p i b r)

/-- The bytes still due to a context in LENGTH or PACKET (R101). In LENGTH the second length byte is the position's
first byte, which gives the packet bytes due (DEDUCED, log 15). -/
def bytesDue (stream : List Byte) : Reassembly → Nat
  | .length first => 1 + (first.toNat * 256 + (stream.headD 0).toNat)
  | .packet n gathered => n - gathered.length
  | _ => 0

/-- A position resumed at the packet start its pointer names. -/
def rebuildAt (fill : Byte) (p : Nat) (stream : List Byte) (errors : Nat) : Rebuild :=
  rebuildBytes fill (some p) p (stream.drop p) ⟨.idle, [], errors⟩

/-- One received position: the table of R101, then the bytes (R100). -/
def rebuildPosition (fill : Byte) (position : List Byte) (mode : Reassembly) : Rebuild :=
  let p := field position 0 2
  let stream := position.drop 2
  let partly := match mode with
    | .length _ => true
    | .packet _ _ => true
    | _ => false
  if 766 ≤ p ∧ p ≤ 65534 then ⟨.hunt, [], if partly then 1 else 0⟩
  else
    match mode with
    | .hunt => if p = 0xFFFF then ⟨.hunt, [], 0⟩ else rebuildAt fill p stream 0
    | .idle => rebuildBytes fill (if p = 0xFFFF then none else some p) 0 stream ⟨.idle, [], 0⟩
    | m =>
      if p = 0xFFFF then rebuildBytes fill none 0 stream ⟨m, [], 0⟩
      else if bytesDue stream m ≤ p then rebuildBytes fill (some p) 0 stream ⟨m, [], 0⟩
      else rebuildAt fill p stream 1

/-- The positions of one tenant, in ascending order. Answers the mode, the packets completed in order, and the
errors. -/
def rebuildPositions (fill : Byte) : List (List Byte) → Reassembly → Rebuild
  | [], mode => ⟨mode, [], 0⟩
  | p :: ps, mode =>
    let r := rebuildPosition fill p mode
    let more := rebuildPositions fill ps r.mode
    ⟨more.mode, r.packets.reverse ++ more.packets, r.errors + more.errors⟩

/-- One tenant's context takes its positions of a frame; completed packets leave the port, or are dropped when the
tenant is CLOSED (R102). -/
def takeTenantPositions (tenant : Tenant) (positions : List (List Byte)) (s : State) : State :=
  let t := tenantRec s tenant
  let r := rebuildPositions t.config.fill positions t.reassembly
  let s := countTimes (countTenant tenant .reassemblyErrors) r.errors
    (modTenant tenant (fun t => { t with reassembly := r.mode }) s)
  if t.state = .closed then countTimes (countTenant tenant .receiveDrops) r.packets.length s
  else
    countTimes (countTenant tenant .packetsDelivered) r.packets.length
      (s.modTN fun tn => { tn with out := tn.out.set tenant r.packets })

/-- One tenant's context at a gap (R102). -/
def gapTenant (tenant : Tenant) (s : State) : State :=
  let s' := modTenant tenant (fun t => { t with reassembly := .hunt }) s
  match (tenantRec s tenant).reassembly with
  | .length _ => countTenant tenant .gapDiscards s'
  | .packet _ _ => countTenant tenant .gapDiscards s'
  | _ => s'

/-- Every context at a gap (R102). -/
def gapAll (s : State) : State := gapTenant .t4 (gapTenant .t3 (gapTenant .t2 (gapTenant .t1 s)))

/-! ### Far nibbles (R104) -/

/-- Replace one tenant's far nibble; a change is reported. -/
def takeFarNibble (tenant : Tenant) (new : Nibble) (s : State) : State :=
  let old := (tenantRec s tenant).far
  if new = old then s
  else
    report .farTenant tenant.number [nibbleCode old, nibbleCode new] (modTenant tenant (fun t => { t with far := new }) s)

/-- Replace the four far nibbles from a good header (R104). DESIGN CHOICE (log 24): the reports stand in ascending tenant
number. -/
def takeFarNibbles (n : PerTenant Nibble) (s : State) : State :=
  takeFarNibble .t4 n.t4 (takeFarNibble .t3 n.t3 (takeFarNibble .t2 n.t2 (takeFarNibble .t1 n.t1 s)))

end Sys2Proof.Machine
end

