-- ==== Sys2Proof/Machine/Plans.lean ====
section
/-! DEFINITION. The Plan Store's own operations (02): installing, confirming, discarding, marking for adoption and
choosing a decoding plan. What the neighbours do when the active plan changes is in Link.lean. -/

namespace Sys2Proof.Machine

/-- The refusals of R23. -/
inductive PlanRefusal where
  | malformed
  | late
  | planNumber
  deriving DecidableEq, Repr

/-- The NAK reason a refusal turns into (R77). -/
def refusalReason : PlanRefusal → Byte
  | .malformed => nakMalformed
  | .late => nakLate
  | .planNumber => nakPlanNumber

/-- The checks of R23, in the order of its table. -/
def judgeOffer (ps : PS) (now : FrameNo) (p : Pending) : Option PlanRefusal :=
  if ¬ (p.plan.wellFormed ∧ countsWellFormed p.carried) then some .malformed
  else if ¬ isAhead p.effective now then some .late
  else if ps.active.flagged ∨ p.plan.number = ps.active.number + 1 then none
  else some .planNumber

/-- Put a plan that passed the checks into the pending record: one it replaces is counted as discarded (R23), at HUB the
tenants it gives positions to are opened (R88), and the close conditions are evaluated (R91). -/
def installPending (p : Pending) (s : State) : State :=
  let s := if s.ps.pending.isSome then countLink .pendingDiscards s else s
  let s := s.modPS fun ps => { ps with pending := some p }
  let s := if s.lc.role = .hub then partnerOpen p s else s
  closeEval s

/-- Offer a plan to the Plan Store (R23): the answer is the first refusal, or none when the plan was installed. -/
def offerPlan (p : Pending) (s : State) : State × Option PlanRefusal :=
  match judgeOffer s.ps s.mp.frame p with
  | some r => (s, some r)
  | none => (installPending p s, none)

/-- Discard the pending plan, if one is present (R29). A test that this makes clear of the plans is left to the
caller. -/
def dropPending (s : State) : State :=
  if s.ps.pending.isSome then
    closeEval (countLink .pendingDiscards (s.modPS fun ps => { ps with pending := none }))
  else s

/-- Confirm the pending plan (R24). -/
def confirmPending (s : State) : State :=
  s.modPS fun ps => { ps with pending := ps.pending.map fun p => { p with confirmed := true } }

/-- A header adopts the pending plan (R27). -/
def adopts (role : Role) (ps : PS) (h : Header) : Bool :=
  match ps.pending with
  | none => false
  | some p =>
    role == .site && !p.confirmed && p.mark == .no && !h.flagged && h.number == p.plan.number &&
      isAtOrAfter h.frame p.effective

/-- Mark the pending plan for adoption at the next boundary (R27). -/
def markPending (s : State) : State :=
  s.modPS fun ps => { ps with pending := ps.pending.map fun p => { p with mark := .next } }

/-- The candidates for decoding (R33), in order. -/
def decodingCandidates (ps : PS) (flagged : Bool) : List Plan :=
  if flagged then ps.fallback :: (ps.previous.toList.filter fun p => p.flagged)
  else (ps.active :: (ps.pending.map (·.plan)).toList ++ ps.previous.toList).filter fun p => !p.flagged

/-- The decoding plan that a header names, none when the frame is plan unknown (R33). -/
def decodingPlan (ps : PS) (h : Header) : Option Plan :=
  match (decodingCandidates ps h.flagged).find? fun p => p.number == h.number with
  | some p => if p.profile = h.profile then some p else none
  | none => none

/-- The first plan of the link: plan 0 with the JOIN's counts, confirmed from the start (R67, R68). -/
def firstPlan (effective : FrameNo) (counts : PerTenant Nat) : Pending :=
  { plan := { number := 0, profile := 0, test := 0, counts := counts, flagged := false }, effective := effective,
    carried := counts, confirmed := true, mark := .no }

/-- The plan number of the next proposal (R36, R76). -/
def nextNumber (ps : PS) : PlanNo := (if ps.active.flagged then ps.fallback.number else ps.active.number) + 1

end Sys2Proof.Machine
end

