-- ==== Sys2Proof/Machine/Capacity.lean ====
section
/-! DEFINITION. The Capacity Allocator's arithmetic (06): demand windows, the weighted fill and the candidate. -/

namespace Sys2Proof.Machine

/-! ### Demand (R107, R108) -/

/-- The demand of a window: positions for `n` bytes over 256 frames, at most 63. -/
def demandOf (n : Nat) : Nat := min ((n + 196095) / 196096) 63

/-- Close the demand window (R107): `q` holds the unsent bytes of each queue. -/
def closeWindow (q : PerTenant Nat) (ca : CA) : CA :=
  { ca with demands := PerTenant.ofFn fun t => demandOf (ca.sums.get t + q.get t), sums := PerTenant.const 0,
            windowDue := false }

/-- The far demand as an allocation takes it (R108). -/
def farDemandTaken (s : State) (t : Tenant) : Nat :=
  if (s.tn.tenants.get t).far.isOpen then s.ca.farDemands.get t else 0

/-! ### The weighted fill (R113) -/

/-- A member of the fill: its tenant, weight and cap. -/
structure Member where
  tenant : Tenant
  weight : Nat
  cap : Nat
  deriving DecidableEq, Repr

/-- A member takes its cap and leaves (step 2). -/
def satisfied (r w : Nat) (m : Member) : Bool := m.cap * w ≤ r * m.weight

/-- Whether `a` stands before `b` when the remainder is given out: by decreasing R·w mod W, ties to the lower tenant
number (step 4). -/
def remainderBefore (r w : Nat) (a b : Member) : Bool :=
  let ra := r * a.weight % w
  let rb := r * b.weight % w
  rb < ra || (ra == rb && a.tenant.number < b.tenant.number)

/-- Step 4: the floors, and one more for each of the first members in remainder order. -/
def shareRest (r : Nat) (ms : List Member) : List (Tenant × Nat) :=
  let w := (ms.map (·.weight)).sum
  let floors := (ms.map fun m => r * m.weight / w).sum
  ms.map fun m =>
    let place := (ms.filter fun other => remainderBefore r w other m).length
    (m.tenant, r * m.weight / w + if place < r - floors then 1 else 0)

/-- The rounds of the weighted fill. Every round but the last removes a member, so as many rounds as members and one
more suffice. -/
def fillRounds : Nat → Nat → List Member → List (Tenant × Nat)
  | 0, _, _ => []
  | fuel + 1, r, ms =>
    if ms = [] then []
    else
      let w := (ms.map (·.weight)).sum
      let leaving := ms.filter (satisfied r w)
      if leaving = [] then shareRest r ms
      else
        (leaving.map fun m => (m.tenant, m.cap)) ++
          fillRounds fuel (r - (leaving.map (·.cap)).sum) (ms.filter fun m => !satisfied r w m)

/-- WF(R, S): what each tenant receives, 0 for a tenant outside S (R113). -/
def weightedFill (r : Nat) (ms : List Member) : PerTenant Nat :=
  let given := fillRounds (ms.length + 1) r ms
  PerTenant.ofFn fun t => ((given.filter fun g => g.1 == t).map (·.2)).sum

/-! ### The candidate (R115 to R120) -/

/-- What an allocation computes from (R112), beside the target and T. -/
structure AllocInput where
  classes : PerTenant TenantClass
  configs : PerTenant TenantConfig
  need : PerTenant Nat
  fixed : Bool
  fixedCounts : PerTenant Nat
  deriving DecidableEq, Repr

/-- The inputs as they stand (R112). `need` is r, the greater of the local and the far demand (R116). -/
def allocInput (s : State) : AllocInput :=
  { classes := s.tn.tenants.map classOf, configs := s.tn.tenants.map (·.config),
    need := PerTenant.ofFn fun t => max (s.ca.demands.get t) (farDemandTaken s t),
    fixed := s.ca.fixed, fixedCounts := s.ca.fixedCounts }

/-- The guarantee g (R115, step 2). -/
def guarantee (i : AllocInput) (t : Tenant) : Nat :=
  if i.classes.get t = .none then 0 else (i.configs.get t).committed

/-- The sum of the guarantees. -/
def guaranteeSum (i : AllocInput) : Nat := (PerTenant.ofFn (guarantee i)).sum

/-- D of R116, step 3: 0 for a tenant that is not eligible. -/
def demandWithHeadroom (i : AllocInput) (t : Tenant) : Nat :=
  if i.classes.get t = .eligible then min (i.configs.get t).ceiling (i.need.get t + (i.need.get t + 3) / 4) else 0

/-- The members of a fill: the tenants of a list with their weights and given caps. -/
def membersOf (i : AllocInput) (ts : List Tenant) (cap : Tenant → Nat) : List Member :=
  ts.map fun t => ⟨t, (i.configs.get t).weight, cap t⟩

/-- The eligible tenants, ascending. -/
def eligibleTenants (i : AllocInput) : List Tenant := Tenant.all.filter fun t => i.classes.get t == .eligible

/-- Steps 3 to 6 of R116: the counts in AUTO mode for A available positions. -/
def autoCounts (i : AllocInput) (a : Nat) : PerTenant Nat :=
  let excess := fun t => demandWithHeadroom i t - (i.configs.get t).committed
  let y := weightedFill (a - guaranteeSum i)
    (membersOf i ((eligibleTenants i).filter fun t => 0 < excess t) excess)
  let l := a - guaranteeSum i - y.sum
  let z :=
    if 0 < l then
      weightedFill l
        (membersOf i (eligibleTenants i) fun t => (i.configs.get t).ceiling - (i.configs.get t).committed - y.get t)
    else PerTenant.const 0
  PerTenant.ofFn fun t => guarantee i t + y.get t + z.get t

/-- The first counts of FIXED mode (R117). -/
def fixedFirst (i : AllocInput) (t : Tenant) : Nat :=
  let c := i.configs.get t
  match i.classes.get t with
  | .eligible => max c.committed (min (i.fixedCounts.get t) c.ceiling)
  | .drainingHeld => c.committed
  | .none => 0

/-- Cut the counts of R117 to fit A: from tenant 4 down to tenant 1, each down to its guarantee. `toCut` positions are
still to be cut. -/
def cutCounts (g : Tenant → Nat) : List Tenant → Nat → PerTenant Nat → PerTenant Nat
  | [], _, n => n
  | t :: ts, toCut, n =>
    let cut := min toCut (n.get t - g t)
    cutCounts g ts (toCut - cut) (n.set t (n.get t - cut))

/-- The counts in FIXED mode (R117). -/
def fixedModeCounts (i : AllocInput) (a : Nat) : PerTenant Nat :=
  let first := PerTenant.ofFn (fixedFirst i)
  cutCounts (guarantee i) Tenant.all.reverse (first.sum - a) first

/-- The fallback counts (R120): c of each eligible tenant. -/
def fallbackCounts (s : State) : PerTenant Nat :=
  s.tn.tenants.map fun t => if classOf t = .eligible then t.config.committed else 0

/-- The guarantees do not fit beside the test positions (R115, step 2). -/
def roomFails (i : AllocInput) (profile t : Nat) : Bool := usable profile < 1 + t + guaranteeSum i

/-- The candidate differs enough from the active plan (R119). -/
def worthShift (active : Plan) (profile test : Nat) (counts : PerTenant Nat) : Bool :=
  profile != active.profile || test != active.test ||
    Tenant.all.any (fun t => (0 < counts.get t) != (0 < active.counts.get t)) ||
    2 ≤ (PerTenant.ofFn fun t => (counts.get t - active.counts.get t) + (active.counts.get t - counts.get t)).sum

/-- The candidate of an allocation (R115 to R120) for a target at or below the ceiling and a requested T. -/
def candidateFor (s : State) (cause : AllocCause) (profile requested : Nat) : Candidate :=
  let i := allocInput s
  let test := if roomFails i profile requested then 0 else requested
  let a := usable profile - 1 - test
  let counts := if i.fixed then fixedModeCounts i a else autoCounts i a
  { profile := profile, test := test, counts := counts, fallback := fallbackCounts s, cause := cause,
    frame := s.mp.frame, worth := worthShift s.ps.active profile test counts, available := a, classes := i.classes,
    need := PerTenant.ofFn fun t => if i.classes.get t = .eligible ∧ ¬ i.fixed then i.need.get t else 0,
    demand := PerTenant.ofFn fun t => if i.fixed then 0 else demandWithHeadroom i t }

/-- The target of an allocation that no profile decision called for (R112). -/
def standingTarget (s : State) : Nat := s.st.reqProfile.getD s.ps.active.profile

end Sys2Proof.Machine
end

