-- ==== Sys2Proof/Machine/Allocate.lean ====
section
/-! DEFINITION. Triggers, allocations and proposals (R76, R110, R111, R115, R119): where the Capacity Allocator, the
Link Controller, the Plan Store and the Self-Test Unit meet in one event. -/

namespace Sys2Proof.Machine

/-- Queue a LINK_STATE report (R61, 11.3): the state as it now stands, the old state, the cause and the extra byte. -/
def reportLink (old : LinkState) (cause : LinkCause) (extra : Byte) (s : State) : State :=
  report .linkState 0 [linkStateCode s.lc.link, linkStateCode old, linkCauseCode cause, extra] s

/-- The SHIFT that carries a proposal (R76). -/
def shiftMessage (p : Pending) : LinkMessage :=
  .shift p.plan.number (BitVec.ofNat 8 p.plan.profile) (BitVec.ofNat 8 p.plan.test)
    (p.plan.counts.map (BitVec.ofNat 8)) (p.carried.map (BitVec.ofNat 8)) p.effective

/-- The pending plan that a candidate makes (R76). -/
def proposalOf (c : Candidate) (s : State) : Pending :=
  { plan := { number := nextNumber s.ps, profile := c.profile, test := c.test, counts := c.counts, flagged := false },
    effective := frameAdd s.mp.frame s.lc.lead, carried := c.fallback, confirmed := false, mark := .no }

/-- The Link Controller proposes a candidate (R76). The answer says whether it was proposed. -/
def propose (c : Candidate) (s : State) : State × Bool :=
  if s.lc.role = .site ∧ lcFree s then
    let p := proposalOf c s
    match offerPlan p s with
    | (s', none) =>
      let s' := s'.modLC fun lc => { lc with proposal := some ⟨p.plan.number, p.effective, false⟩ }
      let s' := countLink .shiftsProposed (send .linkController (shiftMessage p) s')
      (reportLink .up .shiftBegin 0 (s'.modLC fun lc => { lc with link := .shift }), true)
    | (s', some _) =>
      (countLink .proposalsRefused (s'.modLC fun lc => { lc with freeNotice := .next }), false)
  else (s, false)

/-- The test ends ABORTED_ROOM when it is one that the room check ends (R115, R158). -/
def roomAbort (s : State) : State :=
  let s := countLink .roomAborts s
  if s.st.kind ≠ some .loop ∧ (s.st.state = .starting ∨ s.st.state = .running) then abortTest .abortedRoom true s else s

/-- One allocation (R115 to R119), without the TEST trigger that a room abort raises. -/
def allocateOnce (cause : AllocCause) (target : Nat) (s : State) : State :=
  let profile := min target (ceiling s)
  let requested := s.st.reqTest
  let c := candidateFor s cause profile requested
  let s := if roomFails (allocInput s) profile requested then roomAbort s else s
  let s := s.modCA fun ca => { ca with last := some c, waiting := false }
  if c.worth then
    match propose c (countLink .allocationsProposed s) with
    | (s', true) => s'
    | (s', false) => s'.modCA fun ca => { ca with waiting := true }
  else countLink .allocationsRecorded s

/-- A trigger that finds the Link Controller not free sets the waiting mark (R111). -/
def deferTrigger (s : State) : State := countLink .deferredTriggers (s.modCA fun ca => { ca with waiting := true })

/-- The Self-Test Unit's request differs between two states (R112). -/
def requestChanged (before after : ST) : Bool :=
  before.reqTest != after.reqTest || before.reqProfile != after.reqProfile

/-- One allocation (R115 to R119). A room abort changes the requested T, which is a TEST trigger; it comes after the
allocation it arose in (R115), and the allocation it may run cannot abort again. -/
def allocate (cause : AllocCause) (target : Nat) (s : State) : State :=
  let s' := allocateOnce cause target s
  if requestChanged s.st s'.st then
    if lcFree s' then allocateOnce .test (standingTarget s') s' else deferTrigger s'
  else s'

/-- A trigger other than PROFILE (R110, R111): at SITE it runs an allocation at once when the Link Controller is free,
and sets the waiting mark otherwise. -/
def trigger (cause : AllocCause) (s : State) : State :=
  match s.lc.role with
  | .hub => s
  | .site => if lcFree s then allocate cause (standingTarget s) s else deferTrigger s

/-- The Link Controller tells the Capacity Allocator that it is free (R111). -/
def serveWaiting (s : State) : State :=
  if s.lc.role = .site ∧ s.ca.waiting ∧ lcFree s then allocate .deferred (standingTarget s) s else s

/-- An event of the Self-Test Unit, with the TEST trigger that follows when it changes the request (R112, R151). DESIGN
CHOICE (log 25): one event raises one trigger, on the request as the event leaves it. -/
def withTestTrigger (f : State → State) (s : State) : State :=
  let s' := f s
  if requestChanged s.st s'.st then trigger .test s' else s'

/-- Discard the pending plan (R29); a test that this makes clear of the plans is done (R157). -/
def discardPending (s : State) : State :=
  if s.ps.pending.isSome then withTestTrigger tryDone (dropPending s) else s

/-- Run a trigger when a flag says so. -/
def triggerIf (cause : AllocCause) (flag : Bool) (s : State) : State := if flag then trigger cause s else s

/-- Re-evaluate every tenant's sync condition (R103); at SITE each change triggers an allocation. DESIGN CHOICE (log 24): the
four conditions first, in ascending tenant number, then one trigger for each that changed. -/
def syncAll (s : State) : State :=
  let (s, c1) := evalSync .t1 s
  let (s, c2) := evalSync .t2 s
  let (s, c3) := evalSync .t3 s
  let (s, c4) := evalSync .t4 s
  triggerIf .tenant c4 (triggerIf .tenant c3 (triggerIf .tenant c2 (triggerIf .tenant c1 s)))

/-- A DRAINING tenant whose queue has become empty: its close condition is evaluated and an allocation is triggered
(R91, "drain completion"). `before` is the tenant's record before the event. -/
def drainCompletion (tenant : Tenant) (before : TenantRec) (s : State) : State :=
  triggerIf .tenant (before.state == .draining && !before.queue.isEmpty && (tenantRec s tenant).queue.isEmpty) s

end Sys2Proof.Machine
end

