-- ==== Sys2Proof/Machine/Timing.lean ====
section
/-! DEFINITION. The Timing Unit (07): the time counter, the timing states, the exchange, the servo and holdover. -/

namespace Sys2Proof.Machine

/-! ### The time counter (R124) -/

/-- Nanoseconds in a second. -/
def second : Nat := 1000000000

/-- The counter after the oscillator advances it. -/
def advanceTime (elapsed : Nat) (t : Time) : Time :=
  ⟨t.seconds + BitVec.ofNat 32 ((t.nanos + elapsed) / second), (t.nanos + elapsed) % second⟩

/-- The advance passes a seconds rollover. -/
def rollsOver (elapsed : Nat) (t : Time) : Bool := second ≤ t.nanos + elapsed

/-- The counter moved by a signed number of nanoseconds (R135). DESIGN CHOICE (log 30): a move past either end of the
counter's range goes round, modulo 2^32 s. -/
def moveTime (offset : Int) (t : Time) : Time :=
  let n := (((timeNumber t : Int) + offset) % ((4294967296 * second : Nat) : Int)).toNat
  ⟨BitVec.ofNat 32 (n / second), n % second⟩

/-- The oscillator advances the counter; a rollover drives a pulse at SITE while the timing state allows it (R124,
R141). -/
def advanceCounter (elapsed : Nat) (s : State) : State :=
  s.modTM fun tm =>
    { tm with time := advanceTime elapsed tm.time,
              pps := tm.pps || (rollsOver elapsed tm.time && s.lc.role == .site && pulsing tm) }

/-! ### Changes of timing state (R130) -/

/-- What every change of timing state, or of the expired flag, brings: the runs become 0 (R138), the pulse output is low
where it may not pulse (R141), the tenants' sync conditions are re-evaluated (R103), and a TIMING_STATE report is
queued. -/
def announceTiming (old : TimingState) (cause : TimingCause) (s : State) : State :=
  let s := s.modTM fun tm => { tm with pps := tm.pps && pulsing tm }
  let s := syncAll s
  report .timingState 0
    [timingStateCode s.tm.state, timingStateCode old, flagCode s.tm.expired, timingCauseCode cause] s

/-- Change the timing state. -/
def setTiming (new : TimingState) (cause : TimingCause) (s : State) : State :=
  announceTiming s.tm.state cause (s.modTM fun tm => { tm with state := new, goodRun := 0, largeRun := 0 })

/-- A code brought into the steer range (R125). -/
def steerClamp (c : TimingConfig) (code : Int) : Nat := (clampInt c.steerMin c.steerMax code).toNat

/-- The holdover code at an entry to HOLDOVER (R139). -/
def holdoverCodeOf (tm : TM) : Nat :=
  let n := tm.history.length
  steerClamp tm.config (if n = 0 then (tm.steer : Int) else (((2 * tm.history.sum + n) / (2 * n) : Nat) : Int))

/-- Enter HOLDOVER (R139, R140). -/
def enterHoldover (cause : TimingCause) (s : State) : State :=
  setTiming .holdover cause
    (s.modTM fun tm =>
      { tm with holdoverCode := some (holdoverCodeOf tm), steer := holdoverCodeOf tm, holdoverTimer := some 0,
                expired := false })

/-- The link enters the pair UP and SHIFT (R129, R131). -/
def timingLinkUp (s : State) : State :=
  match s.lc.role with
  | .hub => s
  | .site =>
    let s := s.modTM fun tm => { tm with firstOffer := .next }
    if s.tm.state = .freeRun then setTiming .acquire .linkUp s else s

/-- The link leaves the pair UP and SHIFT (R129). -/
def timingLinkDown (s : State) : State :=
  let s := s.modTM fun tm =>
    { tm with outstanding := none, armed := none, nextOffer := none, firstOffer := .no, window := [], goodRun := 0,
              largeRun := 0, lostRun := 0 }
  match s.tm.state with
  | .acquire => setTiming .freeRun .linkDown s
  | .locked => enterHoldover .linkDown s
  | _ => s

/-! ### The update (R134 to R138) -/

/-- The exchange with the smallest delay, ties to the earlier (R134): its offset. -/
def selectOffset : List (Int × Int) → Int
  | [] => 0
  | x :: xs => (xs.foldl (fun best y => if y.2 < best.2 then y else best) x).1

/-- What an update computes (R136). -/
structure Servo where
  e : Int
  u : Int
  integrator : Int
  raw : Int
  code : Nat
  frozen : Bool
  deriving DecidableEq, Repr

/-- The servo arithmetic (R136, R137). -/
def servo (c : TimingConfig) (integrator offset : Int) : Servo :=
  let e := clampInt (-2047) 2047 offset
  let i := clampInt (-8388608) 8388607 (integrator + e * c.ki)
  let u := e * c.kp + i
  let raw := (c.centre : Int) + u / 64
  { e := e, u := u, integrator := i, raw := raw, code := steerClamp c raw,
    frozen := (0 < e && (c.steerMax : Int) < raw) || (e < 0 && raw < (c.steerMin : Int)) }

/-- Append a code to the holdover history, a ring of 16 (R137). -/
def appendHistory (history : List Nat) (code : Nat) : List Nat :=
  (history ++ [code]).drop (history.length + 1 - 16)

/-- Put an update into effect: the code is set to s, the integrator takes I′ unless frozen, and the code is recorded
where the state says so (R137). -/
def applyServo (v : Servo) (recorded : Bool) (s : State) : State :=
  let s := s.modTM fun tm =>
    { tm with steer := v.code, integrator := if v.frozen then tm.integrator else v.integrator,
              history := if recorded then appendHistory tm.history v.code else tm.history }
  if v.frozen then countTiming .freezes s else s

/-- An update that is not a step (R136 to R138). -/
def servoUpdate (offset : Int) (s : State) : State :=
  let v := servo s.tm.config s.tm.integrator offset
  let s := countTiming .updates
    (s.modTM fun tm => { tm with lastE := some v.e, lastU := some v.u, lastS := some v.code })
  let window := (s.tm.config.lockWindow : Int)
  match s.tm.state with
  | .acquire =>
    let s := applyServo v false s
    if (v.e.natAbs : Int) ≤ window then
      let s := s.modTM fun tm => { tm with goodRun := tm.goodRun + 1 }
      if 4 ≤ s.tm.goodRun then setTiming .locked .lockedOn s else s
    else s.modTM fun tm => { tm with goodRun := 0 }
  | .locked =>
    if (v.e.natAbs : Int) ≤ 4 * window then applyServo v true (s.modTM fun tm => { tm with largeRun := 0 })
    else if 2 ≤ s.tm.largeRun + 1 then enterHoldover .largeError s
    else applyServo v true (s.modTM fun tm => { tm with largeRun := tm.largeRun + 1 })
  | .holdover =>
    if (v.e.natAbs : Int) ≤ 4 * window then
      setTiming .locked .relock
        ((applyServo v true s).modTM fun tm =>
          { tm with holdoverTimer := none, holdoverCode := none, expired := false })
    else countTiming .relockRefusals s
  | _ => s

/-- The step of the time counter (R135). -/
def timeStep (offset : Int) (s : State) : State :=
  countTiming .steps
    (s.modTM fun tm => { tm with time := moveTime offset tm.time, outstanding := none, goodRun := 0 })

/-- The update that runs when the eighth exchange joins the window (R134, R135). -/
def windowUpdate (s : State) : State :=
  let offset := selectOffset s.tm.window
  let s := s.modTM fun tm => { tm with window := [] }
  if s.tm.state = .acquire ∧ 20000 < offset.natAbs then timeStep offset s else servoUpdate offset s

/-! ### The exchange (R131 to R133) -/

/-- The record of the frame before the boundary under way (R126, R128): once the frame that begins there is composed, it
is the one before the current. -/
def arrivalRecord (s : State) : FrameStart := if s.mp.composed then s.tm.before else s.tm.current

/-- An exchange is lost (R132). -/
def loseExchange (s : State) : State :=
  let s := countTiming .lost
    (s.modTM fun tm => { tm with outstanding := none, lostRun := min (tm.lostRun + 1) 255 })
  if s.tm.state = .locked ∧ s.tm.lostRun = 8 then enterHoldover .lostExchanges s else s

/-- The offset of an exchange (R133): halved toward zero. -/
def exchangeOffset (t1 t2 t3 t4 : Nat) : Int := (((t2 : Int) - t1) - ((t4 : Int) - t3)).tdiv 2

/-- The delay of an exchange (R133). -/
def exchangeDelay (t1 t2 t3 t4 : Nat) : Int := ((t4 : Int) - t1) - ((t3 : Int) - t2)

/-- The plan numbers of an answered exchange do not all agree (R133). -/
def plansDiffer (p1 p2 p3 p4 : PlanNo) : Bool := p2 != p3 || p1 != p4 || p1 != p2

/-- An answered exchange (R133, R134). -/
def answerExchange (x : Exchange) (t2 t3 : Nat) (p2 p3 : PlanNo) (b : FrameStart) (s : State) : State :=
  let t4 := timeNumber b.time
  let offset := exchangeOffset x.t1 t2 t3 t4
  let delay := exchangeDelay x.t1 t2 t3 t4
  let s := s.modTM fun tm =>
    { tm with outstanding := none, lostRun := 0, lastOffset := some offset, lastDelay := some delay }
  if plansDiffer x.p1 p2 p3 b.plan then countTiming .rejectedPlan s
  else if delay < 0 ∨ (s.tm.config.delayMax : Int) < delay then countTiming .rejectedDelay s
  else
    let s := countTiming .accepted (s.modTM fun tm => { tm with window := tm.window ++ [(offset, delay)] })
    if 8 ≤ s.tm.window.length then windowUpdate s else s

/-- Take a TIME_RESP (R128, R132, R133). -/
def takeTimeResponse (sequence : Byte) (t2 t3 : Nat) (p2 p3 : PlanNo) (traceable : Bool) (s : State) : State :=
  match s.lc.role, s.tm.outstanding with
  | .site, some x =>
    let b := arrivalRecord s
    if x.sequence ≠ sequence then countTiming .unexpected s
    else if ¬ traceable then loseExchange s
    else if framesAhead b.frame x.frame ≤ 16 then answerExchange x t2 t3 p2 p3 b s
    else countTiming .unexpected s
  | _, _ => countTiming .unexpected s

/-- Take a TIME_REQ (R128, R132). t3 and its plan number are filled when the response is placed. -/
def takeTimeRequest (sequence : Byte) (s : State) : State :=
  match s.lc.role with
  | .site => countTiming .unexpected s
  | .hub =>
    let a := arrivalRecord s
    offerTime
      (.timeResp sequence (BitVec.ofNat 64 (timeNumber a.time)) 0 a.plan 0 (flagCode (s.tm.state == .reference))) s

/-- A held time message as it is placed in the frame whose record is `r` (R128). -/
def stampMessage (r : FrameStart) : LinkMessage → LinkMessage
  | .timeResp sequence t2 _ p2 _ traceable =>
    .timeResp sequence t2 (BitVec.ofNat 64 (timeNumber r.time)) p2 r.plan traceable
  | m => m

/-- The message is a TIME_RESP. -/
def isResponse : LinkMessage → Bool
  | .timeResp .. => true
  | _ => false

/-- The message is the TIME_REQ whose placement starts an exchange (R131). -/
def startsExchange (tm : TM) : LinkMessage → Bool
  | .timeReq sequence => tm.armed == some sequence
  | _ => false

/-- The Message Channel has placed a time message in the frame whose record is `r` (R44, R131). -/
def timePlaced (m : LinkMessage) (r : FrameStart) (s : State) : State :=
  match m with
  | .timeReq sequence =>
    if s.tm.armed = some sequence then
      s.modTM fun tm =>
        { tm with armed := none, outstanding := some ⟨sequence, r.frame, timeNumber r.time, r.plan⟩ }
    else s
  | _ => s

/-! ### The reference (R127) -/

/-- A record is one second after the previous pulse's. -/
def followsPulse (previous : Option RefPulse) (record : Option (BitVec 32)) : Bool :=
  match previous, record with
  | some p, some r =>
    match p.record with
    | some q => r == q + 1
    | none => false
  | _, _ => false

/-- The time counter set to a pulse's record (R127). -/
def alignTime (record : Option (BitVec 32)) (s : State) : State :=
  s.modTM fun tm => { tm with time := ⟨record.getD 0, 0⟩ }

/-- Judge a reference pulse at HUB (R127). -/
def judgePulse (record : Option (BitVec 32)) (s : State) : State :=
  let previous := s.tm.pulse
  let s := s.modTM fun tm => { tm with pulse := some ⟨record, 0⟩ }
  match s.tm.state with
  | .reference =>
    if followsPulse previous record then
      let moved := s.tm.time ≠ ⟨record.getD 0, 0⟩
      let s := alignTime record s
      if moved then countTiming .alignments s else s
    else setTiming .referenceLost .referenceInvalid (countTiming .referenceFaults s)
  | _ =>
    if followsPulse previous record ∧ (previous.any fun p => p.age ≤ 2200) then
      setTiming .reference .referenceValid (alignTime record s)
    else s

/-! ### Configuration (R142) -/

/-- The nearest of the five exchange periods, ties to the longer (R142). -/
def nearestPeriod (p : Nat) : Nat :=
  if 2 * p < 375 then 125 else if 2 * p < 750 then 250 else if 2 * p < 1500 then 500 else if 2 * p < 3000 then 1000
  else 2000

/-- The nine values brought into range (R142). -/
def timingInRange (kp ki : Byte) (steerMin steerMax centre lockWindow : BitVec 16) (holdoverLimit : Byte)
    (period : BitVec 16) (delayMax : BitVec 32) : TimingConfig :=
  { kp := kp.toNat, ki := ki.toNat, steerMin := min steerMin.toNat 4095, steerMax := min steerMax.toNat 4095,
    centre := min centre.toNat 4095, lockWindow := clamp 10 1000 lockWindow.toNat,
    holdoverLimit := clamp 1 240 holdoverLimit.toNat, period := nearestPeriod period.toNat,
    delayMax := clamp 1000 1000000 delayMax.toNat }

/-- The holdover limit in frames (R140). -/
def limitFrames (c : TimingConfig) : Nat := c.holdoverLimit * 120000

/-- The holdover limit has run out and the flag is not yet set (R140). -/
def holdoverOver (tm : TM) : Bool :=
  tm.state == .holdover && !tm.expired && tm.holdoverTimer.any fun n => limitFrames tm.config ≤ n

/-- Set the expired flag (R140). -/
def expireHoldover (s : State) : State :=
  announceTiming s.tm.state .expired (s.modTM fun tm => { tm with expired := true })

end Sys2Proof.Machine
end

