-- ==== Sys2Proof/Machine/Link.lean ====
section
/-! DEFINITION. Changes of link state and of the active plan, with everything that each hands to the neighbours in the
same event (R22, R25, R26, R31, R53 to R56, R61, R79 to R83). -/

namespace Sys2Proof.Machine

/-! ### The channel restart (R53 to R56) -/

/-- The HELLO that the Link Controller supplies (R65). -/
def helloMessage (s : State) : LinkMessage :=
  match s.lc.identity with
  | some me => .hello (roleCode s.lc.role) me.siteId me.peer
  | none => .hello (roleCode s.lc.role) 0 0

/-- The restart finishes (R55): the channel is RUNNING, and the LINK_STATE report of a stop is queued (R61). -/
def finishRestart (s : State) : State :=
  let s' := (s.modMC fun mc => { mc with restart := .no }).modLC fun lc => { lc with offReport := none }
  match s.lc.offReport with
  | some (old, reason) =>
    report .linkState 0 [linkStateCode .off, linkStateCode old, linkCauseCode .stop, reason] s'
  | none => s'

/-- The composed frame with its area replaced by that of a restart (R54). -/
def abortFrame (tx : TxFrame) : TxFrame :=
  { tx with positions := tx.positions.modify 0 fun p => p.take 12 ++ abortAreaBytes }

/-- Withdraw what the area composed at this boundary carries (R54): the messages that left a holder or the queue for it
count as withdrawn, none of its messages counts as sent, and the frame carries the abort. -/
def withdrawArea (s : State) : State :=
  ((countTimes (countChannel .withdrawn) s.mc.released (uncountArea s)).modMP fun mp =>
    { mp with tx := abortFrame mp.tx }).modMC fun mc => { mc with released := 0 }

/-- The messages that a restart empties or drops (R54, steps 1 and 2). -/
def heldMessages (s : State) : Nat :=
  s.mc.queue.length + s.mc.timeHolder.toList.length + s.mc.repeatHolder.toList.length + s.lc.kept.length +
    s.st.kept.length

/-- The channel restart at an entry to SEARCH or OFF (R53, R54). `hello` is the HELLO to load, for SEARCH; `inFrame`
says that the entry is taken inside a frame, whose area then stays as it was composed. DESIGN CHOICE (log 37): when it is
taken between the opening of a boundary and its composition, the frame composed there carries the abort, whatever
`inFrame` says. -/
def restartChannel (hello : Option LinkMessage) (inFrame : Bool) (s : State) : State :=
  let s := if s.mc.restart = .now then finishRestart s else s
  let s := countTimes (countChannel .withdrawn) (heldMessages s) s
  let s := s.modMC fun mc =>
    { mc with restart := .next, timeHolder := none, repeatHolder := hello, queue := [],
              abortArea := !s.mp.composed }
  let s := setKept .selfTest [] (setKept .linkController [] s)
  if s.mp.composed ∧ ¬ inFrame then withdrawArea s else s

/-- The messages of the area that stand after the one being dispatched are not dispatched (R56), and so are not counted as
received (log 33). DESIGN CHOICE (log 38): a misplaced time message among them counts as not dispatched, and as nothing
else. -/
def dropInbox (s : State) : State :=
  countTimes (countChannel .notDispatched) s.mc.inbox.length (s.modMC fun mc => { mc with inbox := [] })

/-! ### Entries to SEARCH, OFF and LOST -/

/-- The Plan Store at an entry to SEARCH or OFF (R22, first step). A change that is already due at the boundary under
way stays due there. DESIGN CHOICE (log 22): a fallback step not yet due there is cancelled, so an entry to LOST and then to
SEARCH or OFF at one boundary brings the idle plan alone. -/
def plansToIdle (s : State) : State :=
  (dropPending s).modPS fun ps =>
    { ps with previous := none, idleDue := if ps.idleDue = .now then .now else .next,
              fallbackDue := if ps.fallbackDue = .now then .now else .no }

/-- The Link Controller's records at an entry to SEARCH or OFF (R61). -/
def clearLink (lc : LC) : LC :=
  { lc with history := [], partner := none, joinRecord := none, proposal := none, retryEnd := none, failures := 0,
            lastFailure := none, lostCount := none }

/-- How an entry to SEARCH comes about. -/
inductive EntryKind where
  /-- by dispatching a message -/
  | dispatch
  /-- by a step of a frame boundary -/
  | boundary
  /-- by a request, inside a frame -/
  | request
  deriving DecidableEq, Repr

/-- What the neighbours do at an entry to SEARCH or OFF from the state `old` (R61). -/
def linkDownNeighbours (old : LinkState) (hello : Option LinkMessage) (kind : EntryKind) (s : State) : State :=
  let s := plansToIdle (s.modSF fun sf => { sf with regainRun := none })
  let s := restartChannel hello (kind == .request) s
  let s := if inPair old then timingLinkDown s else s
  let s := closeEval (withTestTrigger (fun s => tryDone (testLinkDown false s)) s)
  if kind = .dispatch then dropInbox s else s

/-- Enter SEARCH (R61, R65). -/
def enterSearch (cause : LinkCause) (extra : Byte) (kind : EntryKind) (s : State) : State :=
  let old := s.lc.link
  let s := s.modLC fun lc => { clearLink lc with link := .search, roleClash := false }
  linkDownNeighbours old (some (helloMessage s)) kind (reportLink old cause extra s)

/-- Enter OFF at the end of a stop (R61, R63); the report waits for the restart to finish. -/
def enterOff (reason : Byte) (s : State) : State :=
  let old := s.lc.link
  let s := s.modLC fun lc => { clearLink lc with link := .off, stop := none }
  let s := linkDownNeighbours old none .boundary s
  s.modLC fun lc => { lc with offReport := some (old, reason) }

/-- A shift fails (R79). -/
def failShift (failure : ShiftFailure) (p : Proposal) (s : State) : State :=
  let s := s.modLC fun lc =>
    { lc with proposal := none, failures := min (lc.failures + 1) 255, lastFailure := some failure,
              retryEnd := some (frameAdd s.mp.frame 64), freeNotice := .next, resolvedHere := true }
  report .shiftFailed 0
    [p.number, shiftFailureCode failure, shiftFailureReason failure, BitVec.ofNat 8 s.lc.failures]
    (countLink .shiftsFailed s)

/-- The link returns from SHIFT to UP (R79, R80), unless a stop is in progress (R63). -/
def endShift (accepted : Bool) (s : State) : State :=
  if s.lc.link = .shift ∧ s.lc.stop = none then
    reportLink .shift .shiftEnd (flagCode accepted) (s.modLC fun lc => { lc with link := .up })
  else s

/-- Enter LOST (R81): the Plan Store's part is R31, the Slot Framer's R15, the Timing Unit's R129, the Self-Test Unit's
R158; at SITE a shift still pending fails. -/
def enterLost (cause : LinkCause) (s : State) : State :=
  let old := s.lc.link
  let s := s.modLC fun lc => { lc with link := .lost, lostCount := some 0 }
  let s := reportLink old cause 0 (s.modSF fun sf => { sf with regainRun := some 0 })
  let s := (dropPending s).modPS fun ps => { ps with fallbackDue := .next }
  let s := if inPair old then timingLinkDown s else s
  let s :=
    match s.lc.proposal with
    | some p => failShift .linkLost p s
    | none => s
  withTestTrigger (fun s => tryDone (testLinkDown true s)) s

/-- Enter UP with cause JOINED or REGAINED (R61, R67, R68, R83). With JOINED while frame lock is UNLOCKED, the link
enters LOST in the same event (R81); otherwise a waiting trigger is served (R111). DESIGN CHOICE (log 29): in the first
case the waiting trigger is not served before the entry to LOST, and the waiting mark stays. -/
def enterUp (cause : LinkCause) (s : State) : State :=
  let old := s.lc.link
  let s := s.modLC fun lc =>
    { lc with link := .up, farFast := 0, farSlow := 0, farHold := PerTenant.const false, joinRecord := none,
              lostCount := none }
  let s := (s.modSF fun sf => { sf with regainRun := none }).modCA fun ca =>
    { ca with farDemands := PerTenant.const 0 }
  let s := closeEval (timingLinkUp (reportLink old cause 0 s))
  if cause = .joined ∧ ¬ s.sf.locked then enterLost .lockLost s else serveWaiting s

/-! ### Changes of the active plan (R25, R26) -/

/-- The Link Controller learns a change of the active plan (R67, R68, R75, R79, R80). -/
def linkPlanChange (cause : PlanCause) (s : State) : State :=
  let s := s.modLC fun lc => { lc with sinceChange := 0 }
  if cause = .effective ∨ cause = .adopted then
    let s :=
      match s.lc.proposal with
      | some _ =>
        endShift true
          (countLink .shiftsAccepted
            (s.modLC fun lc => { lc with proposal := none, failures := 0, freeNotice := .next, resolvedHere := true }))
      | none => endShift true s
    let joins := s.lc.stop.isNone && cause == .effective &&
      match s.lc.role with
      | .hub => s.lc.link == .search
      | .site => s.lc.link == .join
    if joins then enterUp .joined s else s
  else s

/-- Hand a change of the active plan to the neighbours and report it (R26). DESIGN CHOICE (log 25): the Tenant Unit first,
then the Self-Test Unit with its TEST trigger, then the Link Controller; a trigger raised here meets the link as it stood
before its return to UP, and is deferred (R111). -/
def notifyPlan (cause : PlanCause) (old : Plan) (s : State) : State :=
  let p := s.ps.active
  let s := linkPlanChange cause (withTestTrigger (testPlanChange old) (closeEval s))
  report .planActive 0
    ([p.number, BitVec.ofNat 8 p.profile, BitVec.ofNat 8 p.test] ++ encCounts p.counts ++ [planCauseCode cause]) s

/-- Make a plan active, the old one becoming previous (R32). -/
def makeActive (new : Plan) (cause : PlanCause) (s : State) : State :=
  let old := s.ps.active
  notifyPlan cause old (s.modPS fun ps => { ps with active := new, previous := some old })

/-- Activate the pending plan (R25, R27, R30). -/
def activatePending (cause : PlanCause) (s : State) : State :=
  match s.ps.pending with
  | none => s
  | some p =>
    let s := countLink .planActivations s
    let s := if cause = .adopted then countLink .headerAdoptions s else s
    makeActive p.plan cause
      (s.modPS fun ps => { ps with pending := none, fallback := fallbackPlan p.plan.number p.carried })

/-- The fallback plan becomes active (R31, second step), unless it is already. -/
def takeFallback (s : State) : State :=
  let s := s.modPS fun ps => { ps with fallbackDue := .no }
  if s.ps.active = s.ps.fallback then s else makeActive s.ps.fallback .fallback s

/-- The return to the flagged idle plan numbered 0 (R22, second step). -/
def takeIdle (s : State) : State :=
  let old := s.ps.active
  let s := s.modPS fun ps =>
    { ps with idleDue := .no, previous := none, fallback := Plan.flaggedIdle, active := Plan.flaggedIdle }
  if old = Plan.flaggedIdle then closeEval s else notifyPlan .idle old s

/-- The local loopback switch takes effect (R18, R35): frame lock restarts, and the loop plan or a copy of the fallback
plan becomes active. A return to the idle plan due at the same boundary comes first (log 4). DESIGN CHOICE (log 19): a
lock that the switch ends is not counted in lock losses, which R14 counts at the fourth miss. -/
def takeLoopSwitch (s : State) : State :=
  let s := if s.ps.idleDue = .now then takeIdle s else s
  let on := s.mp.loopSwitch
  let s := s.modMP fun mp => { mp with loopback := on, loopDue := .no }
  let s := s.modSF fun sf => { sf with locked := false, goodRun := 0, missRun := 0, lockedBefore := false }
  if on then
    makeActive (loopPlan (s.st.test.getD 0)) .loopSet
      (s.modST fun st => { st with activation := some s.mp.frame })
  else makeActive s.ps.fallback .loopEnd s

/-- A confirmed pending plan is at its effective frame (R25). -/
def activationDue (s : State) : Bool :=
  match s.ps.pending with
  | some p => p.confirmed && p.effective == s.mp.frame
  | none => false

/-- A marked pending plan is at the boundary at which it is activated (R27). -/
def adoptionDue (s : State) : Bool :=
  match s.ps.pending with
  | some p => p.mark == .now
  | none => false

/-- The changes of the active plan that are due at the boundary under way are taken before its frame is composed (R4,
R22, R25, R27, R31, R35). -/
def takeDueChanges (s : State) : State :=
  let s := if s.mp.loopDue = .now then takeLoopSwitch s else s
  let s := if s.ps.fallbackDue = .now then takeFallback s else s
  let s := if s.ps.idleDue = .now then takeIdle s else s
  let s := if adoptionDue s then activatePending .adopted s else s
  if activationDue s then activatePending .effective s else s

end Sys2Proof.Machine
end

