-- ==== Sys2Proof/Machine/Frame.lean ====
section
/-! DEFINITION. The Slot Framer and the Modem Port (01): the composition of a transmit frame and the taking of a received
frame. -/

namespace Sys2Proof.Machine

/-! ### Composition (R6, R9, R11, R17) -/

/-- The header of the frame that begins at the boundary under way (R6, R7). -/
def headerOf (s : State) : Header :=
  { frame := s.mp.frame, profile := s.ps.active.profile, flagged := s.ps.active.flagged, number := s.ps.active.number,
    nibbles := s.tn.tenants.map nibbleOf }

/-- What the composition of an area leaves (R43): the area's bytes, what stays in the time holder and the queue, the time
message placed, and how many messages were placed and how many of them left a holder or the queue for good. -/
structure AreaDone where
  bytes : List Byte
  timeHolder : Option LinkMessage
  queue : List LinkMessage
  timePlaced : Option LinkMessage
  placed : Nat
  released : Nat
  deriving DecidableEq, Repr

/-- Place a holder's message, if one is held and fits. Answers the draft and the message placed. -/
def placeHeld (f : Nat) (held : Option LinkMessage) (d : AreaDraft) : AreaDraft × Option LinkMessage :=
  match held with
  | none => (d, none)
  | some m =>
    match placeMessage f m d with
    | some d' => (d', some m)
    | none => (d, none)

/-- Compose the area of a frame (R38, R43): the time holder, the repeat holder, then the queue. `r` is the frame-start
record with which a TIME_RESP is stamped (R128). -/
def composeArea (mc : MC) (r : FrameStart) : AreaDone :=
  let (d1, timed) := placeHeld mc.flagCount (mc.timeHolder.map (stampMessage r)) AreaDraft.opening
  let (d2, _) := placeHeld mc.flagCount mc.repeatHolder d1
  let (d3, left) := placeQueue mc.flagCount mc.queue d2
  { bytes := finishArea d3, timeHolder := if timed.isSome then none else mc.timeHolder, queue := left,
    timePlaced := timed, placed := d3.placed,
    released := timed.toList.length + (mc.queue.length - left.length) }

/-- The area of the frame that begins here: that of a restart (R54), or composed, with what R43 and R44 bring. -/
def takeArea (s : State) : State × List Byte :=
  if s.mc.abortArea then (s, abortAreaBytes)
  else
    let r := s.tm.current
    let a := composeArea s.mc r
    let s := countArea a.placed (a.timePlaced.any (startsExchange s.tm)) (a.timePlaced.any isResponse) s
    let s :=
      match a.timePlaced with
      | some m => timePlaced m r s
      | none => s
    (s.modMC fun mc => { mc with timeHolder := a.timeHolder, queue := a.queue, released := a.released }, a.bytes)

/-- The TEST positions of the frame that begins here (R153). -/
def testPositions (s : State) : List (List Byte) :=
  (List.range s.ps.active.test).map fun k => testFill s.st s.mp.frame (k + 1)

/-- Record the frame-start time and the active plan of the frame that begins here (R126). -/
def recordStart (s : State) : State :=
  s.modTM fun tm => { tm with before := tm.current, current := ⟨s.mp.frame, tm.time, s.ps.active.number⟩ }

/-- The queues as they stand before the composition (R107). -/
def recordUnsent (s : State) : State := s.modTN fun tn => { tn with unsent := tn.tenants.map unsentBytes }

/-- The Modem Port holds the composed frame for the modem: position 0, the owned positions after it, SPARE positions of
0xFF up to U, and the mute indication (R4, R10, R11, R17). -/
def holdFrame (position0 : List Byte) (owned : List (List Byte)) (s : State) : State :=
  let profile := s.ps.active.profile
  let spare := List.replicate (usable profile - 1 - owned.length) onesPosition
  let mute := muted s
  let s := if mute then countLink .mutedFrames s else s
  s.modMP fun mp =>
    { mp with txBefore := mp.tx, tx := ⟨mp.frame, profile, mute, position0 :: (owned ++ spare)⟩, composed := true }

/-- The Slot Framer composes the frame that begins here, with the plan active here: the header and the area, the TEST
positions, then the tenants' positions in ascending order (R6, R9, R20). -/
def placeFrame (s : State) : State :=
  let area := takeArea s
  let c1 := composeTenant .t1 area.1
  let c2 := composeTenant .t2 c1.1
  let c3 := composeTenant .t3 c2.1
  let c4 := composeTenant .t4 c3.1
  holdFrame (headerBytes (headerOf s) ++ area.2) (testPositions s ++ c1.2 ++ c2.2 ++ c3.2 ++ c4.2) c4.1

/-- One of the three frames of a stop has been composed (R63). DESIGN CHOICE (log 28): a frame that carries the abort of an
entry to SEARCH (R54) counts among the three, so the BYE of a LINK_STOP taken between that entry and the composition goes
out in two frames. DESIGN CHOICE (log 39): the stop count that LINK_STATUS shows (R84) goes down by one at each of the three
compositions, from 3 to 0. -/
def countStop (s : State) : State :=
  s.modLC fun lc => { lc with stop := lc.stop.map fun st => { st with count := st.count - 1 } }

/-- Evaluate a fall (R74): the target goes to the Capacity Allocator as a PROFILE trigger. -/
def evaluateFall (s : State) : State := if fallCalled s then allocate .profile (fallTarget s) s else s

/-- What the emptying of queues by the composition brings: close conditions (R91) and drain completions. -/
def afterSending (before : PerTenant TenantRec) (s : State) : State :=
  let s := closeEval s
  drainCompletion .t4 before.t4 (drainCompletion .t3 before.t3 (drainCompletion .t2 before.t2
    (drainCompletion .t1 before.t1 s)))

/-- The composition of the frame that begins at the boundary under way, at its oscillator advance. The fall of the
boundary is evaluated here when the received frame has been taken, and there otherwise (R74). DESIGN CHOICE (log 40): the
drain completions that the composition brings, with their TENANT triggers (R110), come before the composed frame is counted
as tested (R153) and before the TEST trigger of a test that it ends. -/
def composeFrame (elapsed : Nat) (s : State) : State :=
  let s := recordUnsent (recordStart (takeDueChanges (advanceCounter elapsed s)))
  let before := s.tn.tenants
  let s := afterSending before (countStop (placeFrame s))
  let s := withTestTrigger (testComposed s.ps.active) s
  if s.mp.rxTaken then evaluateFall s else s

/-- What the modem is handed for a frame (R11, R17): 0xFF in every position of a muted frame. -/
def modemPositions (tx : TxFrame) : List (List Byte) :=
  if tx.mute then tx.positions.map fun _ => onesPosition else tx.positions

/-! ### Reception (R8, R11 to R16) -/

/-- A received or looped frame as the Slot Framer gets it. -/
structure Received where
  undecodable : Bool
  positions : List (List Byte)
  looped : Bool
  deriving DecidableEq, Repr

/-- The frame the Modem Port passes to the Slot Framer (R11, R18): in local loopback the one composed for the frame
before. -/
def passedFrame (m : ModemFrame) (s : State) : Received :=
  if s.mp.loopback then ⟨false, (if s.mp.composed then s.mp.txBefore else s.mp.tx).positions, true⟩
  else ⟨m.undecodable, m.positions, false⟩

/-- The quality sample as the Modem Port corrects it, appended to the quality history (R12, R70). -/
def takeQuality (m : ModemFrame) (s : State) : State :=
  let s := if !m.undecodable && 400 < m.quality then countLink .qualityClamps s else s
  let sample := if m.undecodable then 0 else min m.quality 400
  s.modLC fun lc => { lc with history := (lc.history ++ [sample]).drop (lc.history.length + 1 - 256) }

/-- The judgement of a received frame's header (R8), none when it is not good. -/
def receivedHeader (r : Received) : Option Header :=
  if r.undecodable then none
  else
    match judgeHeader (r.positions.headD []) with
    | .good h => some h
    | .notGood => none

/-- Count a received frame in the first matching row of R8. -/
def countHeader (r : Received) (s : State) : State :=
  if r.undecodable then countLink .undecodableFrames s
  else if (receivedHeader r).isSome then countLink .goodHeaders s
  else countLink .headerErrors s

/-- The change of lock that a frame brings (R14). -/
inductive LockChange where
  | same | gained | lost
  deriving DecidableEq, Repr

/-- The frame lock state machine (R14). -/
def lockStep (good : Bool) (sf : SF) : SF × LockChange :=
  let next := { sf with lockedBefore := sf.locked }
  match sf.locked, good with
  | false, true =>
    if 3 ≤ sf.goodRun + 1 then ({ next with locked := true, goodRun := 3, missRun := 0 }, .gained)
    else ({ next with goodRun := sf.goodRun + 1 }, .same)
  | false, false => ({ next with goodRun := 0 }, .same)
  | true, true => ({ next with missRun := 0 }, .same)
  | true, false =>
    if 4 ≤ sf.missRun + 1 then ({ next with locked := false, goodRun := 0, missRun := 0 }, .lost)
    else ({ next with missRun := sf.missRun + 1 }, .same)

/-- The regain run of a frame taken while the link is LOST (R15). -/
def regainStep (good : Bool) (run : Option Nat) : Option Nat :=
  run.map fun n => if n = 16 then 16 else if good then n + 1 else 0

/-- The lock has been regained by this frame (R15): the run has just reached 16. -/
def regainedNow (before after : Option Nat) : Bool := before != some 16 && after == some 16

/-- Gaining lock renumbers a SITE in OFF or SEARCH (R2): the number the next frame is given. It is counted when that boundary
opens (log 35). -/
def renumberOn (h : Header) (s : State) : State :=
  if s.lc.role = .site ∧ (s.lc.link = .off ∨ s.lc.link = .search) then
    s.modMP fun mp => { mp with renumber := some (h.frame + 2) }
  else s

/-- Frame lock for one received frame (R14 to R16, R2), with what the Link Controller does on a loss and a regain (R81,
R83). -/
def takeLock (header : Option Header) (s : State) : State :=
  let good := header.isSome
  let lost := s.lc.link == .lost
  let run := s.sf.regainRun
  let (sf, change) := lockStep good s.sf
  let sf := if lost then { sf with regainRun := regainStep good run } else sf
  let regained := lost && regainedNow run sf.regainRun && s.lc.stop.isNone
  let s := s.modSF fun _ => sf
  let s :=
    match header with
    | some h => if h.frame ≠ s.mp.frame - 1 then countLink .frameMismatches s else s
    | none => s
  let s :=
    match change, header with
    | .gained, some h => renumberOn h (countLink .lockGains s)
    | .gained, none => countLink .lockGains s
    | .lost, _ =>
      let s := countLink .lockLosses s
      if inPair s.lc.link ∧ s.lc.stop = none then enterLost .lockLost s else s
    | .same, _ => s
  if regained then enterUp .regained s else s

/-- The positions of one tenant under a plan, ascending (R13, R20). -/
def tenantPositions (plan : Plan) (positions : List (List Byte)) (tenant : Tenant) : List (List Byte) :=
  let c := plan.counts
  let start :=
    match tenant with
    | .t1 => 1 + plan.test
    | .t2 => 1 + plan.test + c.t1
    | .t3 => 1 + plan.test + c.t1 + c.t2
    | .t4 => 1 + plan.test + c.t1 + c.t2 + c.t3
  (positions.drop start).take (c.get tenant)

/-- The TEST positions under a plan with their numbers, ascending (R13, R20). -/
def testTaken (plan : Plan) (positions : List (List Byte)) : List (Nat × List Byte) :=
  (List.range plan.test).map (· + 1) |>.zip ((positions.drop 1).take plan.test)

/-- Distribute the positions of a frame by its decoding plan (R13). -/
def distribute (h : Header) (plan : Plan) (r : Received) (s : State) : State :=
  let tests := testTaken plan r.positions
  let s := takeTenantPositions .t1 (tenantPositions plan r.positions .t1) s
  let s := takeTenantPositions .t2 (tenantPositions plan r.positions .t2) s
  let s := takeTenantPositions .t3 (tenantPositions plan r.positions .t3) s
  let s := takeTenantPositions .t4 (tenantPositions plan r.positions .t4) s
  withTestTrigger (takeTestPositions h.frame plan r.looped tests) (keepTaken s.mp.frame tests s)

/-- No positions are distributed from a frame: a gap for the Tenant Unit (R102), and nothing taken by the Self-Test
Unit. -/
def noPositions (s : State) : State := keepTaken s.mp.frame [] (gapAll s)

/-- The partner sends under its fallback plan while the part's own active plan is regular (R82). -/
def partnerFell (h : Header) (s : State) : Bool :=
  inPair s.lc.link && s.lc.stop.isNone && h.flagged && !s.ps.active.flagged && 16 ≤ s.lc.sinceChange

/-- The messages of an area wait for dispatch (R48 to R51); each counts as received when it is dispatched (R50, log 33). -/
def takeAreaMessages (h : Header) (position0 : List Byte) (s : State) : State :=
  let found := assembleArea (position0.drop 12)
  let s := found.counts.foldl (fun s c => countChannel c s) s
  s.modMC fun mc =>
    { mc with inbox := mc.inbox ++ found.messages.map fun m =>
        { message := m.1, taken := s.mp.frame, header := h.frame, atBit8 := m.2 } }

/-- The message is a TIME_REQ or a TIME_RESP. -/
def isTime : LinkMessage → Bool
  | .timeReq .. => true
  | .timeResp .. => true
  | _ => false

/-- The misplaced time messages at the head of those that wait are dropped, and count as received (R52). -/
def skipMisplaced : List RxMessage → State → State
  | [], s => s.modMC fun mc => { mc with inbox := [] }
  | m :: ms, s =>
    if isTime m.message && !m.atBit8 then skipMisplaced ms (countChannel .misplacedTime (countChannel .messagesReceived s))
    else s.modMC fun mc => { mc with inbox := m :: ms }

/-- The far nibbles of a frame, unless it is looped (R7, R18). -/
def takeNibbles (h : Header) (r : Received) (s : State) : State := if r.looped then s else takeFarNibbles h.nibbles s

/-- The header of a frame marks the pending plan, unless the frame is looped (R18, R27). -/
def markBy (h : Header) (r : Received) (s : State) : State :=
  if ¬ r.looped ∧ adopts s.lc.role s.ps h then markPending s else s

/-- The positions of a frame go to their owners, or nowhere when its plan is unknown (R13, R33, R34). -/
def takePositions (h : Header) (r : Received) (decoded : Option Plan) (s : State) : State :=
  match decoded with
  | some plan => distribute h plan r s
  | none => noPositions (countLink .planUnknownFrames s)

/-- A frame sent under the partner's fallback plan takes the link to LOST, unless it is looped (R18, R82). -/
def fallBy (h : Header) (r : Received) (s : State) : State :=
  if ¬ r.looped ∧ partnerFell h s then enterLost .partnerFallback (countLink .partnerFallbacks s) else s

/-- The messages of a frame, unless it is looped (R13, R18, R48 to R52). -/
def takeMessages (h : Header) (r : Received) (s : State) : State :=
  if r.looped then s
  else
    let s := takeAreaMessages h (r.positions.headD []) s
    skipMisplaced s.mc.inbox s

/-- A frame with a good header: the nibbles, adoption, the positions by the plan its header names among those held when
it is taken, the partner's fall, and the messages (R7, R13, R27, R33, R34, R82). -/
def takeGoodFrame (h : Header) (r : Received) (s : State) : State :=
  takeMessages h r (fallBy h r (takePositions h r (decodingPlan s.ps h) (markBy h r (takeNibbles h r s))))

/-- The taking of a received frame at the boundary under way (R11 to R16), with the fall that follows its append when the
frame that begins here has been composed (R74). -/
def receiveFrame (m : ModemFrame) (s : State) : State :=
  let s := if s.mp.loopDue = .now then takeLoopSwitch s else s
  let r := passedFrame m s
  let header := receivedHeader r
  let s := s.modTN fun tn => { tn with out := PerTenant.const [] }
  let s := takeLock header (countHeader r (takeQuality m s))
  let s :=
    match header with
    | some h => takeGoodFrame h r s
    | none => noPositions s
  let s := s.modMP fun mp => { mp with rxTaken := true }
  if s.mp.composed then evaluateFall s else s

end Sys2Proof.Machine
end

