-- ==== Sys2Proof/Machine/Replies.lean ====
section
/-! DEFINITION. The contents of the replies that read the part (R37, R84, R105, R122, R144, R145, R162, R171, R173, R179),
in the field sizes of R181. Log 11 names the layout choices. -/

namespace Sys2Proof.Machine

/-- PART_INFO (R173): family code 0x3A, revision 0x01. -/
def partInfoContent (s : State) : List Byte :=
  [0x3A, 0x01, roleCode s.lc.role, rateCode s.cp.rate] ++
    encOpt 8 (fun me : Identity => enc32 me.siteId.toNat ++ enc32 me.peer.toNat) s.lc.identity

/-- A report record (11.3). -/
def reportBytes (r : Report) : List Byte :=
  [reportKindCode r.kind, BitVec.ofNat 8 r.subject] ++ encFrame r.frame ++ r.detail

/-- REPORTS_FETCH (R171): the count, the lost flag, the number still queued, the reports. DESIGN CHOICE (log 11): the two
numbers are one byte each. -/
def fetchContent (cp : CP) : List Byte :=
  let k := min 8 cp.reports.length
  enc8 k ++ encFlag cp.lost ++ enc8 (cp.reports.length - k) ++ (cp.reports.take k).flatMap reportBytes

/-- LINK_CONFIG (R60): the four values as stored. -/
def linkConfigContent (s : State) : List Byte :=
  enc8 s.lc.hostMax ++ enc8 s.lc.hysteresis ++ enc8 s.lc.lead ++ enc8 s.mc.flagCount

/-- LINK_STATUS (R84). DESIGN CHOICE (log 11): the proposal record is number, effective frame and late-ACK mark (one byte);
the NAK reason of a last failure whose cause is not NAK is 0xFF. -/
def linkStatusContent (s : State) : List Byte :=
  let lc := s.lc
  [linkStateCode lc.link, roleCode lc.role] ++ encOpt 1 (fun st : Stop => enc8 st.count) lc.stop ++
    enc8 s.ps.active.profile ++ enc8 (ceiling s) ++ enc8 lc.hostMax ++ enc8 s.st.commissioned ++ enc8 (timingCap s) ++
    enc8 lc.hysteresis ++ enc8 lc.lead ++
    enc16 (fastMinimum lc.history) ++ enc16 (slowMean lc.history) ++ enc16 lc.history.length ++ enc16 lc.farFast ++
    enc16 lc.farSlow ++ lc.farHold.toList.flatMap encFlag ++
    enc8 lc.failures ++ encOpt 2 (fun f => [shiftFailureCode f, shiftFailureReason f]) lc.lastFailure ++
    encOpt 4 (fun p : Proposal => [p.number] ++ encFrame p.effective ++ encFlag p.lateAck) lc.proposal ++
    encOpt 6 (fun j : JoinRecord => encFrame j.effective ++ encCounts j.counts) lc.joinRecord ++
    enc16 lc.sinceChange ++ encOpt 2 enc16 lc.lostCount ++ encOpt 2 encFrame lc.retryEnd ++
    encFlag lc.identity.isSome ++ encOpt 4 (fun me : Identity => enc32 me.siteId.toNat) lc.identity ++
    encOpt 4 (fun me : Identity => enc32 me.peer.toNat) lc.identity ++
    encOpt 4 (fun p : SiteId => enc32 p.toNat) lc.partner ++ encFlag lc.roleClash

/-- The fields of a plan in PLAN_READ: number, profile, T, counts (R37). -/
def planFields (p : Plan) : List Byte := [p.number] ++ enc8 p.profile ++ enc8 p.test ++ encCounts p.counts

/-- PLAN_READ (R37). -/
def planReadContent (s : State) : List Byte :=
  encFrame s.mp.frame ++ planFields s.ps.active ++ encFlag s.ps.active.flagged ++
    encOpt 16 (fun p : Pending => planFields p.plan ++ encFlag p.plan.flagged ++ encFrame p.effective ++
      encCounts p.carried ++ encFlag p.confirmed ++ encFlag (p.mark != .no)) s.ps.pending ++
    encOpt 8 (fun p : Plan => planFields p ++ encFlag p.flagged) s.ps.previous ++
    [s.ps.fallback.number] ++ encCounts s.ps.fallback.counts ++ (ownerMap s.ps.active).map ownerCode

/-- The seven configuration fields of a tenant, in request order (R86, R181). -/
def configFields (c : TenantConfig) : List Byte :=
  enc8 c.committed ++ enc8 c.weight ++ enc8 c.ceiling ++ enc16 c.queueLimit ++ enc8 c.burst ++ [c.fill] ++
    encFlag c.syncDependent

/-- The place of a reassembly mode in the list of R100. -/
def reassemblyModeIndex : Reassembly → Nat
  | .hunt => 0
  | .idle => 1
  | .length _ => 2
  | .packet _ _ => 3

/-- TENANT_STATUS (R105). DESIGN CHOICE (log 11): the far nibble is one byte, its four bits the low ones. -/
def tenantStatusContent (tenant : Tenant) (s : State) : List Byte :=
  let t := s.tn.tenants.get tenant
  [tenantStateCode t.state] ++ configFields t.config ++ encFlag t.syncOk ++ [nibbleCode t.far] ++ encFlag t.hold ++
    encOpt 2 (fun d : Drain => encFrame d.start) t.drain ++ encOpt 1 (fun d : Drain => encFlag d.flushed) t.drain ++
    enc16 t.queue.length ++ enc16 (occupancy t) ++ enc16 (allowance s.ps.active tenant t) ++ enc16 s.tn.free ++
    enc16 (reserved s.tn) ++ encFlag t.ready.isSome ++ encOpt 2 enc16 t.ready ++ encFlag t.hold ++
    [Config.reassemblyModeCode (reassemblyModeIndex t.reassembly)]

/-- The allocation mode's code: AUTO 0, FIXED 1 (11.2). -/
def allocModeContent (ca : CA) : List Byte := encFlag ca.fixed ++ encCounts ca.fixedCounts

/-- The place of a cause in R122's list. -/
def allocCauseIndex : AllocCause → Nat
  | .periodic => 0
  | .profile => 1
  | .tenant => 2
  | .test => 3
  | .mode => 4
  | .deferred => 5

/-- The place of a class in R109's table. -/
def tenantClassIndex : TenantClass → Nat
  | .eligible => 0
  | .drainingHeld => 1
  | .none => 2

/-- The last candidate in ALLOC_STATUS (R122), with the per-tenant figures of its allocation. -/
def candidateFields (c : Candidate) : List Byte :=
  enc8 c.profile ++ enc8 c.test ++ encCounts c.counts ++ encCounts c.fallback ++
    [Config.allocCauseCode (allocCauseIndex c.cause)] ++ encFrame c.frame ++ encFlag c.worth ++ enc8 c.available ++
    Tenant.all.flatMap fun t =>
      [Config.tenantClassCode (tenantClassIndex (c.classes.get t))] ++ enc8 (c.need.get t) ++ enc8 (c.demand.get t)

/-- ALLOC_STATUS (R122). -/
def allocStatusContent (s : State) : List Byte :=
  [roleCode s.lc.role] ++ allocModeContent s.ca ++
    (Tenant.all.flatMap fun t =>
      enc8 (s.ca.demands.get t) ++ enc32 (s.ca.sums.get t) ++ enc8 (s.ca.farDemands.get t) ++
        enc8 (farDemandTaken s t)) ++
    encFlag s.ca.waiting ++ encOpt 27 candidateFields s.ca.last ++ encCounts s.ps.active.counts ++
    enc8 s.ps.active.test

/-- The nine values of TIMING_CONFIG, in request order (R142, R181). -/
def timingConfigContent (c : TimingConfig) : List Byte :=
  enc8 c.kp ++ enc8 c.ki ++ enc16 c.steerMin ++ enc16 c.steerMax ++ enc16 c.centre ++ enc16 c.lockWindow ++
    enc8 c.holdoverLimit ++ enc16 c.period ++ enc32 c.delayMax

/-- A live counter of the timing group. -/
def timingCounter (c : TimingCounter) (s : State) : Nat := s.cb.live.timing.getD c.ctorIdx 0

/-- TIMING_STATUS (R144). DESIGN CHOICE (log 11): the expired flag is a plain flag in both roles, 0 at HUB; the counts of
rejected exchanges are the two counters, plan then delay. -/
def timingStatusContent (s : State) : List Byte :=
  let tm := s.tm
  [roleCode s.lc.role, timingStateCode tm.state] ++ encFlag tm.expired ++
    encOpt 8 (beSigned 8) tm.lastOffset ++ encOpt 8 (beSigned 8) tm.lastDelay ++ encOpt 2 (beSigned 2) tm.lastE ++
    encOpt 4 (beSigned 4) tm.lastU ++ encOpt 2 enc16 tm.lastS ++ beSigned 4 tm.integrator ++ enc16 tm.steer ++
    encOpt 2 enc16 tm.holdoverCode ++ enc8 tm.window.length ++ enc8 tm.history.length ++
    encOpt 4 enc32 tm.holdoverTimer ++ enc8 tm.goodRun ++ enc8 tm.largeRun ++ enc8 tm.lostRun ++
    encOpt 3 (fun x : Exchange => [x.sequence] ++ encFrame x.frame) tm.outstanding ++
    enc32 (timingCounter .lost s) ++ enc32 (timingCounter .rejectedPlan s) ++ enc32 (timingCounter .rejectedDelay s) ++
    timingConfigContent tm.config ++
    encOpt 2 (fun p : RefPulse => enc16 p.age) (if s.lc.role = .hub then tm.pulse else none)

/-- TIME_READ (R145): the frame-start time of the current frame. -/
def timeReadContent (s : State) : List Byte :=
  encTime s.tm.current.time ++ encFrame s.tm.current.frame ++ [timingStateCode s.tm.state]

/-- A run in TEST_RESULT: COUNT 0 with N, FREE 1 (11.2). -/
def runFields : TestRun → List Byte
  | .count n => 0 :: enc32 n
  | .free => 1 :: enc32 0

/-- A responder context in TEST_RESULT (R152, R162). -/
def responderFields (r : Responder) : List Byte :=
  [testKindCode r.kind, testModeCode r.mode] ++ enc8 r.test ++ enc32 r.frames ++ enc48 r.bits ++ enc32 r.errored

/-- TEST_RESULT (R146, R162). -/
def testResultContent (st : ST) : List Byte :=
  encOpt 1 (fun k => [testKindCode k]) st.kind ++ encOpt 1 (fun m => [testModeCode m]) st.mode ++
    encOpt 1 enc8 st.test ++ encOpt 5 runFields st.run ++ encOpt 4 enc32 st.allowed ++ [testStateCode st.state] ++
    encOpt 1 (fun o => [outcomeCode o]) st.outcome ++ enc32 st.frames ++ encFlag st.wrapped ++ enc48 st.bits ++
    enc32 st.errored ++ encOpt 4 enc32 st.erroredFrames ++ encOpt 4 enc32 st.farFrames ++
    st.stages.flatMap (encOpt 8 fun e : StageEntry => enc32 e.frames ++ enc32 e.errored) ++
    encOpt 2 encFrame st.activation ++ encOpt 2 encFrame st.deadline ++ enc8 st.commissioned ++
    encOpt 1 enc8 st.saved ++ enc8 st.reqTest ++ encOpt 1 enc8 st.reqProfile ++ encFlag st.awaiting ++
    encOpt 17 responderFields st.responder

/-- The counters of the group a selector names (R179). -/
def groupOf (selector : Nat) (b : Bank) : Option (List Nat) :=
  match selector with
  | 5 => some b.link
  | 6 => some b.channel
  | 7 => some b.timing
  | 8 => some b.test
  | 9 => some b.control
  | n => (Tenant.ofNumber n).map b.tenants.get

/-- COUNTERS_READ (R179). -/
def countersReadContent (selector : Byte) (counters : List Nat) (capture : FrameNo × Bool) (now : FrameNo) :
    List Byte :=
  [selector] ++ encFrame capture.1 ++ encFlag capture.2 ++ encFrame now ++ counters.flatMap enc32

end Sys2Proof.Machine
end

