-- ==== Sys2Proof/Machine/ControlPort.lean ====
section
/-! DEFINITION. The Control Port (09): the receiver, the input buffer, serving and replies. -/

namespace Sys2Proof.Machine

/-! ### Requests and replies (R167, R168, R181) -/

/-- The body length of a request kind, none for a kind that is no request kind (R181). -/
def requestLength (kind : Byte) : Option Nat :=
  match kind.toNat with
  | 0x01 => some 0
  | 0x02 => some 0
  | 0x03 => some 0
  | 0x04 => some 1
  | 0x10 => some 8
  | 0x11 => some 4
  | 0x12 => some 0
  | 0x13 => some 1
  | 0x14 => some 0
  | 0x15 => some 0
  | 0x20 => some 9
  | 0x21 => some 1
  | 0x22 => some 1
  | 0x23 => some 1
  | 0x24 => some 1
  | 0x28 => some 5
  | 0x29 => some 0
  | 0x30 => some 17
  | 0x31 => some 0
  | 0x32 => some 0
  | 0x33 => some 0
  | 0x40 => some 12
  | 0x41 => some 0
  | 0x42 => some 0
  | 0x50 => some 1
  | 0x51 => some 1
  | _ => none

/-- The start byte (R181). -/
def startByte : Byte := 0xC3

/-- A frame of the control line (R181). -/
def lineFrame (kind tag : Byte) (body : List Byte) : List Byte :=
  let covered := beBytes 2 body.length ++ [kind, tag] ++ body
  startByte :: (covered ++ crcBytes covered)

/-- The reply to a request (R168): the content follows only with OK or ACCEPTED. -/
def replyFrame (r : Request) (code : ResultCode) (content : List Byte) : List Byte :=
  lineFrame (r.kind + 0x80) r.tag
    (resultByte code :: if code = .ok ∨ code = .accepted then content else [])

/-- Set what becomes of the request being served. -/
def setService (v : Service) (s : State) : State := s.modCP fun cp => { cp with service := v }

/-- Begin serving the oldest request when none is being served (R167): the two checks, then it is handed to its
owner. -/
def serveNext (s : State) : State :=
  match s.cp.service, s.cp.buffer with
  | .idle, r :: _ =>
    match requestLength r.kind with
    | none => setService (.replying (replyFrame r .unknown [])) (countControl .unknownKinds s)
    | some n =>
      if r.body.length = n then setService .handed s
      else setService (.replying (replyFrame r .badArg [])) (countControl .wrongLengths s)
  | _, _ => s

/-- What an owner answers to a request: the state after its event, the result code and the content. -/
structure Answer where
  state : State
  code : ResultCode
  content : List Byte

/-- The answer that refuses a request or carries only a code. -/
def Answer.plain (code : ResultCode) (s : State) : Answer := ⟨s, code, []⟩

/-- A request is taken by its owner (R167), when it is the one handed over; when the Control Port is at rest with an
empty buffer, the request first joins the buffer with tag 0 (log 8). Otherwise its moment has not come. -/
def handedRequest (kind : Byte) (body : List Byte) (s : State) : Option (Request × State) :=
  match s.cp.service, s.cp.buffer with
  | .handed, r :: _ => if r.kind = kind ∧ r.body = body then some (r, s) else none
  | .idle, [] =>
    if s.cp.resetDue then none
    else some (⟨kind, 0, body⟩, s.modCP fun cp => { cp with buffer := [⟨kind, 0, body⟩], service := .handed })
  | _, _ => none

/-- The owner acts on a request in a single event, and its answer becomes the reply (R167, R168). -/
def takeRequest (kind : Byte) (body : List Byte) (owner : State → Answer) (s : State) : State :=
  match handedRequest kind body s with
  | none => s
  | some (r, s) =>
    let a := owner (countControl .requestsServed s)
    setService (.replying (replyFrame r a.code a.content)) a.state

/-! ### The receiver (R164, R165) -/

/-- A good request joins the input buffer, or is discarded when it holds two (R165, R166). -/
def joinBuffer (r : Request) (s : State) : State :=
  if s.cp.buffer.length < 2 then serveNext (s.modCP fun cp => { cp with buffer := cp.buffer ++ [r] })
  else countControl .bufferOverflows s

/-- Set the receiver's mode. -/
def setReceiver (v : Receiver) (s : State) : State := s.modCP fun cp => { cp with receiver := v }

/-- A complete frame: its check decides (R164). `gathered` holds everything after the start byte. -/
def completeFrame (gathered : List Byte) (s : State) : State :=
  let n := gathered.length - 2
  let covered := gathered.take n
  if gathered.drop n = crcBytes covered then
    joinBuffer ⟨byteAt gathered 2, byteAt gathered 3, covered.drop 4⟩ s
  else countControl .checkFailures s

/-- One character with a good stop bit (R164). -/
def takeChar (s : State) (c : Byte) : State :=
  match s.cp.receiver with
  | .outside => if c = startByte then setReceiver (.inside []) s else s
  | .inside before =>
    let gathered := before ++ [c]
    if gathered.length < 2 then setReceiver (.inside gathered) s
    else
      let n := field gathered 0 2
      if 250 < n then countControl .lengthDiscards (setReceiver .outside s)
      else if gathered.length = n + 6 then completeFrame gathered (setReceiver .outside s)
      else setReceiver (.inside gathered) s

/-- Characters arrive, one after another; during a reset they are ignored (R174). -/
def takeChars (chars : List Byte) (s : State) : State := if s.cp.resetDue then s else chars.foldl takeChar s

/-- A frame in progress is discarded (R165); during a reset nothing is counted (R174). -/
def discardFrame (c : ControlCounter) (s : State) : State :=
  match s.cp.resetDue, s.cp.receiver with
  | false, .inside _ => countControl c (setReceiver .outside s)
  | _, _ => s

/-! ### The end of a reply (R166, R167, R174) -/

/-- The kind of PART_RESET. -/
def partResetKind : Byte := 0x02

/-- The request being answered is a PART_RESET. -/
def answeringReset (cp : CP) : Bool :=
  match cp.service, cp.buffer with
  | .replying _, r :: _ => r.kind == partResetKind && r.body.isEmpty
  | _, _ => false

/-- The last character of a reply has been sent: the request leaves the buffer and the next is served; after the reply
to a PART_RESET the reset is due and nothing more is served. -/
def endReply (s : State) : State :=
  match s.cp.service with
  | .replying _ =>
    if answeringReset s.cp then
      s.modCP fun cp => { cp with buffer := cp.buffer.drop 1, service := .idle, resetDue := true }
    else serveNext (s.modCP fun cp => { cp with buffer := cp.buffer.drop 1, service := .idle })
  | _ => s

end Sys2Proof.Machine
end

