-- ==== Sys2Proof/Machine/ExecReset.lean ====
section
/-! DEFINITION. The meanings of the two resets (R174). -/

namespace Sys2Proof.Machine

/-- What a meaning answers. -/
abbrev Result := Host.Outcome State Fault Refusal

/-- A reset with its cause and the strap levels at its end; the model's queue of commands is no state of the part. -/
def resetTo (cause : Byte) (role : Role) (rate : LineRate) (s : State) : State :=
  { State.afterReset cause role rate with pending := s.pending }

/-- POWER_ON_RESET (R174): cause POWER_ON. -/
def execPowerOnReset (role : Role) (rate : LineRate) (s : State) : Result := .next (resetTo 0 role rate s)

/-- ENTER_RESET (R174): when the last character of the reply to a PART_RESET has been sent; cause PART_RESET. -/
def execEnterReset (role : Role) (rate : LineRate) (s : State) : Result :=
  .next (if s.cp.resetDue || answeringReset s.cp then resetTo 1 role rate s else s)

end Sys2Proof.Machine
end

