-- ==== Sys2Proof/WellFormed.lean ====
section
/-! DEFINITION. When a command's operands are ones that the outside of the part can give. Only the modem's frame can be
ill-formed: every other operand's type holds exactly what its field or signal can carry. -/

namespace Sys2Proof

open Machine

/-- A frame the modem can deliver (R5, R11): when position 0 is decodable, it is there; every position delivered is 768
bytes long; and when the header is good, at least the positions of its profile are there. -/
def ModemFrame.wf (m : ModemFrame) : Bool :=
  m.undecodable ||
    match m.positions with
    | [] => false
    | position0 :: rest =>
      (position0 :: rest).all (fun p => p.length == 768) &&
        match judgeHeader position0 with
        | .notGood => true
        | .good h => usable h.profile ≤ rest.length + 1

/-- A command is well-formed. -/
def Instr.wf : Instr → Bool
  | .receivedFrame frame => frame.wf
  | _ => true

end Sys2Proof
end

