-- ==== Sys2Proof/Machine/ExecFrame.lean ====
section
/-! DEFINITION. The meanings of the frame commands (R11, R13, R18). -/

namespace Sys2Proof.Machine

/-- FRAME_BOUNDARY (R1, R11): the boundary opens, unless another of its steps has opened it, and its frame is
composed. -/
def execFrameBoundary (elapsed : Nat) (s : State) : Result :=
  .next (composeFrame elapsed (if s.mp.composed then openBoundary s else s))

/-- RECEIVED_FRAME (R13): the frame is taken at the boundary under way, or opens the next when this one has had its
frame and is composed. An operand that no modem delivers faults (log 6). -/
def execReceivedFrame (frame : ModemFrame) (s : State) : Result :=
  if frame.wf then
    .next (if ¬ s.mp.rxTaken then receiveFrame frame s
      else if s.mp.composed then receiveFrame frame (openBoundary s)
      else s)
  else .fault .malformedFrame

/-- LOOPBACK_SWITCH_EFFECT (R18, R35). -/
def execLoopbackSwitchEffect (s : State) : Result :=
  .next (atBoundary (fun s => s.mp.loopDue == .now) takeLoopSwitch s)

end Sys2Proof.Machine
end

