-- ==== Sys2Proof/Machine/ExecMessage.lean ====
section
/-! DEFINITION. The meanings of the link messages taken (R51, and the rule of each message). -/

namespace Sys2Proof.Machine

/-- A message is dispatched (R51): the first of those that wait from the area, or, when none wait, one given by itself
(log 7). It counts as received (R50, log 33). A message that is not the next changes nothing. Misplaced time messages that
come to the head are dropped (R52). -/
def dispatchMessage (m : LinkMessage) (act : State → State) (s : State) : State :=
  match s.mc.inbox with
  | [] => act (countChannel .messagesReceived s)
  | r :: rest =>
    if r.message = m then
      let s := act (countChannel .messagesReceived (s.modMC fun mc => { mc with inbox := rest }))
      skipMisplaced s.mc.inbox s
    else s

/-- A link message that is not acted on (section 4.6, the table of messages; R63). -/
def unexpected (s : State) : State := countLink .unexpectedMessages s

/-! ### HELLO -/

/-- A HELLO of the part's own role in SEARCH (R65). -/
def roleClash (siteId : SiteId) (s : State) : State :=
  let s := countLink .roleClashes s
  if s.lc.roleClash then s
  else report .roleClash 0 (enc32 siteId.toNat) (s.modLC fun lc => { lc with roleClash := true })

/-- The part's own site id. -/
def ownSiteId (s : State) : SiteId := (s.lc.identity.map (·.siteId)).getD 0

/-- A HELLO is accepted at SITE (R66): the JOIN goes out and the link enters JOIN. -/
def acceptHello (siteId : SiteId) (s : State) : State :=
  let effective := frameAdd s.mp.frame s.lc.lead
  let counts := fallbackCounts s
  let s := clearRepeat (s.modLC fun lc => { lc with partner := some siteId, joinRecord := some ⟨effective, counts⟩ })
  let s := send .linkController (.join (ownSiteId s) effective (counts.map (BitVec.ofNat 8))) s
  reportLink .search .joinSent 0 (s.modLC fun lc => { lc with link := .join })

/-- The partner has returned to bring-up (R69). -/
def partnerRestart (s : State) : State :=
  enterSearch .partnerRestart 0 .dispatch (countLink .partnerRestarts s)

/-- Take a HELLO (R65, R66, R69). -/
def takeHello (role : Byte) (siteId peer : SiteId) (s : State) : State :=
  let same := roleOf role = s.lc.role
  let passes := identityPasses s.lc.identity siteId peer
  let stopping := s.lc.stop.isSome
  match s.lc.link with
  | .off => s
  | .join => if stopping then unexpected s else s
  | .search =>
    if same then if stopping then unexpected s else roleClash siteId s
    else
      match s.lc.role with
      | .hub => if stopping then unexpected s else s
      | .site =>
        if ¬ passes then countLink .identityMismatches s
        else if s.sf.locked ∧ s.sf.lockedBefore ∧ ¬ stopping then acceptHello siteId s
        else s
  | _ =>
    if stopping then unexpected s
    else if same then countLink .roleClashes s
    else if passes then partnerRestart s
    else countLink .identityMismatches s

/-- HELLO (R65, R66, R69). -/
def execHello (role : Byte) (siteId peer : SiteId) (s : State) : Result :=
  .next (dispatchMessage (.hello role siteId peer) (takeHello role siteId peer) s)

/-! ### JOIN and JOIN_ACK -/

/-- The conditions under which a HUB in SEARCH accepts a JOIN (R67). -/
def joinAcceptable (siteId : SiteId) (effective : FrameNo) (counts : PerTenant Nat) (s : State) : Bool :=
  peerAdmits s.lc.identity siteId && s.sf.locked && leadHolds effective s.mp.frame && countsWellFormed counts &&
    s.lc.stop.isNone

/-- A JOIN in SEARCH at HUB (R67). One that the Plan Store refuses is abandoned and counted as refused (log 18). -/
def takeJoinInSearch (siteId : SiteId) (effective : FrameNo) (counts : PerTenant Nat) (s : State) : State :=
  if joinAcceptable siteId effective counts s then
    match offerPlan (firstPlan effective counts) s with
    | (s', none) =>
      send .linkController (.joinAck (ownSiteId s') effective)
        (clearRepeat (s'.modLC fun lc => { lc with partner := some siteId }))
    | (_, some _) => countLink .joinRefusals s
  else countLink .joinRefusals s

/-- Take a JOIN (R67, R69). DESIGN CHOICE (log 23): in UP, SHIFT or LOST, a JOIN from a site id that is not the partner id
counts as unexpected. -/
def takeJoin (siteId : SiteId) (effective : FrameNo) (counts : PerTenant Nat) (s : State) : State :=
  match s.lc.role with
  | .site => unexpected s
  | .hub =>
    if s.lc.link = .search then takeJoinInSearch siteId effective counts s
    else if inService s.lc.link ∧ s.lc.stop = none ∧ s.lc.partner = some siteId then partnerRestart s
    else unexpected s

/-- JOIN (R67, R69). -/
def execJoin (siteId : SiteId) (effective : FrameNo) (f1 f2 f3 f4 : Byte) (s : State) : Result :=
  .next (dispatchMessage (.join siteId effective ⟨f1, f2, f3, f4⟩)
    (takeJoin siteId effective ⟨f1.toNat, f2.toNat, f3.toNat, f4.toNat⟩) s)

/-- A JOIN_ACK is in time and plan 0 is not yet pending (R68). -/
def joinAckInTime (siteId : SiteId) (effective : FrameNo) (s : State) : Bool :=
  s.lc.role == .site && s.lc.link == .join && s.lc.stop.isNone && s.ps.pending.isNone && s.lc.partner == some siteId &&
    s.lc.joinRecord.any fun j => j.effective == effective && isAhead j.effective s.mp.frame

/-- Take a JOIN_ACK (R68). -/
def takeJoinAck (siteId : SiteId) (effective : FrameNo) (s : State) : State :=
  if joinAckInTime siteId effective s then
    match s.lc.joinRecord with
    | some j => (offerPlan (firstPlan j.effective j.counts) s).1
    | none => s
  else unexpected s

/-- JOIN_ACK (R68). -/
def execJoinAck (siteId : SiteId) (effective : FrameNo) (s : State) : Result :=
  .next (dispatchMessage (.joinAck siteId effective) (takeJoinAck siteId effective) s)

/-! ### SHIFT, SHIFT_ACK, SHIFT_NAK -/

/-- The HUB's own checks of a SHIFT, in the order of R77: the first failing reason. -/
def judgeShift (p : Pending) (s : State) : Option Byte :=
  if ¬ (s.ps.active.flagged ∨ p.plan.number = s.ps.active.number + 1) then some nakPlanNumber
  else if ¬ leadHolds p.effective s.mp.frame then some nakLate
  else if ¬ (p.plan.wellFormed ∧ countsWellFormed p.carried) then some nakMalformed
  else if s.lc.hostMax < p.plan.profile then some nakProfile
  else none

/-- Answer a SHIFT with a SHIFT_NAK (R77). -/
def sendNak (number reason : Byte) (s : State) : State :=
  countLink .naksSent (send .linkController (.shiftNak number reason) s)

/-- Take a SHIFT (R77). -/
def takeShift (p : Pending) (s : State) : State :=
  if s.lc.role = .hub ∧ inPair s.lc.link ∧ s.lc.stop = none then
    match judgeShift p s with
    | some reason => sendNak p.plan.number reason s
    | none =>
      match offerPlan p s with
      | (s', some r) => sendNak p.plan.number (refusalReason r) s'
      | (s', none) =>
        let s' := countLink .acksSent (send .linkController (.shiftAck p.plan.number) s')
        if s'.lc.link = .up then reportLink .up .shiftBegin 0 (s'.modLC fun lc => { lc with link := .shift }) else s'
  else unexpected s

/-- SHIFT (R77). -/
def execShift (number profile test n1 n2 n3 n4 f1 f2 f3 f4 : Byte) (effective : FrameNo) (s : State) : Result :=
  .next (dispatchMessage (.shift number profile test ⟨n1, n2, n3, n4⟩ ⟨f1, f2, f3, f4⟩ effective)
    (takeShift
      { plan := { number := number, profile := profile.toNat, test := test.toNat,
                  counts := ⟨n1.toNat, n2.toNat, n3.toNat, n4.toNat⟩, flagged := false },
        effective := effective, carried := ⟨f1.toNat, f2.toNat, f3.toNat, f4.toNat⟩, confirmed := true,
        mark := .no }) s)

/-- A SHIFT_ACK or SHIFT_NAK at SITE in SHIFT names the proposal record's plan (R78): the record. -/
def namedProposal (number : Byte) (s : State) : Option Proposal :=
  if s.lc.role = .site ∧ s.lc.link = .shift ∧ s.lc.stop = none then s.lc.proposal.filter fun p => p.number == number
  else none

/-- An ACK is taken in a frame numbered at or before effective − 4 (R24). -/
def ackInTime (effective now : FrameNo) : Bool := isAtOrAfter (effective - 4) now

/-- Take a SHIFT_ACK (R24, R27, R78): in time it confirms the pending plan, unless the plan is marked for adoption; later
it is counted and the proposal record marked. -/
def takeShiftAck (number : Byte) (s : State) : State :=
  match namedProposal number s with
  | none => unexpected s
  | some p =>
    if ackInTime p.effective s.mp.frame then
      if s.ps.pending.any fun q => q.mark == .no then confirmPending s else s
    else countLink .lateAcks (s.modLC fun lc => { lc with proposal := some { p with lateAck := true } })

/-- SHIFT_ACK (R78). -/
def execShiftAck (number : Byte) (s : State) : Result :=
  .next (dispatchMessage (.shiftAck number) (takeShiftAck number) s)

/-- A shift fails while the link is in SHIFT (R79). -/
def resolveFailed (failure : ShiftFailure) (p : Proposal) (s : State) : State := failShift failure p (endShift false s)

/-- Take a SHIFT_NAK (R29, R78, R79). -/
def takeShiftNak (number reason : Byte) (s : State) : State :=
  match namedProposal number s with
  | none => unexpected s
  | some p => resolveFailed (.nak reason) p (discardPending s)

/-- SHIFT_NAK (R78, R79). -/
def execShiftNak (number reason : Byte) (s : State) : Result :=
  .next (dispatchMessage (.shiftNak number reason) (takeShiftNak number reason) s)

/-! ### STATUS and BYE -/

/-- Take a STATUS (R72, R108). -/
def takeStatus (fast slow : Nat) (demands : PerTenant Nat) (hold : PerTenant Bool) (s : State) : State :=
  if inPair s.lc.link ∧ s.lc.stop = none then
    countLink .statusReceived
      ((s.modLC fun lc => { lc with farFast := min fast 400, farSlow := min slow 400, farHold := hold }).modCA
        fun ca => { ca with farDemands := demands.map fun d => min d 63 })
  else unexpected s

/-- STATUS (R72). -/
def execStatus (fast slow : BitVec 16) (d1 d2 d3 d4 hold : Byte) (s : State) : Result :=
  .next (dispatchMessage (.status fast slow ⟨d1, d2, d3, d4⟩ hold)
    (takeStatus fast.toNat slow.toNat ⟨d1.toNat, d2.toNat, d3.toNat, d4.toNat⟩ (holdOf hold)) s)

/-- Take a BYE (R64). -/
def takeBye (reason : Byte) (s : State) : State :=
  if (inService s.lc.link ∨ s.lc.link = .join) ∧ s.lc.stop = none then enterSearch .partnerBye reason .dispatch s
  else unexpected s

/-- BYE (R64). -/
def execBye (reason : Byte) (s : State) : Result := .next (dispatchMessage (.bye reason) (takeBye reason) s)

/-! ### Time and test messages -/

/-- TIME_REQ (R128, R132). -/
def execTimeReq (sequence : Byte) (s : State) : Result :=
  .next (dispatchMessage (.timeReq sequence) (takeTimeRequest sequence) s)

/-- TIME_RESP (R128, R132 to R138). -/
def execTimeResp (sequence : Byte) (t2 t3 : BitVec 64) (p2 p3 traceable : Byte) (s : State) : Result :=
  .next (dispatchMessage (.timeResp sequence t2 t3 p2 p3 traceable)
    (takeTimeResponse sequence t2.toNat t3.toNat p2 p3 (traceable != 0)) s)

/-- TEST_CTL (R152). -/
def execTestCtl (action kind mode test : Byte) (s : State) : Result :=
  .next (dispatchMessage (.testCtl action kind mode test) (takeTestControl action kind mode test) s)

/-- The armed test starts (R151): it requests its positions and waits 1,024 frames for them. -/
def startTest (s : State) : State :=
  s.modST fun st =>
    { st with state := .starting, deadline := some (frameAdd s.mp.frame 1024),
              reqTest := if st.kind = some .sweep then usable 0 - 1 else st.test.getD 0,
              reqProfile := if st.kind = some .sweep then some 0 else none }

/-- Take a TEST_ACK (R151, R155). -/
def takeTestAck (action accepted : Byte) (frames bits errored : Nat) (s : State) : State :=
  if s.st.state = .arming ∧ action = actionStart then
    withTestTrigger (if accepted ≠ 0 then startTest else abortTest .abortedLink true) s
  else if s.st.awaiting ∧ action = actionStop then
    withTestTrigger (takeStopAnswer (accepted != 0) frames bits errored) s
  else countTest .unexpected s

/-- TEST_ACK (R151, R155). -/
def execTestAck (action accepted : Byte) (frames : BitVec 32) (bits : BitVec 48) (errored : BitVec 32) (s : State) :
    Result :=
  .next (dispatchMessage (.testAck action accepted frames bits errored)
    (takeTestAck action accepted frames.toNat bits.toNat errored.toNat) s)

end Sys2Proof.Machine
end

