-- ==== Sys2Proof/Machine/ExecPlan.lean ====
section
/-! DEFINITION. The meanings of the plan steps of a frame boundary (R22, R25, R27, R28, R31). -/

namespace Sys2Proof.Machine

/-- PLAN_ACTIVATION (R25). -/
def execPlanActivation (s : State) : Result := .next (atBoundary activationDue (activatePending .effective) s)

/-- ADOPTED_ACTIVATION (R27). -/
def execAdoptedActivation (s : State) : Result := .next (atBoundary adoptionDue (activatePending .adopted) s)

/-- The pending plan has not been adopted when the boundary beginning effective + 16 has taken its frame (R28). -/
def discardDue (s : State) : Bool :=
  match s.ps.pending with
  | some p =>
    s.lc.role == .site && !p.confirmed && p.mark == .no && s.mp.rxTaken && s.mp.frame == frameAdd p.effective 16
  | none => false

/-- The discard for want of adoption (R28): the shift fails with LATE_ACK or NO_ADOPTION (R79). -/
def discardUnadopted (s : State) : State :=
  let s' := discardPending s
  match s.lc.proposal with
  | some p => resolveFailed (if p.lateAck then .lateAck else .noAdoption) p s'
  | none => s'

/-- PENDING_DISCARD (R28). -/
def execPendingDiscard (s : State) : Result := .next (atBoundary discardDue discardUnadopted s)

/-- FALLBACK_ACTIVATION (R31). -/
def execFallbackActivation (s : State) : Result :=
  .next (atBoundary (fun s => s.ps.fallbackDue == .now) takeFallback s)

/-- IDLE_RETURN (R22). -/
def execIdleReturn (s : State) : Result := .next (atBoundary (fun s => s.ps.idleDue == .now) takeIdle s)

end Sys2Proof.Machine
end

