-- ==== Sys2Proof/Machine/ExecLink.lean ====
section
/-! DEFINITION. The meanings of the link and channel steps of a frame boundary (R45, R55, R63, R68, R71, R75, R79, R83,
R111). -/

namespace Sys2Proof.Machine

/-- The JOIN record's effective frame has come with no plan pending (R68). -/
def joinOver (s : State) : Bool :=
  s.lc.link == .join && s.ps.pending.isNone && s.lc.stop.isNone &&
    s.lc.joinRecord.any fun j => j.effective == s.mp.frame

/-- JOIN_TIMEOUT (R68). -/
def execJoinTimeout (s : State) : Result :=
  .next (atBoundary joinOver (enterSearch .joinTimeout 0 .boundary) s)

/-- The LOST count has reached 4,000 (R83). -/
def lostOver (s : State) : Bool :=
  s.lc.link == .lost && s.lc.stop.isNone && s.lc.lostCount.any fun n => 4000 ≤ n

/-- LOST_TIMEOUT (R83). -/
def execLostTimeout (s : State) : Result :=
  .next (atBoundary lostOver (enterSearch .lostTimeout 0 .boundary) s)

/-- The retry wait ends (R79); a waiting trigger is served (R111). -/
def endRetry (s : State) : State := serveWaiting (s.modLC fun lc => { lc with retryEnd := none })

/-- RETRY_WAIT_END (R79). -/
def execRetryWaitEnd (s : State) : Result :=
  .next (atBoundary (fun s => s.lc.retryEnd == some s.mp.frame) endRetry s)

/-- The Link Controller tells the Capacity Allocator that it is free (R76, R79, R111). -/
def noticeFree (s : State) : State := serveWaiting (s.modLC fun lc => { lc with freeNotice := .no })

/-- LC_FREE_NOTICE (R111). -/
def execLcFreeNotice (s : State) : Result := .next (atBoundary (fun s => s.lc.freeNotice == .now) noticeFree s)

/-- The fourth boundary of a stop has come (R63). -/
def stopOver (s : State) : Bool := s.lc.stop.any fun st => st.offDue

/-- The entry to OFF that ends a stop (R63). -/
def endStop (s : State) : State :=
  match s.lc.stop with
  | some st => enterOff st.reason s
  | none => s

/-- STOP_ENTRY_OFF (R63). -/
def execStopEntryOff (s : State) : Result := .next (atBoundary stopOver endStop s)

/-- CHANNEL_RESTART_FINISH (R55). -/
def execChannelRestartFinish (s : State) : Result :=
  .next (atBoundary (fun s => s.mc.restart == .now) finishRestart s)

/-- A producer may offer its kept messages at this boundary: it has not yet done so here, and the oldest was not refused
here (R45). -/
def retryOpen (p : Producer) (s : State) : Bool :=
  (match p with
   | .linkController => s.lc.retryDue
   | .selfTest => s.st.retryDue) && (keptOf p s).head?.any fun k => !k.fresh

/-- A producer offers the messages it keeps (R45). -/
def retryKept (p : Producer) (s : State) : State :=
  let s := match p with
    | .linkController => s.modLC fun lc => { lc with retryDue := false }
    | .selfTest => s.modST fun st => { st with retryDue := false }
  let (s', left) := retryMessages (keptOf p s) s
  setKept p left s'

/-- QUEUE_RETRY_OFFER (R45). -/
def execQueueRetryOffer (producer : Producer) (s : State) : Result :=
  .next (atBoundary (retryOpen producer) (retryKept producer) s)

/-- A STATUS is to be built at this boundary, after its append (R71). -/
def statusOpen (s : State) : Bool :=
  s.lc.statusDue && inPair s.lc.link && s.lc.stop.isNone && s.mp.rxTaken

/-- Build and offer a STATUS (R71). -/
def buildStatus (s : State) : State :=
  send .linkController
    (.status (BitVec.ofNat 16 (fastMinimum s.lc.history)) (BitVec.ofNat 16 (slowMean s.lc.history))
      (s.ca.demands.map (BitVec.ofNat 8)) (holdCode (s.tn.tenants.map (·.hold))))
    (s.modLC fun lc => { lc with statusDue := false })

/-- STATUS_BUILD (R71). -/
def execStatusBuild (s : State) : Result := .next (atBoundary statusOpen buildStatus s)

/-- The rise of this boundary is still to be evaluated, after its append (R75, log 16). -/
def riseOpen (s : State) : Bool := s.lc.riseDue && s.mp.rxTaken

/-- Evaluate a rise (R75). -/
def evaluateRise (s : State) : State :=
  let called := riseCalled s
  let s := s.modLC fun lc => { lc with riseDue := false }
  if called then allocate .profile (s.ps.active.profile + 1) s else s

/-- RISE_EVALUATION (R75). -/
def execRiseEvaluation (s : State) : Result := .next (atBoundary riseOpen evaluateRise s)

end Sys2Proof.Machine
end

