-- ==== Sys2Proof/Machine/ExecTenant.lean ====
section
/-! DEFINITION. The meanings of the capacity and tenant steps (R90, R95, R107, R110). -/

namespace Sys2Proof.Machine

/-- The unsent bytes of the queues before the composition of the frame that begins here (R107). -/
def windowUnsent (s : State) : PerTenant Nat :=
  if s.mp.composed then s.tn.unsent else s.tn.tenants.map unsentBytes

/-- Close the demand window, then take the PERIODIC trigger when the link is UP with no pending plan (R107, R110). -/
def closeDemandWindow (s : State) : State :=
  let s := s.modCA (closeWindow (windowUnsent s))
  if s.lc.link = .up ∧ s.ps.pending = none then trigger .periodic s else s

/-- DEMAND_WINDOW_CLOSE (R107, R110). -/
def execDemandWindowClose (s : State) : Result :=
  .next (atBoundary (fun s => s.ca.windowDue) closeDemandWindow s)

/-- A DRAINING tenant's queue is drain-flushed at this boundary (R90). -/
def drainFlushDue (tenant : Tenant) (s : State) : Bool :=
  let t := tenantRec s tenant
  t.state == .draining && t.drain.any fun d => !d.flushed && s.mp.frame == frameAdd d.start 4000

/-- Drain-flush a tenant's queue (R90), with the close condition and the drain completion that follow (R91). -/
def drainFlush (tenant : Tenant) (s : State) : State :=
  let before := tenantRec s tenant
  let s := countTimes (countTenant tenant .drainFlushes) before.queue.length (emptyQueue tenant s)
  let s := modTenant tenant (fun t => { t with drain := t.drain.map fun d => { d with flushed := true } }) s
  drainCompletion tenant before (closeEval s)

/-- DRAIN_FLUSH (R90). -/
def execDrainFlush (tenant : Tenant) (s : State) : Result :=
  .next (atBoundary (drainFlushDue tenant) (drainFlush tenant) s)

/-- PACKET_ARRIVAL (R95). -/
def execPacketArrival (tenant : Tenant) (packet : List Byte) (s : State) : Result :=
  .next (admitPacket tenant packet s)

end Sys2Proof.Machine
end

