-- ==== Sys2Proof/Machine/ExecTiming.lean ====
section
/-! DEFINITION. The meanings of the timing steps (R124, R127, R131, R132, R140, R141). -/

namespace Sys2Proof.Machine

/-- A TIME_REQ is offered at this boundary (R131). -/
def offerDue (s : State) : Bool :=
  s.lc.role == .site && inPair s.lc.link && (s.tm.firstOffer == .now || s.tm.nextOffer == some s.mp.frame)

/-- Offer a TIME_REQ (R131). -/
def offerRequest (s : State) : State :=
  let sequence := s.tm.sequence
  offerTime (.timeReq sequence)
    (s.modTM fun tm =>
      { tm with sequence := tm.sequence + 1, armed := some sequence, firstOffer := .no,
                nextOffer := some (frameAdd s.mp.frame tm.config.period) })

/-- TIME_REQ_OFFER (R131). -/
def execTimeReqOffer (s : State) : Result := .next (atBoundary offerDue offerRequest s)

/-- The outstanding exchange times out at this boundary (R132). -/
def exchangeOver (s : State) : Bool := s.tm.outstanding.any fun x => s.mp.frame == frameAdd x.frame 17

/-- EXCHANGE_LOST (R132). -/
def execExchangeLost (s : State) : Result := .next (atBoundary exchangeOver loseExchange s)

/-- HOLDOVER_EXPIRED (R140). -/
def execHoldoverExpired (s : State) : Result := .next (atBoundary (fun s => holdoverOver s.tm) expireHoldover s)

/-- REFERENCE_PULSE (R127): judged at HUB; a part in role SITE has no use for its reference input. -/
def execReferencePulse (elapsed : Nat) (record : Option (BitVec 32)) (s : State) : Result :=
  .next (if s.lc.role = .hub then judgePulse record (advanceCounter elapsed s) else s)

/-- 2,200 frames have passed since the last pulse in REFERENCE (R127). -/
def pulseOver (s : State) : Bool := s.tm.state == .reference && s.tm.pulse.any fun p => 2200 ≤ p.age

/-- The reference is lost (R127). -/
def loseReference (s : State) : State := setTiming .referenceLost .referenceInvalid (countTiming .referenceFaults s)

/-- REFERENCE_TIMEOUT (R127). -/
def execReferenceTimeout (s : State) : Result := .next (atBoundary pulseOver loseReference s)

/-- SECONDS_ROLLOVER (R124, R141): the oscillator's advance passes a rollover. -/
def execSecondsRollover (elapsed : Nat) (s : State) : Result :=
  .next (if rollsOver elapsed s.tm.time then advanceCounter elapsed s else s)

end Sys2Proof.Machine
end

