-- ==== Sys2Proof/Machine/ExecTest.lean ====
section
/-! DEFINITION. The meanings of the self-test steps of a frame boundary (R151, R155, R159) and of the capture (R177). -/

namespace Sys2Proof.Machine

/-- The deadline frame begins at this boundary. -/
def atDeadline (s : State) : Bool := s.st.deadline == some s.mp.frame

/-- The arming deadline passes (R151). -/
def armingOver (s : State) : Bool := s.st.state == .arming && atDeadline s

/-- TEST_ARMING_DEADLINE (R151, R158). -/
def execTestArmingDeadline (s : State) : Result :=
  .next (atBoundary armingOver (withTestTrigger (abortTest .abortedLink true)) s)

/-- A start deadline passes: in STARTING, or between the stages of a sweep (R151, R159). -/
def startOver (s : State) : Bool :=
  (s.st.state == .starting || (s.st.state == .running && s.st.kind == some .sweep)) && atDeadline s

/-- TEST_START_DEADLINE (R151, R158, R159). -/
def execTestStartDeadline (s : State) : Result :=
  .next (atBoundary startOver
    (fun s => withTestTrigger (abortTest .abortedLink true) (countTest .startExpiries s)) s)

/-- The active stage is complete at this boundary (R159). -/
def stageOver (s : State) : Bool :=
  s.st.kind == some .sweep && s.st.state == .running &&
    s.st.stageActive.any fun x => x.1 == s.st.stagesComplete && s.mp.frame == frameAdd x.2 2051

/-- Request the next stage of a sweep (R151, R159). -/
def requestStage (p : Nat) (s : State) : State :=
  s.modST fun st =>
    { st with stageWanted := p, deadline := some (frameAdd s.mp.frame 1024), reqTest := usable p - 1,
              reqProfile := some p }

/-- A stage is complete (R159): the next is requested, or the sweep ends. -/
def completeStage (s : State) : State :=
  let p := s.st.stagesComplete
  let s := s.modST fun st => { st with stagesComplete := p + 1 }
  if p < 5 ∧ p + 1 ≤ ceiling s then requestStage (p + 1) s else finishTest s

/-- STAGE_COMPLETE (R159). -/
def execStageComplete (s : State) : Result := .next (atBoundary stageOver (withTestTrigger completeStage) s)

/-- The stop answer's deadline passes (R155). -/
def answerOver (s : State) : Bool := s.st.awaiting && atDeadline s

/-- STOP_ANSWER_DEADLINE (R155). -/
def execStopAnswerDeadline (s : State) : Result :=
  .next (atBoundary answerOver (withTestTrigger (takeStopAnswer false 0 0 0)) s)

/-- The capture boundary has come (R177). -/
def captureOpen (s : State) : Bool := s.cb.captureDue == .now && s.cb.pending.isSome

/-- The capture (R177): copy, mark, and clear when asked; the Control Port sends the reply (R168, R176). What it has copied
is no longer taken back (R178, log 26). -/
def capture (s : State) : State :=
  let cleared := s.cb.pending.getD false
  let f := s.mp.frame
  let s := s.modCB fun cb =>
    { cb with snapshot := cb.live, valid := true, capture := some (f, cleared), pending := none, captureDue := .no,
              live := if cleared then Bank.zero else cb.live, beforeArea := none }
  match s.cp.service, s.cp.buffer with
  | .capturing, r :: _ => setService (.replying (replyFrame r .ok (encFrame f ++ encFlag cleared))) s
  | _, _ => s

/-- SNAPSHOT_CAPTURE (R177). -/
def execSnapshotCapture (s : State) : Result := .next (atBoundary captureOpen capture s)

end Sys2Proof.Machine
end

