-- ==== Sys2Proof/Machine/ExecLine.lean ====
section
/-! DEFINITION. The meanings of the control-line events (R163 to R166). -/

namespace Sys2Proof.Machine

/-- CONTROL_FRAME_RECEIVED (R164): characters with good stop bits. -/
def execControlFrameReceived (chars : List Byte) (s : State) : Result := .next (takeChars chars s)

/-- CONTROL_LINE_ERROR (R163, R165): characters with good stop bits, then one with a bad stop bit. -/
def execControlLineError (chars : List Byte) (s : State) : Result :=
  .next (discardFrame .lineErrors (takeChars chars s))

/-- CONTROL_GAP_TIMEOUT (R165): characters with good stop bits, then a gap. -/
def execControlGapTimeout (chars : List Byte) (s : State) : Result :=
  .next (discardFrame .gapDiscards (takeChars chars s))

/-- REPLY_SENT (R166, R167, R174). -/
def execReplySent (s : State) : Result := .next (endReply s)

end Sys2Proof.Machine
end

