-- ==== Sys2Proof/Machine/ExecRequest.lean ====
section
/-! DEFINITION. The meanings of the requests that their owners take (R167 and the rule of each request). -/

namespace Sys2Proof.Machine

/-! ### Part -/

/-- PART_INFO (R173). -/
def execPartInfo (s : State) : Result :=
  .next (takeRequest 0x01 [] (fun s => ⟨s, .ok, partInfoContent s⟩) s)

/-- PART_RESET (R174): answered OK; the reset follows the reply. -/
def execPartReset (s : State) : Result := .next (takeRequest partResetKind [] (Answer.plain .ok) s)

/-- Remove the reports fetched and clear the lost flag (R171). -/
def fetchReports (s : State) : Answer :=
  let k := min 8 s.cp.reports.length
  ⟨countTimes (countControl .reportsFetched) k
      (s.modCP fun cp => { cp with reports := cp.reports.drop k, lost := false }), .ok, fetchContent s.cp⟩

/-- REPORTS_FETCH (R171). -/
def execReportsFetch (s : State) : Result := .next (takeRequest 0x03 [] fetchReports s)

/-- Store the attention enable (R172). -/
def enableAttention (enable : Byte) (s : State) : Answer :=
  ⟨s.modCP fun cp => { cp with attention := enable != 0 }, .ok, encFlag (enable != 0)⟩

/-- ATTN_ENABLE (R172). -/
def execAttnEnable (enable : Byte) (s : State) : Result :=
  .next (takeRequest 0x04 [enable] (enableAttention enable) s)

/-! ### Link -/

/-- Store the identity, once (R59). -/
def storeIdentity (siteId peer : SiteId) (s : State) : Answer :=
  if s.lc.identity.isSome then .plain .locked s
  else .plain .ok (s.modLC fun lc => { lc with identity := some ⟨siteId, peer⟩ })

/-- SET_SITE_ID (R59). -/
def execSetSiteId (siteId peer : SiteId) (s : State) : Result :=
  .next (takeRequest 0x10 (enc32 siteId.toNat ++ enc32 peer.toNat) (storeIdentity siteId peer) s)

/-- Store the link configuration (R42, R60). -/
def configureLink (hostMax hysteresis lead flags : Byte) (s : State) : Answer :=
  let s := (s.modLC fun lc =>
    { lc with hostMax := min hostMax.toNat 5, hysteresis := min hysteresis.toNat 50,
              lead := clamp 8 255 lead.toNat }).modMC fun mc => { mc with flagCount := clamp 1 2 flags.toNat }
  ⟨s, .ok, linkConfigContent s⟩

/-- LINK_CONFIG (R42, R60). -/
def execLinkConfig (hostMax hysteresis lead flags : Byte) (s : State) : Result :=
  .next (takeRequest 0x11 [hostMax, hysteresis, lead, flags] (configureLink hostMax hysteresis lead flags) s)

/-- Start the link (R62). -/
def startLink (s : State) : Answer :=
  if s.lc.link ≠ .off ∨ s.lc.identity = none ∨
      (s.st.kind = some .loop ∧ (s.st.state = .running ∨ s.st.state = .stopping)) then .plain .state s
  else .plain .ok (enterSearch .start 0 .request s)

/-- LINK_START (R62). -/
def execLinkStart (s : State) : Result := .next (takeRequest 0x12 [] startLink s)

/-- Begin a stop (R63). -/
def beginStop (reason : Byte) (s : State) : Answer :=
  if s.lc.link = .off then .plain .state s
  else if s.lc.stop.isSome then .plain .busy s
  else
    .plain .accepted
      (placeRepeat (.bye (stopReasonOf reason))
        (s.modLC fun lc => { lc with stop := some ⟨3, stopReasonOf reason, false⟩ }))

/-- LINK_STOP (R63). -/
def execLinkStop (reason : Byte) (s : State) : Result := .next (takeRequest 0x13 [reason] (beginStop reason) s)

/-- LINK_STATUS (R84). -/
def execLinkStatus (s : State) : Result :=
  .next (takeRequest 0x14 [] (fun s => ⟨s, .ok, linkStatusContent s⟩) s)

/-- PLAN_READ (R37). -/
def execPlanRead (s : State) : Result := .next (takeRequest 0x15 [] (fun s => ⟨s, .ok, planReadContent s⟩) s)

/-! ### Tenants and capacity -/

/-- The owner's event for a request that names a tenant: BAD_ARG for a number outside 1..4. -/
def forTenant (number : Byte) (act : Tenant → State → Answer) (s : State) : Answer :=
  match Tenant.ofNumber number.toNat with
  | none => .plain .badArg s
  | some t => act t s

/-- The seven values brought into range (R86). -/
def tenantInRange (committed weight ceiling : Byte) (queueLimit : BitVec 16) (burst fill sync : Byte) : TenantConfig :=
  { committed := min committed.toNat 11, weight := clamp 1 15 weight.toNat, ceiling := min ceiling.toNat 63,
    queueLimit := clamp 8 512 queueLimit.toNat, burst := clamp 1 8 burst.toNat, fill := fill,
    syncDependent := sync != 0 }

/-- The first refusal of R86's checks. -/
def configRefusal (tenant : Tenant) (c : TenantConfig) (s : State) : Option ResultCode :=
  if c.ceiling < c.committed then some .badArg
  else if c.fill.toNat < 0x10 then some .badArg
  else if (tenantRec s tenant).state ≠ .closed ∧ 11 < committedOthers s.tn tenant + c.committed then some .noRoom
  else none

/-- A change that triggers an allocation (R86, R110). -/
def configTriggers (old new : TenantConfig) (state : TenantState) : Bool :=
  state != .closed &&
    (old.committed != new.committed || old.ceiling != new.ceiling || old.weight != new.weight)

/-- Configure a tenant (R86, R96, R103). -/
def configureTenant (c : TenantConfig) (tenant : Tenant) (s : State) : Answer :=
  match configRefusal tenant c s with
  | some code => .plain code s
  | none =>
    let old := tenantRec s tenant
    let s := refreshTenants (modTenant tenant (fun t => { t with config := c, ready := none }) s)
    let (s, changed) := evalSync tenant s
    let s := triggerIf .tenant (configTriggers old.config c old.state) (triggerIf .tenant changed s)
    ⟨s, .ok, configFields c⟩

/-- TENANT_CONFIG (R86). -/
def execTenantConfig (tenant committed weight ceiling : Byte) (queueLimit : BitVec 16) (burst fill sync : Byte)
    (s : State) : Result :=
  .next (takeRequest 0x20 ([tenant, committed, weight, ceiling] ++ enc16 queueLimit.toNat ++ [burst, fill, sync])
    (forTenant tenant (configureTenant (tenantInRange committed weight ceiling queueLimit burst fill sync))) s)

/-- Open a tenant (R87). -/
def openTenant (tenant : Tenant) (s : State) : Answer :=
  let t := tenantRec s tenant
  if t.state ≠ .closed then .plain .state s
  else if 11 < committedOthers s.tn tenant + t.config.committed then .plain .noRoom s
  else
    let s := reportTenant tenant .closed .opened false (modTenant tenant (fun t => { t with state := .active }) s)
    .plain .ok (trigger .tenant (refreshTenants s))

/-- TENANT_OPEN (R87). -/
def execTenantOpen (tenant : Byte) (s : State) : Result :=
  .next (takeRequest 0x21 [tenant] (forTenant tenant openTenant) s)

/-- Begin a tenant's drain (R89); it closes in the same event when R91's condition already holds. -/
def drainTenant (tenant : Tenant) (s : State) : Answer :=
  if (tenantRec s tenant).state ≠ .active then .plain .state s
  else
    let s := reportTenant tenant .active .close false
      (modTenant tenant (fun t => { t with state := .draining, drain := some ⟨s.mp.frame, false⟩ }) s)
    .plain .ok (trigger .tenant (closeEval s))

/-- TENANT_CLOSE (R89). -/
def execTenantClose (tenant : Byte) (s : State) : Result :=
  .next (takeRequest 0x22 [tenant] (forTenant tenant drainTenant) s)

/-- Zero a tenant's counters (R99, R175). -/
def zeroTenantCounters (tenant : Tenant) (s : State) : State :=
  s.modCB fun cb => { cb with live := { cb.live with tenants := cb.live.tenants.set tenant (List.replicate 9 0) } }

/-- Flush a tenant's queue (R99), with the close condition and the drain completion that follow (R91). -/
def flushTenant (tenant : Tenant) (s : State) : Answer :=
  let before := tenantRec s tenant
  .plain .ok (drainCompletion tenant before (closeEval (zeroTenantCounters tenant (emptyQueue tenant s))))

/-- TENANT_FLUSH (R99). -/
def execTenantFlush (tenant : Byte) (s : State) : Result :=
  .next (takeRequest 0x23 [tenant] (forTenant tenant flushTenant) s)

/-- TENANT_STATUS (R105). -/
def execTenantStatus (tenant : Byte) (s : State) : Result :=
  .next (takeRequest 0x24 [tenant] (forTenant tenant fun t s => ⟨s, .ok, tenantStatusContent t s⟩) s)

/-- Store the allocation mode (R118). -/
def storeMode (mode : Byte) (counts : PerTenant Nat) (s : State) : Answer :=
  let s := s.modCA fun ca => { ca with fixed := mode == 1, fixedCounts := counts.map fun f => min f 63 }
  ⟨trigger .mode s, .ok, allocModeContent s.ca⟩

/-- ALLOC_MODE (R118). -/
def execAllocMode (mode f1 f2 f3 f4 : Byte) (s : State) : Result :=
  .next (takeRequest 0x28 [mode, f1, f2, f3, f4] (storeMode mode ⟨f1.toNat, f2.toNat, f3.toNat, f4.toNat⟩) s)

/-- ALLOC_STATUS (R122). -/
def execAllocStatus (s : State) : Result :=
  .next (takeRequest 0x29 [] (fun s => ⟨s, .ok, allocStatusContent s⟩) s)

/-! ### Timing -/

/-- The Timing Unit under new values (R125, R139, R142): the codes are saturated into the new range; at HUB the code is
the centre value. -/
def withConfig (role : Role) (c : TimingConfig) (tm : TM) : TM :=
  { tm with config := c, steer := if role = .hub then c.centre else steerClamp c tm.steer,
            holdoverCode := tm.holdoverCode.map fun (code : Nat) => steerClamp c code }

/-- Store the nine values (R142); a limit already reached sets the expired flag at once (R140). -/
def configureTiming (c : TimingConfig) (s : State) : Answer :=
  if c.steerMax < c.steerMin ∨ c.centre < c.steerMin ∨ c.steerMax < c.centre then .plain .badArg s
  else
    let s := s.modTM (withConfig s.lc.role c)
    ⟨if holdoverOver s.tm then expireHoldover s else s, .ok, timingConfigContent c⟩

/-- TIMING_CONFIG (R142). -/
def execTimingConfig (kp ki : Byte) (steerMin steerMax centre lockWindow : BitVec 16) (holdoverLimit : Byte)
    (period : BitVec 16) (delayMax : BitVec 32) (s : State) : Result :=
  .next (takeRequest 0x30
    ([kp, ki] ++ enc16 steerMin.toNat ++ enc16 steerMax.toNat ++ enc16 centre.toNat ++ enc16 lockWindow.toNat ++
      [holdoverLimit] ++ enc16 period.toNat ++ enc32 delayMax.toNat)
    (configureTiming (timingInRange kp ki steerMin steerMax centre lockWindow holdoverLimit period delayMax)) s)

/-- The Timing Unit after TIMING_RESTART at SITE (R143), its state apart. -/
def restartedTiming (tm : TM) : TM :=
  { tm with integrator := 0, history := [], window := [], holdoverTimer := none, holdoverCode := none, expired := false,
            outstanding := none, armed := none, steer := tm.config.centre, goodRun := 0, largeRun := 0, lostRun := 0 }

/-- Restart the timing (R143). -/
def restartTiming (s : State) : Answer :=
  match s.lc.role with
  | .hub => .plain .ok (s.modTM fun tm => { tm with steer := tm.config.centre })
  | .site =>
    if 3 < s.ps.active.profile ∨ (s.ps.pending.any fun p => 3 < p.plan.profile) then .plain .state s
    else
      .plain .ok (setTiming (if inPair s.lc.link then .acquire else .freeRun) .restart (s.modTM restartedTiming))

/-- TIMING_RESTART (R143). -/
def execTimingRestart (s : State) : Result := .next (takeRequest 0x31 [] restartTiming s)

/-- TIMING_STATUS (R144). -/
def execTimingStatus (s : State) : Result :=
  .next (takeRequest 0x32 [] (fun s => ⟨s, .ok, timingStatusContent s⟩) s)

/-- TIME_READ (R145). -/
def execTimeRead (s : State) : Result := .next (takeRequest 0x33 [] (fun s => ⟨s, .ok, timeReadContent s⟩) s)

/-! ### Test -/

/-- A fresh test record (R146, R149); the commissioned ceiling, the responder and what is kept stand. -/
def freshTest (kind : TestKind) (mode : Option TestMode) (test : Option Nat) (run : Option TestRun) (allowed : Nat)
    (st : ST) : ST :=
  { st with kind := some kind, mode := mode, test := test, run := run, allowed := some allowed, outcome := none,
            verdict := none, frames := 0, wrapped := false, bits := 0, errored := 0,
            erroredFrames := if kind = .far ∧ mode = some .check then none else some 0, farFrames := none,
            stages := List.replicate 6 none, activation := none, reqTest := 0, reqProfile := none, deadline := none,
            awaiting := false, stageWanted := 0, stageActive := none, stagesComplete := 0 }

/-- The room for a FAR test (R149): U less 1 less the committed slots of the eligible and draining-held tenants. -/
def farRoom (s : State) : Nat := usable s.ps.active.profile - 1 - guaranteeSum (allocInput s)

/-- A LOOP test starts (R150). -/
def startLoop (test : Nat) (run : TestRun) (allowed : Nat) (s : State) : State :=
  setLoopSwitch true
    (s.modST fun st => { freshTest .loop none (some test) (some run) allowed st with state := .running })

/-- A FAR test or a sweep arms (R151). -/
def armTest (fresh : ST → ST) (s : State) : State :=
  let s := s.modST fun st => { fresh st with state := .arming, deadline := some (frameAdd s.mp.frame 64) }
  send .selfTest (testControl actionStart s.st) s

/-- A sweep's record: the commissioned ceiling found is saved, and stands at 5 while the sweep runs (R159). -/
def freshSweep (allowed : Nat) (st : ST) : ST :=
  { freshTest .sweep (some .echo) none none allowed st with saved := some st.commissioned, commissioned := 5 }

/-- TEST_START's event (R149). -/
def beginTest (kind mode test : Byte) (run : TestRun) (allowed : Nat) (s : State) : Answer :=
  if testBusy s.st then .plain .busy s
  else
    match testKindOf kind with
    | none => .plain .state s
    | some .loop =>
      if s.lc.link = .off ∧ 1 ≤ test.toNat ∧ test.toNat ≤ 11 then
        .plain .accepted (startLoop test.toNat run allowed s)
      else .plain .state s
    | some .far =>
      if s.lc.role = .site ∧ s.lc.link = .up ∧ 1 ≤ test.toNat then
        if farRoom s < test.toNat then .plain .noRoom s
        else
          .plain .accepted
            (armTest (freshTest .far (some (testModeOf mode)) (some test.toNat) (some run) allowed) s)
      else .plain .state s
    | some .sweep =>
      if s.lc.role = .site ∧ s.lc.link = .up ∧ s.tn.tenants.toList.all (fun t => t.state == .closed) then
        .plain .accepted (armTest (freshSweep allowed) s)
      else .plain .state s

/-- The run of a TEST_START (R149): FREE, or COUNT with an N of at least 1. -/
def runOf (run : Byte) (frames : Nat) : TestRun := if run == 1 then .free else .count (max 1 frames)

/-- TEST_START (R149). -/
def execTestStart (kind mode test run : Byte) (frames allowed : BitVec 32) (s : State) : Result :=
  .next (takeRequest 0x40 ([kind, mode, test, run] ++ enc32 frames.toNat ++ enc32 allowed.toNat)
    (beginTest kind mode test (runOf run frames.toNat) allowed.toNat) s)

/-- The end that TEST_STOP brings (R156, R161): a FREE run is judged, any other is STOPPED; a FAR test in CHECK mode that
is RUNNING awaits the stop answer. -/
def stopByRequest (s : State) : State :=
  if s.st.run = some .free then finishTest s
  else stopTest (some .stopped) true (farCheck s.st && s.st.state == .running) s

/-- TEST_STOP's event (R161). A loopback switch due at the boundary under way takes effect first (R18). -/
def endTest (s : State) : Answer :=
  if s.st.state = .stopping then .plain .busy s
  else if testLive s.st then
    let s := if s.mp.loopDue = .now then takeLoopSwitch s else s
    .plain .accepted (withTestTrigger stopByRequest s)
  else .plain .state s

/-- TEST_STOP (R161). -/
def execTestStop (s : State) : Result := .next (takeRequest 0x41 [] endTest s)

/-- TEST_RESULT (R162). -/
def execTestResult (s : State) : Result :=
  .next (takeRequest 0x42 [] (fun s => ⟨s, .ok, testResultContent s.st⟩) s)

/-! ### Counters -/

/-- Record a pending capture (R176): the reply waits for the capture (R168). -/
def requestCapture (clear : Byte) (s : State) : State :=
  match handedRequest 0x50 [clear] s with
  | none => s
  | some (_, s) =>
    setService .capturing
      ((countControl .requestsServed s).modCB fun cb =>
        { cb with pending := some (clear != 0), captureDue := .next })

/-- COUNTERS_SNAPSHOT (R176). -/
def execCountersSnapshot (clear : Byte) (s : State) : Result := .next (requestCapture clear s)

/-- Read one group of the snapshot (R179). -/
def readGroup (selector : Byte) (s : State) : Answer :=
  match groupOf selector.toNat s.cb.snapshot with
  | none => .plain .badArg s
  | some counters =>
    match s.cb.valid, s.cb.capture with
    | true, some c => ⟨s, .ok, countersReadContent selector counters c s.mp.frame⟩
    | _, _ => .plain .state s

/-- COUNTERS_READ (R179). -/
def execCountersRead (selector : Byte) (s : State) : Result :=
  .next (takeRequest 0x51 [selector] (readGroup selector) s)

end Sys2Proof.Machine
end

