-- ==== Sys2Proof/Machine/Dispatch.lean ====
section
/-! DEFINITION. The dispatch of commands to their meanings: one arm for each row of spec/opcode_table.json. -/

namespace Sys2Proof.Machine

def exec (i : Instr) (s : State) : Host.Outcome State Fault Refusal :=
  match i with
  | .powerOnReset role rate => Sys2Proof.Machine.execPowerOnReset role rate s
  | .enterReset role rate => Sys2Proof.Machine.execEnterReset role rate s
  | .frameBoundary elapsed => Sys2Proof.Machine.execFrameBoundary elapsed s
  | .receivedFrame frame => Sys2Proof.Machine.execReceivedFrame frame s
  | .hello role siteId peer => Sys2Proof.Machine.execHello role siteId peer s
  | .join siteId effective f1 f2 f3 f4 => Sys2Proof.Machine.execJoin siteId effective f1 f2 f3 f4 s
  | .joinAck siteId effective => Sys2Proof.Machine.execJoinAck siteId effective s
  | .shift number profile test n1 n2 n3 n4 f1 f2 f3 f4 effective => Sys2Proof.Machine.execShift number profile test n1 n2 n3 n4 f1 f2 f3 f4 effective s
  | .shiftAck number => Sys2Proof.Machine.execShiftAck number s
  | .shiftNak number reason => Sys2Proof.Machine.execShiftNak number reason s
  | .status fast slow d1 d2 d3 d4 hold => Sys2Proof.Machine.execStatus fast slow d1 d2 d3 d4 hold s
  | .bye reason => Sys2Proof.Machine.execBye reason s
  | .timeReq sequence => Sys2Proof.Machine.execTimeReq sequence s
  | .timeResp sequence t2 t3 p2 p3 traceable => Sys2Proof.Machine.execTimeResp sequence t2 t3 p2 p3 traceable s
  | .testCtl action kind mode test => Sys2Proof.Machine.execTestCtl action kind mode test s
  | .testAck action accepted frames bits errored => Sys2Proof.Machine.execTestAck action accepted frames bits errored s
  | .planActivation => Sys2Proof.Machine.execPlanActivation s
  | .adoptedActivation => Sys2Proof.Machine.execAdoptedActivation s
  | .pendingDiscard => Sys2Proof.Machine.execPendingDiscard s
  | .fallbackActivation => Sys2Proof.Machine.execFallbackActivation s
  | .idleReturn => Sys2Proof.Machine.execIdleReturn s
  | .loopbackSwitchEffect => Sys2Proof.Machine.execLoopbackSwitchEffect s
  | .joinTimeout => Sys2Proof.Machine.execJoinTimeout s
  | .lostTimeout => Sys2Proof.Machine.execLostTimeout s
  | .retryWaitEnd => Sys2Proof.Machine.execRetryWaitEnd s
  | .lcFreeNotice => Sys2Proof.Machine.execLcFreeNotice s
  | .stopEntryOff => Sys2Proof.Machine.execStopEntryOff s
  | .channelRestartFinish => Sys2Proof.Machine.execChannelRestartFinish s
  | .queueRetryOffer producer => Sys2Proof.Machine.execQueueRetryOffer producer s
  | .statusBuild => Sys2Proof.Machine.execStatusBuild s
  | .riseEvaluation => Sys2Proof.Machine.execRiseEvaluation s
  | .demandWindowClose => Sys2Proof.Machine.execDemandWindowClose s
  | .drainFlush tenant => Sys2Proof.Machine.execDrainFlush tenant s
  | .timeReqOffer => Sys2Proof.Machine.execTimeReqOffer s
  | .exchangeLost => Sys2Proof.Machine.execExchangeLost s
  | .holdoverExpired => Sys2Proof.Machine.execHoldoverExpired s
  | .referencePulse elapsed record => Sys2Proof.Machine.execReferencePulse elapsed record s
  | .referenceTimeout => Sys2Proof.Machine.execReferenceTimeout s
  | .secondsRollover elapsed => Sys2Proof.Machine.execSecondsRollover elapsed s
  | .testArmingDeadline => Sys2Proof.Machine.execTestArmingDeadline s
  | .testStartDeadline => Sys2Proof.Machine.execTestStartDeadline s
  | .stageComplete => Sys2Proof.Machine.execStageComplete s
  | .stopAnswerDeadline => Sys2Proof.Machine.execStopAnswerDeadline s
  | .snapshotCapture => Sys2Proof.Machine.execSnapshotCapture s
  | .packetArrival tenant packet => Sys2Proof.Machine.execPacketArrival tenant packet s
  | .controlFrameReceived chars => Sys2Proof.Machine.execControlFrameReceived chars s
  | .controlLineError chars => Sys2Proof.Machine.execControlLineError chars s
  | .controlGapTimeout chars => Sys2Proof.Machine.execControlGapTimeout chars s
  | .replySent => Sys2Proof.Machine.execReplySent s
  | .partInfo => Sys2Proof.Machine.execPartInfo s
  | .partReset => Sys2Proof.Machine.execPartReset s
  | .reportsFetch => Sys2Proof.Machine.execReportsFetch s
  | .attnEnable enable => Sys2Proof.Machine.execAttnEnable enable s
  | .setSiteId siteId peer => Sys2Proof.Machine.execSetSiteId siteId peer s
  | .linkConfig hostMax hysteresis lead flags => Sys2Proof.Machine.execLinkConfig hostMax hysteresis lead flags s
  | .linkStart => Sys2Proof.Machine.execLinkStart s
  | .linkStop reason => Sys2Proof.Machine.execLinkStop reason s
  | .linkStatus => Sys2Proof.Machine.execLinkStatus s
  | .planRead => Sys2Proof.Machine.execPlanRead s
  | .tenantConfig tenant committed weight ceiling queueLimit burst fill sync => Sys2Proof.Machine.execTenantConfig tenant committed weight ceiling queueLimit burst fill sync s
  | .tenantOpen tenant => Sys2Proof.Machine.execTenantOpen tenant s
  | .tenantClose tenant => Sys2Proof.Machine.execTenantClose tenant s
  | .tenantFlush tenant => Sys2Proof.Machine.execTenantFlush tenant s
  | .tenantStatus tenant => Sys2Proof.Machine.execTenantStatus tenant s
  | .allocMode mode f1 f2 f3 f4 => Sys2Proof.Machine.execAllocMode mode f1 f2 f3 f4 s
  | .allocStatus => Sys2Proof.Machine.execAllocStatus s
  | .timingConfig kp ki steerMin steerMax centre lockWindow holdoverLimit period delayMax => Sys2Proof.Machine.execTimingConfig kp ki steerMin steerMax centre lockWindow holdoverLimit period delayMax s
  | .timingRestart => Sys2Proof.Machine.execTimingRestart s
  | .timingStatus => Sys2Proof.Machine.execTimingStatus s
  | .timeRead => Sys2Proof.Machine.execTimeRead s
  | .testStart kind mode test run frames allowed => Sys2Proof.Machine.execTestStart kind mode test run frames allowed s
  | .testStop => Sys2Proof.Machine.execTestStop s
  | .testResult => Sys2Proof.Machine.execTestResult s
  | .countersSnapshot clear => Sys2Proof.Machine.execCountersSnapshot clear s
  | .countersRead selector => Sys2Proof.Machine.execCountersRead selector s

end Sys2Proof.Machine
end

