-- ==== Sys2Proof/Safety.lean ====
section
/-! DEFINITION. The laws of the device that the spec's rules name, as checks on a state, and the vocabulary in which the
statements say what a command leaves alone. -/

namespace Sys2Proof.Machine

/-! ### The laws of the device -/

/-- First law (R21): the active, pending and fallback plans are well-formed. -/
def lawPlans (s : State) : Bool :=
  s.ps.active.wellFormed && s.ps.fallback.wellFormed &&
    s.ps.pending.all fun p => p.plan.wellFormed && countsWellFormed p.carried

/-- Second law (R87): the committed slots of the tenants that are not CLOSED sum to 11 or less. -/
def lawCommitted (s : State) : Bool := committedSum s.tn ≤ 11

/-- Third law (R91): a CLOSED tenant holds no position in the active, pending or fallback plan. -/
def lawClosed (s : State) : Bool :=
  Tenant.all.all fun t =>
    (s.tn.tenants.get t).state != .closed ||
      (s.ps.active.counts.get t == 0 && s.ps.fallback.counts.get t == 0 &&
        s.ps.pending.all fun p => p.plan.counts.get t == 0)

/-- Fourth law (R93): free blocks and the blocks held by the four queues make 512. -/
def lawBuffer (s : State) : Bool := s.tn.free + (s.tn.tenants.map occupancy).sum == 512

/-- Fifth law (R143): at SITE the active profile is above 3 only in LOCKED or HOLDOVER. -/
def lawProfile (s : State) : Bool :=
  s.lc.role != .site || s.ps.active.profile ≤ 3 || s.tm.state == .locked || s.tm.state == .holdover

/-- Sixth law (R125): the steering code lies within the configured range, which lies within 0..4,095. -/
def lawSteer (s : State) : Bool :=
  s.tm.config.steerMin ≤ s.tm.steer && s.tm.steer ≤ s.tm.config.steerMax && s.tm.config.steerMax ≤ 4095

/-- Seventh law (R157): at SITE the active plan has TEST positions only in RUNNING or STOPPING. -/
def lawTest (s : State) : Bool :=
  s.lc.role != .site || s.ps.active.test == 0 || s.st.state == .running || s.st.state == .stopping

/-- Eighth law (R23): the pending plan's number is one more than a regular active plan's. -/
def lawNumber (s : State) : Bool :=
  s.ps.active.flagged || s.ps.pending.all fun p => p.plan.number == s.ps.active.number + 1

/-- Ninth law, first half (R170): the report queue holds at most 32 reports. -/
def lawReports (s : State) : Bool := s.cp.reports.length ≤ 32

/-- Tenth law (R141): the pulse output is high only at SITE in LOCKED, or HOLDOVER not expired. -/
def lawPulse (s : State) : Bool := !s.tm.pps || (s.lc.role == .site && pulsing s.tm)

/-- Eleventh law (R148): the errored bits of the test record do not exceed its bits compared. -/
def lawErrors (s : State) : Bool := s.st.errored ≤ s.st.bits

/-- Twelfth law (R97): a tenant whose occupancy is at least its allowance has its hold flag set. -/
def lawHold (s : State) : Bool :=
  Tenant.all.all fun t =>
    let r := s.tn.tenants.get t
    r.hold || occupancy r < allowance s.ps.active t r

/-- What the third law needs of the counts that come into a plan later: a CLOSED tenant has no carried fallback count in
the pending plan, nor, at SITE in JOIN, a count in the JOIN record (R91). -/
def closedKeptOut (s : State) : Bool :=
  Tenant.all.all fun t =>
    (s.tn.tenants.get t).state != .closed ||
      ((s.ps.pending.all fun p => p.carried.get t == 0) &&
        (s.lc.role != .site || s.lc.link != .join || s.lc.joinRecord.all fun j => j.counts.get t == 0))

/-- What the fifth law needs of the plans that can become active: the fallback profile is at most 3, and at SITE the
pending plan's is above 3 only in LOCKED or HOLDOVER (R30, R73, R143). -/
def profileReady (s : State) : Bool :=
  s.ps.fallback.profile ≤ 3 &&
    (s.lc.role != .site || s.tm.state == .locked || s.tm.state == .holdover ||
      s.ps.pending.all fun p => p.plan.profile ≤ 3)

/-- What the seventh law needs of the test record: no request and no TEST positions pending before STARTING, and in
STARTING only those that the test waits for (R151, R157); the fallback plan has none (R30). -/
def testInStep (s : State) : Bool :=
  let st := s.st
  let none := s.ps.active.test == 0 && (s.ps.pending.all fun p => p.plan.test == 0) && st.reqTest == 0
  let firstStage := st.kind == some .sweep && st.stageWanted == 0 && st.stageActive == Option.none
  s.ps.fallback.test == 0 &&
    (s.lc.role != .site ||
      match st.state with
      | .idle => none
      | .done => none
      | .arming => none && (st.kind == some .far || firstStage)
      | .starting =>
        s.ps.active.test == 0 &&
          ((st.kind == some .far && st.reqTest == st.test.getD 0 &&
              s.ps.pending.all fun p => p.plan.test == 0 || st.test == some p.plan.test) ||
            (firstStage && st.reqTest == 11 && st.reqProfile == some 0 &&
              s.ps.pending.all fun p => p.plan.test == 0 || (p.plan.profile == 0 && p.plan.test == 11)))
      | .running => true
      | .stopping => true)

/-- What the eighth law needs where a plan becomes active beside a pending one: the fallback plan is flagged (R30), no
plan is pending in OFF, and the loopback switch is set only there (R22, R150). -/
def loopAlone (s : State) : Bool :=
  s.ps.fallback.flagged && (s.lc.link != .off || s.ps.pending.isNone) && (!s.mp.loopSwitch || s.lc.link == .off)

/-- What the first law needs of a local loopback switch that is set: a LOOP test is RUNNING with a T that fits (R18,
R149, R150). -/
def loopReady (s : State) : Bool :=
  !s.mp.loopSwitch || (s.st.kind == some .loop && s.st.state == .running && s.st.test.any (· ≤ 11))

/-- What the fourth law needs of the ready credits: together they do not exceed the free blocks (R96). -/
def creditsCovered (s : State) : Bool := reserved s.tn ≤ s.tn.free

/-- What the sixth law needs of the configured values: the centre lies within the range (R142). -/
def centreInRange (s : State) : Bool :=
  s.tm.config.steerMin ≤ s.tm.config.centre && s.tm.config.centre ≤ s.tm.config.steerMax

/-- The laws of the device together. -/
def laws (s : State) : Bool :=
  lawPlans s && lawCommitted s && lawClosed s && lawBuffer s && lawProfile s && lawSteer s && lawTest s && lawNumber s &&
    lawReports s && lawPulse s && lawErrors s && lawHold s && loopReady s && creditsCovered s && centreInRange s &&
    closedKeptOut s && profileReady s && testInStep s && loopAlone s

/-! ### What a command leaves alone -/

/-- The eleven blocks and the queue of commands. -/
inductive Part where
  | mp | sf | ps | mc | lc | tn | ca | tm | st | cb | cp | queue
  deriving DecidableEq, Repr

/-- A part of the state is the same in two states. -/
def Part.same (s t : State) : Part → Prop
  | .mp => t.mp = s.mp
  | .sf => t.sf = s.sf
  | .ps => t.ps = s.ps
  | .mc => t.mc = s.mc
  | .lc => t.lc = s.lc
  | .tn => t.tn = s.tn
  | .ca => t.ca = s.ca
  | .tm => t.tm = s.tm
  | .st => t.st = s.st
  | .cb => t.cb = s.cb
  | .cp => t.cp = s.cp
  | .queue => t.pending = s.pending

/-- Every part but those named is unchanged. -/
def unchangedBut (touched : List Part) (s t : State) : Prop := ∀ p, p ∉ touched → p.same s t

/-- Of the Counter Bank, only the live counters differ. -/
def onlyCounts (s t : State) : Prop := t.cb = { s.cb with live := t.cb.live }

/-- Of the Control Port, only the report queue and the lost flag differ. -/
def onlyReports (s t : State) : Prop := t.cp = { s.cp with reports := t.cp.reports, lost := t.cp.lost }

/-! ### Requests and messages -/

/-- The oldest request is this one and is with its owner (R167). -/
def handsOver (kind : Byte) (body : List Byte) (tag : Byte) (s : State) : Prop :=
  s.cp.service = .handed ∧ s.cp.buffer.head? = some ⟨kind, tag, body⟩

/-- The reply being sent is this one (R168). -/
def replies (kind tag : Byte) (code : ResultCode) (content : List Byte) (t : State) : Prop :=
  t.cp.service = .replying (replyFrame ⟨kind, tag, []⟩ code content)

/-- The owner's answer counted the request and changed nothing else (R167, R176). -/
def onlyAnswered (s t : State) : Prop :=
  unchangedBut [.cb, .cp] s t ∧ t.cb = (countControl .requestsServed s).cb ∧
    t.cp = { s.cp with service := t.cp.service }

/-- The kind and the body of the request a command is, none for a command that is no request (R181). -/
def requestOf : Instr → Option (Byte × List Byte)
  | .partInfo => some (0x01, [])
  | .partReset => some (0x02, [])
  | .reportsFetch => some (0x03, [])
  | .attnEnable e => some (0x04, [e])
  | .setSiteId i p => some (0x10, enc32 i.toNat ++ enc32 p.toNat)
  | .linkConfig h y l f => some (0x11, [h, y, l, f])
  | .linkStart => some (0x12, [])
  | .linkStop r => some (0x13, [r])
  | .linkStatus => some (0x14, [])
  | .planRead => some (0x15, [])
  | .tenantConfig t c w m q b f y => some (0x20, [t, c, w, m] ++ enc16 q.toNat ++ [b, f, y])
  | .tenantOpen t => some (0x21, [t])
  | .tenantClose t => some (0x22, [t])
  | .tenantFlush t => some (0x23, [t])
  | .tenantStatus t => some (0x24, [t])
  | .allocMode m a b c d => some (0x28, [m, a, b, c, d])
  | .allocStatus => some (0x29, [])
  | .timingConfig kp ki lo hi c w l p d =>
    some (0x30, [kp, ki] ++ enc16 lo.toNat ++ enc16 hi.toNat ++ enc16 c.toNat ++ enc16 w.toNat ++ [l] ++
      enc16 p.toNat ++ enc32 d.toNat)
  | .timingRestart => some (0x31, [])
  | .timingStatus => some (0x32, [])
  | .timeRead => some (0x33, [])
  | .testStart k m t r n a => some (0x40, [k, m, t, r] ++ enc32 n.toNat ++ enc32 a.toNat)
  | .testStop => some (0x41, [])
  | .testResult => some (0x42, [])
  | .countersSnapshot c => some (0x50, [c])
  | .countersRead g => some (0x51, [g])
  | _ => none

/-- A message is the next to be dispatched, or comes by itself (R51, log 7). -/
def comesNext (m : LinkMessage) (s : State) : Prop := s.mc.inbox = [] ∨ s.mc.inbox.head?.map (·.message) = some m

/-- A time message that did not begin at bit 8 (R52). -/
def misplaced (m : RxMessage) : Bool := isTime m.message && !m.atBit8

/-- What waits after the message that was dispatched, once the misplaced time messages that come to the head are dropped
(R51, R52). -/
def nextWaiting (inbox : List RxMessage) : List RxMessage :=
  (inbox.drop 1).dropWhile misplaced

/-- A counter of the message channel group, as it stands. -/
def channelCount (c : ChannelCounter) (s : State) : Option Nat := s.cb.live.channel[c.ctorIdx]?

/-- The message dispatched did nothing: it was counted as received and once in the link group, and the messages behind it
come up. -/
def onlyCounted (c : LinkCounter) (s t : State) : Prop :=
  t.cb.live.link = (countLink c s).cb.live.link ∧ t.mc = { s.mc with inbox := nextWaiting s.mc.inbox } ∧
    onlyCounts s t ∧ unchangedBut [.mc, .cb] s t ∧ (s.mc.inbox = [] → t = countLink c (countChannel .messagesReceived s))

/-- The message dispatched counts as received; those behind it are not dispatched (R56), and count as that alone (the model's
reading, log 33, and for a misplaced time message its choice, log 38). -/
def restNotDispatched (s t : State) : Prop :=
  t.mc.inbox = [] ∧ channelCount .messagesReceived t = channelCount .messagesReceived (countChannel .messagesReceived s) ∧
    channelCount .notDispatched t =
      channelCount .notDispatched (countTimes (countChannel .notDispatched) (s.mc.inbox.length - 1) s)

/-- A TIME_RESP answers the outstanding exchange at SITE in time, from a traceable partner, under one plan number, with a
delay in range (R132, R133). -/
def goodAnswer (x : Exchange) (t2 t3 : BitVec 64) (plan traceable : Byte) (s : State) : Prop :=
  let b := arrivalRecord s
  let delay : Int := ((timeNumber b.time : Int) - x.t1) - ((t3.toNat : Int) - t2.toNat)
  comesNext (.timeResp x.sequence t2 t3 plan plan traceable) s ∧ s.lc.role = .site ∧ s.tm.outstanding = some x ∧
    traceable ≠ 0 ∧ framesAhead b.frame x.frame ≤ 16 ∧ x.p1 = plan ∧ b.plan = plan ∧ 0 ≤ delay ∧
    delay ≤ s.tm.config.delayMax

/-! ### Frames -/

/-- The state from which FRAME_BOUNDARY composes: the boundary opened, the changes of the active plan that are due there
taken, the frame's start and the queues' unsent bytes recorded. -/
def atComposition (elapsed : Nat) (s : State) : State :=
  recordUnsent (recordStart (takeDueChanges (advanceCounter elapsed (if s.mp.composed then openBoundary s else s))))

/-- The state in which RECEIVED_FRAME is taken: a loopback switch due at the boundary is in effect (R18). -/
def atReception (s : State) : State := if s.mp.loopDue = .now then takeLoopSwitch s else s

/-- The state once the quality is appended, the header judged and frame lock taken (R8, R12, R14 to R16), before anything
of the frame is handed on. -/
def lockTaken (frame : ModemFrame) (s : State) : State :=
  let s := atReception s
  let r := passedFrame frame s
  takeLock (receivedHeader r)
    (countHeader r (takeQuality frame (s.modTN fun tn => { tn with out := PerTenant.const [] })))

/-- The row of R8 that a received frame is counted in. -/
def headerCase (r : Received) : LinkCounter :=
  if r.undecodable then .undecodableFrames else if (receivedHeader r).isSome then .goodHeaders else .headerErrors

/-- The messages that an area brings to those that wait (R51). -/
def messagesOf (h : Header) (r : Received) (now : FrameNo) : List RxMessage :=
  (assembleArea ((r.positions.headD []).drop 12)).messages.map fun m =>
    { message := m.1, taken := now, header := h.frame, atBit8 := m.2 }

/-- A queue none of whose packets has been sent in part, each of a length that R95 admits. -/
def freshQueue (q : List QPacket) : Prop :=
  ∀ p ∈ q, p.lengthSent = 0 ∧ p.rest.length = p.length ∧ 64 ≤ p.length ∧ p.length ≤ 2048

/-- The condition of a step of a frame boundary, none for a command that is no such step. -/
def dueAt : Instr → Option (State → Bool)
  | .loopbackSwitchEffect => some fun s => s.mp.loopDue == .now
  | .planActivation => some activationDue
  | .adoptedActivation => some adoptionDue
  | .pendingDiscard => some discardDue
  | .fallbackActivation => some fun s => s.ps.fallbackDue == .now
  | .idleReturn => some fun s => s.ps.idleDue == .now
  | .joinTimeout => some joinOver
  | .lostTimeout => some lostOver
  | .retryWaitEnd => some fun s => s.lc.retryEnd == some s.mp.frame
  | .lcFreeNotice => some fun s => s.lc.freeNotice == .now
  | .stopEntryOff => some stopOver
  | .channelRestartFinish => some fun s => s.mc.restart == .now
  | .queueRetryOffer p => some (retryOpen p)
  | .statusBuild => some statusOpen
  | .riseEvaluation => some riseOpen
  | .demandWindowClose => some fun s => s.ca.windowDue
  | .drainFlush t => some (drainFlushDue t)
  | .timeReqOffer => some offerDue
  | .exchangeLost => some exchangeOver
  | .holdoverExpired => some fun s => holdoverOver s.tm
  | .referenceTimeout => some pulseOver
  | .testArmingDeadline => some armingOver
  | .testStartDeadline => some startOver
  | .stageComplete => some stageOver
  | .stopAnswerDeadline => some answerOver
  | .snapshotCapture => some captureOpen
  | _ => none

/-- The link has entered SEARCH (R61): the records of the Link Controller that the entry drops, the channel restarted
with the HELLO loaded (R54, R65), and the Plan Store on its way to the idle plan (R22). -/
def enteredSearch (s t : State) : Prop :=
  t.lc.link = .search ∧ t.lc.roleClash = false ∧ t.lc.history = [] ∧ t.lc.partner = none ∧ t.lc.joinRecord = none ∧
    t.lc.proposal = none ∧ t.lc.retryEnd = none ∧ t.lc.failures = 0 ∧ t.lc.lastFailure = none ∧
    t.lc.lostCount = none ∧ t.lc.kept = [] ∧ t.st.kept = [] ∧ t.mc.restart = .next ∧ t.mc.queue = [] ∧
    t.mc.timeHolder = none ∧ t.mc.repeatHolder = some (helloMessage s) ∧ t.ps.pending = none ∧
    t.ps.previous = none ∧ t.ps.active = s.ps.active ∧ t.ps.idleDue ≠ .no ∧ t.sf.regainRun = none ∧
    t.st.responder = none ∧ t.lc.role = s.lc.role ∧ t.lc.identity = s.lc.identity ∧ t.mp.frame = s.mp.frame

end Sys2Proof.Machine
end

