-- ==== Sys2Proof/Certificates/Slice0/Obligations.lean ====
section
/-! DEFINITION. The statements for the provers. -/

open Sys2Proof Sys2Proof.Machine

/-! ### The queue, the resets, the boundaries -/

/-- One step runs the command at the front of the queue with the queue's rest; on an empty queue the block idles
(log 12). -/
def Obligations.StepRunsTheFrontCommand : Prop :=
  ∀ (c : Instr) (s : State),
    step { s with pending := c :: s.pending } = exec c s ∧ (s.pending = [] → step s = .next s)

/-- The two resets, and what either leaves (R174 and the reset tables of the chapters). -/
def Obligations.ResetsLeaveTheResetState : Prop :=
  (∀ (role : Role) (rate : LineRate) (s : State),
    exec (.powerOnReset role rate) s = .next { State.afterReset 0 role rate with pending := s.pending } ∧
      (s.cp.resetDue = true ∨ answeringReset s.cp = true →
        exec (.enterReset role rate) s = .next { State.afterReset 1 role rate with pending := s.pending })) ∧
  ∀ (cause : Byte) (role : Role) (rate : LineRate),
    let t := State.afterReset cause role rate
    t.mp.frame = 0 ∧ t.mp.loopback = false ∧ t.mp.tx.mute = true ∧
      t.sf = { locked := false, goodRun := 0, missRun := 0, regainRun := none, lockedBefore := false } ∧
      t.ps.active = Plan.flaggedIdle ∧ t.ps.fallback = Plan.flaggedIdle ∧ t.ps.pending = none ∧ t.ps.previous = none ∧
      t.mc.restart = .no ∧ t.mc.timeHolder = none ∧ t.mc.repeatHolder = none ∧ t.mc.queue = [] ∧ t.mc.flagCount = 1 ∧
      t.lc.link = .off ∧ t.lc.role = role ∧ t.lc.identity = none ∧ t.lc.hostMax = 5 ∧ t.lc.hysteresis = 20 ∧
      t.lc.lead = 32 ∧ t.lc.history = [] ∧
      (∀ n : Tenant, (t.tn.tenants.get n).state = .closed ∧ (t.tn.tenants.get n).queue = [] ∧
        (t.tn.tenants.get n).hold = true ∧ (t.tn.tenants.get n).reassembly = .hunt) ∧
      t.tn.free = 512 ∧ t.ca.fixed = false ∧ t.ca.fixedCounts = PerTenant.const 0 ∧ t.ca.last = none ∧
      t.tm.time = ⟨0, 0⟩ ∧ t.tm.steer = 2048 ∧ t.tm.integrator = 0 ∧ t.tm.pps = false ∧
      t.tm.state = (if role = .site then .freeRun else .referenceLost) ∧
      t.st.state = .idle ∧ t.st.commissioned = 5 ∧ t.st.responder = none ∧
      t.cb.live = Bank.zero ∧ t.cb.snapshot = Bank.zero ∧ t.cb.valid = false ∧
      t.cp.rate = rate ∧ t.cp.receiver = .outside ∧ t.cp.buffer = [] ∧ t.cp.lost = false ∧ attentionLine t = true ∧
      t.cp.reports.map (fun r => (r.kind, r.subject, r.frame, r.detail.head?)) = [(.resetDone, 0, 0, some cause)]

/-- The laws of the device hold right after every reset. -/
def Obligations.ResetMeetsTheLaws : Prop :=
  laws State.reset = true ∧
    ∀ (cause : Byte) (role : Role) (rate : LineRate), laws (State.afterReset cause role rate) = true

/-- A step of a frame boundary whose condition does not hold at the boundary under way acts as on the boundary that it
opens when its condition holds there, and changes nothing when its moment has not come (the model's choice, log 4). -/
def Obligations.BoundaryStepOpensItsBoundary : Prop :=
  ∀ (c : Instr) (due : State → Bool) (s : State), dueAt c = some due → due s = false →
    (s.mp.composed = true → due (openBoundary s) = true → exec c s = exec c (openBoundary s)) ∧
      (¬ (s.mp.composed = true ∧ due (openBoundary s) = true) → exec c s = .next s)

/-! ### Frames -/

/-- FRAME_BOUNDARY: the frame number (R1, R2), the frame-start record (R126), and the frame that the Slot Framer composes by the
plan active there (R6, R9, R11, R17, R43, R54, R98, R153): position 0 with its header and area, the TEST positions, each
tenant's positions, SPARE positions of 0xFF, and the mute indication; what the composition takes from the queues and the time
holder, counts as sent (R43, R128, R131), and frees. Where another step has opened the boundary (composed = false), the number is not advanced again and the
received frame taken there stands (the model's choice, log 4). -/
def Obligations.FrameBoundaryComposesTheFrame : Prop :=
  ∀ (elapsed : Nat) (s : State),
    let u := atComposition elapsed s
    let plan := u.ps.active
    let stream := fun n : Tenant => fillPositions (tenantRec u n).config.fill (plan.counts.get n) (tenantRec u n).queue
    let area := composeArea u.mc u.tm.current
    ∃ t, exec (.frameBoundary elapsed) s = .next t ∧
      t.mp.frame = (if s.mp.composed then s.mp.renumber.getD (s.mp.frame + 1) else s.mp.frame) ∧
      t.mp.composed = true ∧ t.mp.rxTaken = (if s.mp.composed then false else s.mp.rxTaken) ∧ t.ps.active = plan ∧
      t.tm.current = ⟨t.mp.frame, advanceTime elapsed s.tm.time, plan.number⟩ ∧ t.tm.before = s.tm.current ∧
      t.mp.txBefore = s.mp.tx ∧
      t.mp.tx =
        { frame := t.mp.frame, profile := plan.profile, mute := s.lc.link == .off || t.mp.loopback,
          positions :=
            (headerBytes { frame := t.mp.frame, profile := plan.profile, flagged := plan.flagged,
                           number := plan.number, nibbles := u.tn.tenants.map nibbleOf } ++
              (if u.mc.abortArea then abortAreaBytes else area.bytes)) ::
            (((List.range plan.test).map fun k => testFill u.st t.mp.frame (k + 1)) ++
              (stream .t1).positions ++ (stream .t2).positions ++ (stream .t3).positions ++ (stream .t4).positions ++
              List.replicate (usable plan.profile - 1 - (plan.test + plan.counts.sum)) (List.replicate 768 0xFF)) } ∧
      (plan.wellFormed = true → t.mp.tx.positions.length = usable plan.profile) ∧
      t.cb.live.link[LinkCounter.mutedFrames.ctorIdx]? =
        (countIf t.mp.tx.mute (countLink .mutedFrames) s).cb.live.link[LinkCounter.mutedFrames.ctorIdx]? ∧
      (u.mc.abortArea = true → channelCount .messagesSent t = channelCount .messagesSent s ∧
        ∀ c ∈ [TimingCounter.requestsSent, .responsesSent], t.cb.live.timing[c.ctorIdx]? = s.cb.live.timing[c.ctorIdx]?) ∧
      (u.mc.abortArea = false → t.mc.timeHolder = area.timeHolder ∧ t.mc.released = area.released ∧
        channelCount .messagesSent t = channelCount .messagesSent (countTimes (countChannel .messagesSent) area.placed s) ∧
        t.cb.live.timing[TimingCounter.requestsSent.ctorIdx]? =
          (countIf (area.timePlaced.any (startsExchange u.tm)) (countTiming .requestsSent) s).cb.live.timing[
            TimingCounter.requestsSent.ctorIdx]? ∧
        t.cb.live.timing[TimingCounter.responsesSent.ctorIdx]? =
          (countIf (area.timePlaced.any isResponse) (countTiming .responsesSent) s).cb.live.timing[
            TimingCounter.responsesSent.ctorIdx]?) ∧
      (∀ n : Tenant, (tenantRec t n).queue = (stream n).queue ∧
        t.cb.live.tenants.get n =
          (countTimes (countTenant n .packetsSent) (stream n).sent s).cb.live.tenants.get n) ∧
      t.tn.free = s.tn.free + ((stream .t1).freed + (stream .t2).freed + (stream .t3).freed + (stream .t4).freed) ∧
      t.lc.role = s.lc.role ∧ t.lc.identity = s.lc.identity ∧ t.ca.fixed = s.ca.fixed ∧ t.tm.config = s.tm.config ∧
      t.mc.inbox = s.mc.inbox ∧ t.cp = { s.cp with reports := t.cp.reports, lost := t.cp.lost } ∧
      t.pending = s.pending

/-- RECEIVED_FRAME: the frame is taken, its quality sample appended (R12, R70) and frame lock stepped (R14); a frame that no
modem delivers faults (log 6); a frame given when this boundary has had its frame and is composed opens the next boundary
(the model's choice, log 4). -/
def Obligations.ReceivedFrameIsTaken : Prop :=
  ∀ (frame : ModemFrame) (s : State),
    (frame.wf = false → exec (.receivedFrame frame) s = .fault .malformedFrame) ∧
      (frame.wf = true → s.mp.rxTaken = false → ∃ t, exec (.receivedFrame frame) s = .next t ∧
        t.mp.rxTaken = true ∧ t.mp.frame = s.mp.frame ∧ t.mp.composed = s.mp.composed ∧
        t.lc.history =
          (s.lc.history ++ [if frame.undecodable then 0 else min frame.quality 400]).drop
            (s.lc.history.length + 1 - 256) ∧
        (s.mp.loopDue ≠ .now → t.sf.locked = (lockStep (receivedHeader (passedFrame frame s)).isSome s.sf).1.locked) ∧
        t.lc.role = s.lc.role ∧ t.lc.identity = s.lc.identity ∧ t.tn.free = s.tn.free ∧ t.tm.time = s.tm.time ∧
        t.tm.config = s.tm.config ∧ t.ca.fixed = s.ca.fixed ∧
        t.cp = { s.cp with reports := t.cp.reports, lost := t.cp.lost } ∧ t.pending = s.pending) ∧
      (frame.wf = true → s.mp.rxTaken = true → s.mp.composed = true →
        exec (.receivedFrame frame) s = exec (.receivedFrame frame) (openBoundary s))

/-- RECEIVED_FRAME hands the frame to its owners: the header counters (R8); the far nibbles (R104); the messages that then wait
(R51), the misplaced time messages at their head dropped and counted (R52; that this step drops those at the head alone is the
model's choice, log 7, and that they alone count as received here, the others when they are dispatched, is its reading, log
33); the adoption mark (R27); and by the decoding plan (R33) the TEST positions (R153) and each tenant's positions, which its
reassembly context takes (R100 to R102), with the packets delivered. Without a good header or a decoding plan, no
position is handed over and every context is at a gap (R102). A looped frame brings no nibbles, no mark and no messages
(R18). -/
def Obligations.ReceivedFrameReachesItsOwners : Prop :=
  ∀ (frame : ModemFrame) (s : State), frame.wf = true → s.mp.rxTaken = false →
    let r := passedFrame frame (atReception s)
    let u := lockTaken frame s
    let gap := fun t : State =>
      t.st.taken = ⟨s.mp.frame, []⟩ ∧
        ∀ n : Tenant, (tenantRec t n).reassembly = .hunt ∧ t.tn.out.get n = [] ∧
          t.cb.live.tenants.get n = (gapTenant n u).cb.live.tenants.get n
    ∃ t, exec (.receivedFrame frame) s = .next t ∧ t.st.takenBefore = s.st.taken ∧
      (∀ c ∈ [LinkCounter.goodHeaders, .headerErrors, .undecodableFrames],
        t.cb.live.link[c.ctorIdx]? = (countIf (c == headerCase r) (countLink c) s).cb.live.link[c.ctorIdx]?) ∧
      (receivedHeader r = none →
        (∀ n : Tenant, (tenantRec t n).far = (tenantRec s n).far) ∧ t.mc.inbox = s.mc.inbox ∧ gap t) ∧
      (∀ h, receivedHeader r = some h →
        (∀ n : Tenant, (tenantRec t n).far = if r.looped then (tenantRec s n).far else h.nibbles.get n) ∧
        t.mc.inbox = (if r.looped then s.mc.inbox
          else (s.mc.inbox ++ messagesOf h r s.mp.frame).dropWhile misplaced) ∧
        (r.looped = false → ∀ c ∈ [ChannelCounter.messagesReceived, .misplacedTime],
          channelCount c t = channelCount c (countTimes (countChannel c)
            ((s.mc.inbox ++ messagesOf h r s.mp.frame).takeWhile misplaced).length s)) ∧
        (r.looped = false → adopts s.lc.role u.ps h = true →
          t.ps.pending = u.ps.pending.map fun p => { p with mark := .next }) ∧
        (decodingPlan u.ps h = none → gap t ∧
          t.cb.live.link[LinkCounter.planUnknownFrames.ctorIdx]? =
            (countLink .planUnknownFrames s).cb.live.link[LinkCounter.planUnknownFrames.ctorIdx]?) ∧
        (∀ plan, decodingPlan u.ps h = some plan →
          t.st.taken = ⟨s.mp.frame, testTaken plan r.positions⟩ ∧
          ∀ n : Tenant,
            let c := rebuildPositions (tenantRec u n).config.fill (tenantPositions plan r.positions n)
              (tenantRec u n).reassembly
            let closed := (tenantRec u n).state = .closed
            (closed ∨ (tenantRec t n).state ≠ .closed → (tenantRec t n).reassembly = c.mode) ∧
              t.tn.out.get n = (if closed then [] else c.packets) ∧
              t.cb.live.tenants.get n =
                (countTimes (countTenant n (if closed then .receiveDrops else .packetsDelivered)) c.packets.length
                  (countTimes (countTenant n .reassemblyErrors) c.errors s)).cb.live.tenants.get n))

/-- A tenant's stream (R98) is read back by the reassembly context at its far end (R100, R101): the packets sent whole come out
as they went in, in order, without an error; a context that begins in HUNT after any number of lost positions delivers those
that begin after it, without an error; and every block of a packet placed is freed (R93). -/
def Obligations.TenantStreamReadsBack : Prop :=
  ∀ (fill : Byte) (n : Nat) (q : List QPacket), 0x10 ≤ fill.toNat → freshQueue q →
    let f := fillPositions fill n q
    let sent := (q.take f.sent).map (·.rest)
    let r := rebuildPositions fill f.positions .idle
    f.positions.length = n ∧ (∀ p ∈ f.positions, p.length = 768) ∧
      r.packets = sent ∧ r.errors = 0 ∧ (f.queue = [] → r.mode = .idle) ∧
      (∀ lost : Nat,
        let late := rebuildPositions fill (f.positions.drop lost) .hunt
        late.errors = 0 ∧ ∃ missed, missed ++ late.packets = sent) ∧
      f.freed + (f.queue.map packetBlocks).sum = (q.map packetBlocks).sum

/-- The frame lock table (R14): what one received frame does to the lock. -/
def Obligations.FrameLockFollowsItsTable : Prop :=
  ∀ sf : SF,
    (sf.locked = false → sf.goodRun + 1 < 3 →
      lockStep true sf = ({ sf with lockedBefore := false, goodRun := sf.goodRun + 1 }, .same)) ∧
    (sf.locked = false → 3 ≤ sf.goodRun + 1 →
      lockStep true sf = ({ sf with lockedBefore := false, locked := true, goodRun := 3, missRun := 0 }, .gained)) ∧
    (sf.locked = false → lockStep false sf = ({ sf with lockedBefore := false, goodRun := 0 }, .same)) ∧
    (sf.locked = true → lockStep true sf = ({ sf with lockedBefore := true, missRun := 0 }, .same)) ∧
    (sf.locked = true → sf.missRun + 1 < 4 →
      lockStep false sf = ({ sf with lockedBefore := true, missRun := sf.missRun + 1 }, .same)) ∧
    (sf.locked = true → 4 ≤ sf.missRun + 1 →
      lockStep false sf = ({ sf with lockedBefore := true, locked := false, goodRun := 0, missRun := 0 }, .lost))

/-- LOOPBACK_SWITCH_EFFECT (R18, R35): frame lock restarts, and the loop plan or the fallback plan becomes active.
FALLBACK_ACTIVATION (R31) and IDLE_RETURN (R22): the fallback plan, or the idle plan, becomes active. -/
def Obligations.DuePlansBecomeActive : Prop :=
  (∀ s : State, s.mp.loopDue = .now → ∃ t, exec .loopbackSwitchEffect s = .next t ∧
    t.mp.loopback = s.mp.loopSwitch ∧ t.sf.locked = false ∧ t.sf.goodRun = 0 ∧ t.sf.missRun = 0 ∧
    (s.mp.loopSwitch = true → t.ps.active = loopPlan (s.st.test.getD 0)) ∧
    (s.mp.loopSwitch = false → t.ps.active = t.ps.fallback) ∧
    (s.ps.idleDue ≠ .now → t.ps.previous = some s.ps.active ∧ t.ps.fallback = s.ps.fallback) ∧
    t.mp.frame = s.mp.frame ∧ t.mp.composed = s.mp.composed ∧ t.mp.tx = s.mp.tx ∧ t.tn.free = s.tn.free ∧
    t.lc.role = s.lc.role ∧ t.lc.identity = s.lc.identity ∧ t.tm.time = s.tm.time ∧ t.tm.config = s.tm.config ∧
    t.mc.inbox = s.mc.inbox ∧ t.mc.restart = s.mc.restart ∧ onlyReports s t ∧ onlyCounts s t ∧ t.pending = s.pending) ∧
  (∀ s : State,
    (s.ps.fallbackDue = .now → ∃ t, exec .fallbackActivation s = .next t ∧ t.ps.active = s.ps.fallback ∧
      t.ps.fallback = s.ps.fallback ∧ (s.ps.active ≠ s.ps.fallback → t.ps.previous = some s.ps.active) ∧
      (s.ps.active = s.ps.fallback → t.ps = { s.ps with fallbackDue := .no }) ∧ t.mp.frame = s.mp.frame ∧
      t.tn.free = s.tn.free ∧ t.tm.time = s.tm.time ∧ t.sf.locked = s.sf.locked ∧ t.lc.role = s.lc.role ∧
      onlyReports s t ∧ onlyCounts s t ∧ t.pending = s.pending) ∧
    (s.ps.idleDue = .now → ∃ t, exec .idleReturn s = .next t ∧ t.ps.active = Plan.flaggedIdle ∧
      t.ps.fallback = Plan.flaggedIdle ∧ t.ps.idleDue = .no ∧ t.mp.frame = s.mp.frame ∧
      t.tn.free = s.tn.free ∧ t.tm.time = s.tm.time ∧ t.sf.locked = s.sf.locked ∧ t.lc.role = s.lc.role ∧
      onlyReports s t ∧ onlyCounts s t ∧ t.pending = s.pending))

/-! ### Link messages as bytes -/

/-- A header that is written is read back as it was written, whatever follows it in position 0 (R6, R8); a message's kind and
body are read back as the message (R41, R183). -/
def Obligations.HeaderAndMessagesReadBack : Prop :=
  (∀ (h : Header) (rest : List Byte), h.profile ≤ 5 → judgeHeader (headerBytes h ++ rest) = .good h) ∧
  ∀ m : LinkMessage,
    parseMessage (messageKind m) (messageBody m) = some m ∧
      bodyLengthOf (messageKind m) = some (messageBody m).length

/-- The messages placed in an area are those that the assembler finds in it, in order, and it counts nothing against the
area; the first begins at bit 8 (R38 to R43, R48 to R50). -/
def Obligations.AreaReadsBack : Prop :=
  ∀ (f : Nat) (ms : List LinkMessage), 1 ≤ f → f ≤ 2 →
    let d := placeQueue f ms AreaDraft.opening
    let found := assembleArea (finishArea d.1)
    (∃ placed, ms = placed ++ d.2 ∧ found.messages.map (·.1) = placed ∧
      found.counts = [] ∧
      found.messages.map (·.2) = (List.range placed.length).map (· == 0)) ∧
    (finishArea d.1).length = 756

/-- Seven 1 bits in a row end the message being gathered, whatever has been gathered of it, count one abort, and leave the
assembler in HUNT (R49); there it stays until the next flag, and nothing is counted. `ones` is the run of 1 bits before the
bit, six of the bits gathered; where those before the run had already passed the longest message, the message counts as
oversize instead (R50, log 18). -/
def Obligations.SevenOnesAbort : Prop :=
  ∀ (i : Nat) (a : Assembler),
    (∀ bit, (assembleBit i bit a).ones = if bit then a.ones + 1 else 0) ∧
    (∀ (start : Nat) (gathered : List Bool), a.mode = .message start gathered → a.ones = 6 →
      (gathered.length ≤ 542 →
        assembleBit i true a = { a with mode := .hunt, ones := 7, counts := .abortsReceived :: a.counts }) ∧
      (542 < gathered.length →
        assembleBit i true a = { a with mode := .hunt, ones := 7, counts := .oversize :: a.counts })) ∧
    (a.mode = .hunt →
      (∀ bit, ¬ (bit = false ∧ a.ones = 6) →
        (assembleBit i bit a).mode = .hunt ∧ (assembleBit i bit a).counts = a.counts ∧
          (assembleBit i bit a).messages = a.messages) ∧
      (a.ones = 6 → assembleBit i false a = { a with mode := .message (i + 1) [], ones := 0 }))

/-! ### Link messages taken -/

/-- HELLO accepted at SITE (R66): the JOIN record, the JOIN, and the link in JOIN. JOIN accepted at HUB (R67): plan 0 pending,
the JOIN_ACK offered, the link still in SEARCH. JOIN_ACK in time at SITE (R68): plan 0 of the JOIN record becomes pending. -/
def Obligations.JoiningFollowsItsSteps : Prop :=
  (∀ (role : Byte) (siteId peer : SiteId) (s : State),
    comesNext (.hello role siteId peer) s → s.lc.role = .site → s.lc.link = .search → roleOf role = .hub →
    identityPasses s.lc.identity siteId peer = true → s.sf.locked = true → s.sf.lockedBefore = true → s.lc.stop = none →
    ∃ t, exec (.hello role siteId peer) s = .next t ∧ t.lc.link = .join ∧ t.lc.partner = some siteId ∧
      t.lc.joinRecord = some ⟨frameAdd s.mp.frame s.lc.lead, fallbackCounts s⟩ ∧ t.mc.repeatHolder = none ∧
      (s.lc.kept = [] → s.mc.queue.length < 8 →
        t.mc.queue = s.mc.queue ++ [.join ((s.lc.identity.map (·.siteId)).getD 0) (frameAdd s.mp.frame s.lc.lead)
          ((fallbackCounts s).map (BitVec.ofNat 8))] ∧ t.lc.kept = []) ∧
      t.mc.timeHolder = s.mc.timeHolder ∧
      t.lc = { s.lc with link := .join, partner := t.lc.partner, joinRecord := t.lc.joinRecord, kept := t.lc.kept } ∧
      onlyReports s t ∧ onlyCounts s t ∧ unchangedBut [.mc, .lc, .cb, .cp] s t) ∧
  (∀ (siteId : SiteId) (effective : FrameNo) (f1 f2 f3 f4 : Byte) (s : State),
    let counts : PerTenant Nat := ⟨f1.toNat, f2.toNat, f3.toNat, f4.toNat⟩
    comesNext (.join siteId effective ⟨f1, f2, f3, f4⟩) s → s.lc.role = .hub → s.lc.link = .search →
    peerAdmits s.lc.identity siteId = true → s.sf.locked = true →
    4 ≤ framesAhead effective s.mp.frame → framesAhead effective s.mp.frame ≤ 32767 →
    counts.toList.all (· ≤ 63) = true → 1 + counts.sum ≤ 12 → s.lc.stop = none → s.ps.active.flagged = true →
    ∃ t, exec (.join siteId effective f1 f2 f3 f4) s = .next t ∧ t.lc.link = .search ∧ t.lc.partner = some siteId ∧
      t.ps = { s.ps with pending := some (firstPlan effective counts) } ∧
      t.mc.repeatHolder = none ∧
      (s.lc.kept = [] → s.mc.queue.length < 8 →
        t.mc.queue = s.mc.queue ++ [.joinAck ((s.lc.identity.map (·.siteId)).getD 0) effective]) ∧
      t.lc = { s.lc with partner := t.lc.partner, kept := t.lc.kept } ∧ t.tn.free = s.tn.free ∧
      onlyReports s t ∧ onlyCounts s t ∧ unchangedBut [.ps, .mc, .lc, .tn, .cb, .cp] s t) ∧
  (∀ (siteId : SiteId) (j : JoinRecord) (s : State),
    comesNext (.joinAck siteId j.effective) s → s.lc.role = .site → s.lc.link = .join → s.lc.stop = none →
    s.lc.partner = some siteId → s.lc.joinRecord = some j → isAhead j.effective s.mp.frame = true →
    s.ps.pending = none → countsWellFormed j.counts = true → s.ps.active.flagged = true →
    ∃ t, exec (.joinAck siteId j.effective) s = .next t ∧
      t.ps = { s.ps with pending := some (firstPlan j.effective j.counts) } ∧
      t.tn.free = s.tn.free ∧ t.mc = { s.mc with inbox := t.mc.inbox } ∧
      onlyReports s t ∧ onlyCounts s t ∧ unchangedBut [.ps, .mc, .tn, .cb, .cp] s t)

/-- SHIFT at HUB (R77): the first failing check, in the rule's order, is answered with its SHIFT_NAK; a SHIFT that passes
them is installed, confirmed, and answered with a SHIFT_ACK. SHIFT_ACK at SITE (R24, R78): in time it confirms the pending
plan; after effective − 4 it is late and marks the proposal record. -/
def Obligations.ShiftIsAnsweredAndConfirmed : Prop :=
  (∀ (number profile test n1 n2 n3 n4 f1 f2 f3 f4 : Byte) (effective : FrameNo) (s : State),
      let p : Pending :=
        { plan := { number := number, profile := profile.toNat, test := test.toNat,
                    counts := ⟨n1.toNat, n2.toNat, n3.toNat, n4.toNat⟩, flagged := false },
          effective := effective, carried := ⟨f1.toNat, f2.toNat, f3.toNat, f4.toNat⟩, confirmed := true, mark := .no }
      let numberFits := s.ps.active.flagged = true ∨ number = s.ps.active.number + 1
      let inTime := 4 ≤ framesAhead effective s.mp.frame ∧ framesAhead effective s.mp.frame ≤ 32767
      let wellFormed := p.plan.wellFormed = true ∧ countsWellFormed p.carried = true
      comesNext (.shift number profile test ⟨n1, n2, n3, n4⟩ ⟨f1, f2, f3, f4⟩ effective) s →
      s.lc.role = .hub → inPair s.lc.link = true → s.lc.stop = none →
      ∃ t, exec (.shift number profile test n1 n2 n3 n4 f1 f2 f3 f4 effective) s = .next t ∧
        (numberFits → inTime → wellFormed → profile.toNat ≤ s.lc.hostMax →
          t.ps = { s.ps with pending := some p } ∧ t.lc.link = .shift ∧
          (s.lc.kept = [] → s.mc.queue.length < 8 → t.mc.queue = s.mc.queue ++ [.shiftAck number])) ∧
        (∀ reason : Byte,
          (if ¬ numberFits then reason = nakPlanNumber
            else if ¬ inTime then reason = nakLate
            else if ¬ wellFormed then reason = nakMalformed
            else s.lc.hostMax < profile.toNat ∧ reason = nakProfile) →
          t.ps = s.ps ∧ t.lc.link = s.lc.link ∧ t.tn = s.tn ∧
          (s.lc.kept = [] → s.mc.queue.length < 8 → t.mc.queue = s.mc.queue ++ [.shiftNak number reason])) ∧
        t.lc = { s.lc with link := t.lc.link, kept := t.lc.kept } ∧ t.tn.free = s.tn.free ∧
        onlyReports s t ∧ onlyCounts s t ∧ unchangedBut [.ps, .mc, .lc, .tn, .cb, .cp] s t) ∧
  ∀ (p : Proposal) (s : State),
    comesNext (.shiftAck p.number) s → s.lc.role = .site → s.lc.link = .shift → s.lc.stop = none →
    s.lc.proposal = some p →
    ∃ t, exec (.shiftAck p.number) s = .next t ∧
      (∀ q, isAtOrAfter (p.effective - 4) s.mp.frame = true → s.ps.pending = some q → q.mark = .no →
        t.ps = { s.ps with pending := some { q with confirmed := true } } ∧ t.lc = s.lc) ∧
      (isAtOrAfter (p.effective - 4) s.mp.frame = false →
        t.lc = { s.lc with proposal := some { p with lateAck := true } } ∧ t.ps = s.ps) ∧
      t.mc = { s.mc with inbox := t.mc.inbox } ∧ onlyCounts s t ∧ unchangedBut [.ps, .mc, .lc, .cb] s t

/-- SHIFT_NAK at SITE (R29, R78, R79): the pending plan is discarded and the shift fails with cause NAK. PENDING_DISCARD (R28):
a plan that is neither confirmed nor marked is discarded at effective + 16, after the boundary's frame has been taken, and the
shift fails (R79). -/
def Obligations.FailedShiftsAreResolved : Prop :=
  (∀ (p : Proposal) (reason : Byte) (s : State),
    comesNext (.shiftNak p.number reason) s → s.lc.role = .site → s.lc.link = .shift → s.lc.stop = none →
    s.lc.proposal = some p →
    ∃ t, exec (.shiftNak p.number reason) s = .next t ∧ t.ps = { s.ps with pending := none } ∧ t.lc.link = .up ∧
      t.lc.proposal = none ∧ t.lc.failures = min (s.lc.failures + 1) 255 ∧ t.lc.lastFailure = some (.nak reason) ∧
      t.lc.retryEnd = some (frameAdd s.mp.frame 64) ∧ t.lc.freeNotice = .next ∧
      t.tn.free = s.tn.free ∧ t.mp = s.mp ∧ t.sf = s.sf ∧ t.tm = s.tm ∧ onlyReports s t ∧ onlyCounts s t ∧
      t.lc.role = s.lc.role ∧ t.lc.identity = s.lc.identity ∧ t.lc.history = s.lc.history ∧ t.pending = s.pending) ∧
  (∀ (p : Pending) (s : State), s.ps.pending = some p → s.lc.role = .site → p.confirmed = false → p.mark = .no →
    s.mp.rxTaken = true → s.mp.frame = frameAdd p.effective 16 → s.lc.link ≠ .up →
    ∃ t, exec .pendingDiscard s = .next t ∧ t.ps = { s.ps with pending := none } ∧
      (∀ q, s.lc.proposal = some q → s.lc.link = .shift → s.lc.stop = none →
        t.lc.link = .up ∧ t.lc.proposal = none ∧ t.lc.failures = min (s.lc.failures + 1) 255 ∧
        t.lc.lastFailure = some (if q.lateAck then .lateAck else .noAdoption) ∧
        t.lc.retryEnd = some (frameAdd s.mp.frame 64)) ∧
      (s.lc.proposal = none → t.lc = s.lc) ∧
      t.mp = s.mp ∧ t.sf = s.sf ∧ t.tm = s.tm ∧ t.tn.free = s.tn.free ∧ t.mc.inbox = s.mc.inbox ∧ onlyReports s t ∧
      onlyCounts s t ∧ t.pending = s.pending)

/-- BYE (R64): in JOIN, UP, SHIFT and LOST the link enters SEARCH (R22, R54, R61) with cause PARTNER_BYE and the BYE's reason
in the report, and the messages of its area behind it are not dispatched (R56), which is all they count as (the model's
reading, log 33, and for a misplaced time message its choice, log 38). The report is among those added to a queue that has
room for one more; that it is so when 31 are queued and the event brings several reports is the model's choice (log 34). In
OFF and SEARCH, and during a stop, the BYE is counted as unexpected and changes nothing else. -/
def Obligations.ByeEntersSearch : Prop :=
  ∀ (reason : Byte) (s : State), comesNext (.bye reason) s →
    ((s.lc.link = .join ∨ s.lc.link = .up ∨ s.lc.link = .shift ∨ s.lc.link = .lost) → s.lc.stop = none →
      ∃ t, exec (.bye reason) s = .next t ∧ enteredSearch s t ∧ restNotDispatched s t ∧
        (s.cp.reports.length < 32 →
          ∃ added, t.cp.reports = s.cp.reports ++ added ∧
            ⟨.linkState, 0, s.mp.frame,
              [linkStateCode .search, linkStateCode s.lc.link, linkCauseCode .partnerBye, reason, 0, 0, 0, 0]⟩ ∈ added) ∧
        t.cp = { s.cp with reports := t.cp.reports, lost := t.cp.lost } ∧ t.tm.time = s.tm.time ∧
        t.tm.config = s.tm.config ∧ t.tn.free = s.tn.free ∧ t.pending = s.pending) ∧
    ((s.lc.link = .off ∨ s.lc.link = .search ∨ s.lc.stop ≠ none) →
      ∃ t, exec (.bye reason) s = .next t ∧ onlyCounted .unexpectedMessages s t)

/-- TIME_REQ at HUB (R128, R132) is answered through the time holder with the record of the frame it arrived in;
TIME_REQ_OFFER (R131) at SITE offers the next sequence and arms the exchange. TIME_RESP at SITE (R132 to R134): a good answer
joins the window when it is not the eighth. -/
def Obligations.TimeMessagesMakeTheExchange : Prop :=
  (∀ (sequence : Byte) (s : State), comesNext (.timeReq sequence) s → s.lc.role = .hub →
    ∃ t, exec (.timeReq sequence) s = .next t ∧
      t.mc.timeHolder = some (.timeResp sequence (BitVec.ofNat 64 (timeNumber (arrivalRecord s).time)) 0
        (arrivalRecord s).plan 0 (if s.tm.state = .reference then 1 else 0)) ∧
      t.mc = { s.mc with inbox := t.mc.inbox, timeHolder := t.mc.timeHolder } ∧ onlyCounts s t ∧
      unchangedBut [.mc, .cb] s t) ∧
  (∀ s : State, offerDue s = true →
    ∃ t, exec .timeReqOffer s = .next t ∧
      t.mc = { s.mc with timeHolder := some (.timeReq s.tm.sequence) } ∧
      t.tm = { s.tm with sequence := s.tm.sequence + 1, armed := some s.tm.sequence, firstOffer := .no,
                         nextOffer := some (frameAdd s.mp.frame s.tm.config.period) } ∧
      onlyCounts s t ∧ unchangedBut [.mc, .tm, .cb] s t) ∧
  ∀ (x : Exchange) (t2 t3 : BitVec 64) (plan traceable : Byte) (s : State),
    let t4 := timeNumber (arrivalRecord s).time
    let delay : Int := ((t4 : Int) - x.t1) - ((t3.toNat : Int) - t2.toNat)
    let offset : Int := (((t2.toNat : Int) - x.t1) - ((t4 : Int) - t3.toNat)).tdiv 2
    goodAnswer x t2 t3 plan traceable s → s.tm.window.length < 7 →
    ∃ t, exec (.timeResp x.sequence t2 t3 plan plan traceable) s = .next t ∧
      t.tm = { s.tm with outstanding := none, lostRun := 0, lastOffset := some offset, lastDelay := some delay,
                         window := s.tm.window ++ [(offset, delay)] } ∧
      t.cb.live.timing = (countTiming .accepted s).cb.live.timing ∧
      t.mc = { s.mc with inbox := t.mc.inbox } ∧ onlyCounts s t ∧ unchangedBut [.mc, .tm, .cb] s t

/-- TIME_RESP whose exchange is the eighth of the window (R134, R135): in ACQUIRE a selected θ above 20,000 ns in magnitude is
a step, which moves the counter by θ, empties the window, drops the outstanding exchange, zeroes the good-update run, and
touches no other value of the servo; in LOCKED and HOLDOVER the update is never a step. A move within the counter's range
adds θ to it as one number, carrying into or borrowing from the seconds. -/
def Obligations.LargeOffsetStepsTheCounter : Prop :=
  (∀ (x : Exchange) (t2 t3 : BitVec 64) (plan traceable : Byte) (s : State),
    let t4 := timeNumber (arrivalRecord s).time
    let delay : Int := ((t4 : Int) - x.t1) - ((t3.toNat : Int) - t2.toNat)
    let offset : Int := (((t2.toNat : Int) - x.t1) - ((t4 : Int) - t3.toNat)).tdiv 2
    let θ := selectOffset (s.tm.window ++ [(offset, delay)])
    goodAnswer x t2 t3 plan traceable s → s.tm.window.length = 7 →
    ∃ t, exec (.timeResp x.sequence t2 t3 plan plan traceable) s = .next t ∧
      (s.tm.state = .acquire → 20000 < θ.natAbs →
        t.tm = { s.tm with time := moveTime θ s.tm.time, outstanding := none, lostRun := 0, lastOffset := some offset,
                           lastDelay := some delay, window := [], goodRun := 0 } ∧
        t.cb.live.timing = (countTiming .steps (countTiming .accepted s)).cb.live.timing ∧
        t.mc = { s.mc with inbox := t.mc.inbox } ∧ onlyCounts s t ∧ unchangedBut [.mc, .tm, .cb] s t) ∧
      (s.tm.state = .locked ∨ s.tm.state = .holdover →
        t.tm.time = s.tm.time ∧ t.cb.live.timing[7]? = s.cb.live.timing[7]?)) ∧
  (∀ (offset : Int) (time : Time), time.nanos < 1000000000 →
    (moveTime offset time).nanos < 1000000000 ∧
      (0 ≤ (timeNumber time : Int) + offset → (timeNumber time : Int) + offset < 4294967296000000000 →
        (timeNumber (moveTime offset time) : Int) = timeNumber time + offset))

/-- The servo arithmetic (R136, R137): the clamps, the control value and the saturated code; the updates of ACQUIRE, LOCKED and
HOLDOVER (R137 to R139): the code is applied, the fourth good update locks, the second large error in a row enters HOLDOVER,
and a small error leaves it; and the TIME_RESP whose exchange is the eighth of the window (R134), where it is no step, runs the
update of the selected θ on the emptied window. -/
def Obligations.UpdatesSteerAndLock : Prop :=
  (∀ (c : TimingConfig) (integrator offset : Int), c.steerMin ≤ c.steerMax →
    let v := servo c integrator offset
    v.e ≤ 2047 ∧ -2047 ≤ v.e ∧ (-2047 ≤ offset → offset ≤ 2047 → v.e = offset) ∧
      -8388608 ≤ v.integrator ∧ v.integrator ≤ 8388607 ∧ v.u = v.e * c.kp + v.integrator ∧
      v.raw = c.centre + v.u.fdiv 64 ∧ c.steerMin ≤ v.code ∧ v.code ≤ c.steerMax ∧
      ((c.steerMin : Int) ≤ v.raw → v.raw ≤ c.steerMax → (v.code : Int) = v.raw) ∧
      (v.raw < c.steerMin → v.code = c.steerMin) ∧ ((c.steerMax : Int) < v.raw → v.code = c.steerMax) ∧
      (v.frozen = true ↔ (0 < v.e ∧ (c.steerMax : Int) < v.raw) ∨ (v.e < 0 ∧ v.raw < c.steerMin))) ∧
  (∀ (offset : Int) (s : State),
    let v := servo s.tm.config s.tm.integrator offset
    (s.tm.state = .acquire →
      (servoUpdate offset s).tm.steer = v.code ∧
        (servoUpdate offset s).tm.integrator = (if v.frozen then s.tm.integrator else v.integrator) ∧
        (servoUpdate offset s).tm.history = s.tm.history ∧
        ((v.e.natAbs : Int) ≤ s.tm.config.lockWindow → 3 ≤ s.tm.goodRun →
          (servoUpdate offset s).tm.state = .locked ∧ (servoUpdate offset s).tm.goodRun = 0) ∧
        ((v.e.natAbs : Int) ≤ s.tm.config.lockWindow → s.tm.goodRun < 3 →
          (servoUpdate offset s).tm.state = .acquire ∧ (servoUpdate offset s).tm.goodRun = s.tm.goodRun + 1) ∧
        ((s.tm.config.lockWindow : Int) < v.e.natAbs →
          (servoUpdate offset s).tm.state = .acquire ∧ (servoUpdate offset s).tm.goodRun = 0)) ∧
    (s.tm.state = .locked → (v.e.natAbs : Int) ≤ 4 * s.tm.config.lockWindow →
      (servoUpdate offset s).tm.steer = v.code ∧ (servoUpdate offset s).tm.state = .locked ∧
        (servoUpdate offset s).tm.largeRun = 0 ∧
        (servoUpdate offset s).tm.integrator = (if v.frozen then s.tm.integrator else v.integrator) ∧
        (servoUpdate offset s).tm.history = (s.tm.history ++ [v.code]).drop (s.tm.history.length + 1 - 16)) ∧
    (s.tm.state = .locked → 4 * (s.tm.config.lockWindow : Int) < v.e.natAbs → s.tm.largeRun = 0 →
      (servoUpdate offset s).tm.steer = v.code ∧ (servoUpdate offset s).tm.state = .locked ∧
        (servoUpdate offset s).tm.largeRun = 1 ∧
        (servoUpdate offset s).tm.integrator = (if v.frozen then s.tm.integrator else v.integrator) ∧
        (servoUpdate offset s).tm.history = (s.tm.history ++ [v.code]).drop (s.tm.history.length + 1 - 16)) ∧
    (s.tm.state = .locked → 4 * (s.tm.config.lockWindow : Int) < v.e.natAbs → 1 ≤ s.tm.largeRun →
      (servoUpdate offset s).tm.state = .holdover ∧ (servoUpdate offset s).tm.largeRun = 0 ∧
        (servoUpdate offset s).tm.steer = holdoverCodeOf s.tm ∧
        (servoUpdate offset s).tm.holdoverCode = some (holdoverCodeOf s.tm) ∧
        (servoUpdate offset s).tm.holdoverTimer = some 0 ∧ (servoUpdate offset s).tm.expired = false ∧
        (servoUpdate offset s).tm.integrator = s.tm.integrator ∧ (servoUpdate offset s).tm.history = s.tm.history) ∧
    (s.tm.state = .holdover → (v.e.natAbs : Int) ≤ 4 * s.tm.config.lockWindow →
      (servoUpdate offset s).tm.state = .locked ∧ (servoUpdate offset s).tm.steer = v.code ∧
        (servoUpdate offset s).tm.integrator = (if v.frozen then s.tm.integrator else v.integrator) ∧
        (servoUpdate offset s).tm.history = (s.tm.history ++ [v.code]).drop (s.tm.history.length + 1 - 16) ∧
        (servoUpdate offset s).tm.holdoverTimer = none ∧ (servoUpdate offset s).tm.holdoverCode = none ∧
        (servoUpdate offset s).tm.expired = false) ∧
    (s.tm.state = .holdover → 4 * (s.tm.config.lockWindow : Int) < v.e.natAbs →
      (servoUpdate offset s).tm = { s.tm with lastE := some v.e, lastU := some v.u, lastS := some v.code } ∧
        (servoUpdate offset s).cb.live.timing =
          (countTiming .relockRefusals (countTiming .updates s)).cb.live.timing)) ∧
  (∀ (x : Exchange) (t2 t3 : BitVec 64) (plan traceable : Byte) (s : State),
    let t4 := timeNumber (arrivalRecord s).time
    let delay : Int := ((t4 : Int) - x.t1) - ((t3.toNat : Int) - t2.toNat)
    let offset : Int := (((t2.toNat : Int) - x.t1) - ((t4 : Int) - t3.toNat)).tdiv 2
    let θ := selectOffset (s.tm.window ++ [(offset, delay)])
    let w := countTiming .accepted (s.modTM fun tm =>
      { tm with outstanding := none, lostRun := 0, lastOffset := some offset, lastDelay := some delay, window := [] })
    goodAnswer x t2 t3 plan traceable s → s.tm.window.length = 7 → ¬ (s.tm.state = .acquire ∧ 20000 < θ.natAbs) →
    ∃ t, exec (.timeResp x.sequence t2 t3 plan plan traceable) s = .next t ∧
      t.tm = (servoUpdate θ w).tm ∧ t.cb.live.timing = (servoUpdate θ w).cb.live.timing)

/-- TEST_CTL (R152): START creates the responder context unless a test of the part's own is under way; STOP answers with
the context's counts and drops it. -/
def Obligations.TestControlIsAnswered : Prop :=
  ∀ (action kind mode test : Byte) (s : State), comesNext (.testCtl action kind mode test) s →
    ∃ t, exec (.testCtl action kind mode test) s = .next t ∧
      (action = 1 → testBusy s.st = false →
        t.st = { s.st with responder := some ⟨responderKindOf kind, testModeOf mode, test.toNat, 0, 0, 0⟩,
                           kept := t.st.kept } ∧
        (s.st.kept = [] → s.mc.queue.length < 8 →
          t.mc.queue = s.mc.queue ++ [.testAck 1 1 0 0 0] ∧ t.st.kept = [])) ∧
      (action = 1 → testBusy s.st = true →
        t.st = { s.st with kept := t.st.kept } ∧
        (s.st.kept = [] → s.mc.queue.length < 8 → t.mc.queue = s.mc.queue ++ [.testAck 1 0 0 0 0])) ∧
      (action ≠ 1 → t.st = { s.st with responder := none, kept := t.st.kept } ∧
        (s.st.responder = none → s.st.kept = [] → s.mc.queue.length < 8 →
          t.mc.queue = s.mc.queue ++ [.testAck 0 0 0 0 0]) ∧
        (∀ r, s.st.responder = some r → r.mode = .check → s.st.kept = [] → s.mc.queue.length < 8 →
          t.mc.queue = s.mc.queue ++ [.testAck 0 1 (BitVec.ofNat 32 r.frames) (BitVec.ofNat 48 r.bits)
            (BitVec.ofNat 32 r.errored)])) ∧
      t.mc = { s.mc with inbox := t.mc.inbox, queue := t.mc.queue } ∧ onlyCounts s t ∧
      unchangedBut [.mc, .st, .cb] s t

/-- TEST_ACK (R151, R155). START in ARMING: the acceptance starts the test, when the positions it requests fit beside the
guarantees or the Link Controller is not free; the refusal ends it ABORTED_LINK with a TEST_CTL STOP offered. STOP while the
stop answer is awaited: an accepted answer's counts are stored and judged, a refused one gives ABORTED_LINK, and an outcome
already fixed stands (R156). Any other answer is counted as unexpected and changes nothing else. -/
def Obligations.TestAckIsTaken : Prop :=
  ∀ (accepted : Byte) (frames : BitVec 32) (bits : BitVec 48) (errored : BitVec 32) (s : State),
    (comesNext (.testAck 1 accepted frames bits errored) s → s.st.state = .arming → accepted ≠ 0 →
      let sweep := s.st.kind = some .sweep
      let test := if sweep then 11 else s.st.test.getD 0
      let profile := if sweep then 0 else s.ps.active.profile
      (lcFree s = false ∨ roomFails (allocInput s) (min profile (ceiling s)) test = false) →
      ∃ t, exec (.testAck 1 accepted frames bits errored) s = .next t ∧ t.st.state = .starting ∧ t.st.reqTest = test ∧
        t.st.reqProfile = (if sweep then some 0 else none) ∧ t.st.deadline = some (frameAdd s.mp.frame 1024) ∧
        t.st.kind = s.st.kind ∧ t.st.frames = s.st.frames ∧ t.mp = s.mp ∧ t.tm = s.tm ∧ t.sf = s.sf ∧
        t.ps.active = s.ps.active ∧ t.tn.free = s.tn.free ∧ t.cp = { s.cp with reports := t.cp.reports, lost := t.cp.lost } ∧
        t.pending = s.pending) ∧
    (comesNext (.testAck 1 accepted frames bits errored) s → s.st.state = .arming → accepted = 0 →
      ∃ t, exec (.testAck 1 accepted frames bits errored) s = .next t ∧ t.st.reqTest = 0 ∧ t.st.awaiting = false ∧
        t.st.frames = s.st.frames ∧ t.st.bits = s.st.bits ∧ t.st.errored = s.st.errored ∧
        ((t.st.state = .done ∧ t.st.outcome = some .abortedLink) ∨
          (t.st.state = .stopping ∧ t.st.verdict = some .abortedLink)) ∧
        (clearOfPlans s.ps = true → t.st.state = .done) ∧
        (s.st.kind ≠ some .loop → s.st.kept = [] → s.mc.queue.length < 8 →
          t.mc.queue[s.mc.queue.length]? = some (testControl 0 s.st)) ∧
        t.ps.active = s.ps.active ∧ t.tm = s.tm ∧ t.sf = s.sf ∧ t.mp.frame = s.mp.frame ∧ t.lc.role = s.lc.role ∧
        t.pending = s.pending) ∧
    (comesNext (.testAck 0 accepted frames bits errored) s → s.st.awaiting = true →
      let judged : TestOutcome :=
        if accepted = 0 then .abortedLink
        else if min errored.toNat bits.toNat ≤ s.st.allowed.getD 0 then .passed else .failed
      let outcome := s.st.verdict.getD judged
      ∃ t, exec (.testAck 0 accepted frames bits errored) s = .next t ∧ t.st.awaiting = false ∧ t.st.deadline = none ∧
        (accepted ≠ 0 → t.st.bits = bits.toNat ∧ t.st.errored = min errored.toNat bits.toNat ∧
          t.st.farFrames = some frames.toNat) ∧
        (accepted = 0 → t.st.bits = s.st.bits ∧ t.st.errored = s.st.errored ∧ t.st.farFrames = s.st.farFrames) ∧
        (s.st.state = .stopping → clearOfPlans s.ps = true → t.st.state = .done ∧ t.st.outcome = some outcome) ∧
        (¬ (s.st.state = .stopping ∧ clearOfPlans s.ps = true) →
          t.st.state = s.st.state ∧ t.st.verdict = some outcome) ∧
        t.st.frames = s.st.frames ∧ t.ps.active = s.ps.active ∧ t.tm = s.tm ∧ t.sf = s.sf ∧ t.mp = s.mp ∧
        t.lc.role = s.lc.role ∧ t.pending = s.pending) ∧
    (∀ action : Byte, comesNext (.testAck action accepted frames bits errored) s →
      ¬ (action = 1 ∧ s.st.state = .arming) → ¬ (action = 0 ∧ s.st.awaiting = true) →
      ∃ t, exec (.testAck action accepted frames bits errored) s = .next t ∧
        t.cb.live.test = (countTest .unexpected s).cb.live.test ∧
        t.mc = { s.mc with inbox := nextWaiting s.mc.inbox } ∧ onlyCounts s t ∧ unchangedBut [.mc, .cb] s t ∧
        (s.mc.inbox = [] → t = countTest .unexpected (countChannel .messagesReceived s)))

/-! ### Plan steps -/

/-- PLAN_ACTIVATION and ADOPTED_ACTIVATION (R25, R27, R30, R32): the pending plan becomes active, the old plan previous,
and the carried counts the fallback plan; a shift ends with the link in UP (R79). That it is still in UP after the event is the
model's choice (log 25): a TEST trigger of the same event comes before the Link Controller's return. -/
def Obligations.PendingPlanBecomesActive : Prop :=
  ∀ (p : Pending) (s : State), s.ps.pending = some p →
    ∀ c, (c = Instr.planActivation ∧ p.confirmed = true ∧ p.effective = s.mp.frame) ∨
        (c = Instr.adoptedActivation ∧ p.mark = .now) →
    ∃ t, exec c s = .next t ∧ t.ps.active = p.plan ∧ t.ps.previous = some s.ps.active ∧
      t.ps.fallback = { number := p.plan.number, profile := 0, test := 0, counts := p.carried, flagged := true } ∧
      t.lc.sinceChange = 0 ∧ (s.lc.link = .shift → s.lc.stop = none → t.lc.link = .up) ∧
      t.mp.frame = s.mp.frame ∧ t.mp.composed = s.mp.composed ∧ t.tn.free = s.tn.free ∧ t.tm.time = s.tm.time ∧
      t.tm.config = s.tm.config ∧ t.lc.role = s.lc.role ∧ t.lc.identity = s.lc.identity ∧ t.lc.stop = s.lc.stop ∧
      t.mc.inbox = s.mc.inbox ∧ t.mc.restart = s.mc.restart ∧ t.sf.locked = s.sf.locked ∧
      t.st.errored = s.st.errored ∧ t.st.bits = s.st.bits ∧ onlyReports s t ∧ onlyCounts s t ∧ t.pending = s.pending

/-! ### Link steps -/

/-- JOIN_TIMEOUT (R68) and LOST_TIMEOUT (R83) enter SEARCH. A HELLO that passes the identity checks, from either side, and at
HUB a JOIN of the partner, take UP, SHIFT and LOST to SEARCH (R69), the messages behind it not being dispatched (R56), which is
all they count as (the model's reading, log 33, and for a misplaced time message its choice, log 38); a HELLO that fails them,
or of the part's own role, is counted. Any other JOIN there is counted as unexpected; that one from a site id that is not the
partner's is counted so is the model's choice (log 23). -/
def Obligations.TimeoutsAndRestartsEnterSearch : Prop :=
  (∀ (n : Nat) (j : JoinRecord) (c : Instr) (s : State), s.lc.stop = none →
    (c = .joinTimeout ∧ s.lc.link = .join ∧ s.ps.pending = none ∧ s.lc.joinRecord = some j ∧
        j.effective = s.mp.frame) ∨
      (c = .lostTimeout ∧ s.lc.link = .lost ∧ s.lc.lostCount = some n ∧ 4000 ≤ n) →
    ∃ t, exec c s = .next t ∧ enteredSearch s t ∧ t.mc.inbox = s.mc.inbox ∧ t.tm.time = s.tm.time ∧
      t.tm.config = s.tm.config ∧ t.tn.free = s.tn.free ∧ t.sf.locked = s.sf.locked ∧ onlyReports s t ∧
      onlyCounts s t ∧ t.pending = s.pending) ∧
  (∀ (role : Byte) (siteId peer : SiteId) (effective : FrameNo) (f1 f2 f3 f4 : Byte) (s : State),
    inService s.lc.link = true → s.lc.stop = none →
    (comesNext (.hello role siteId peer) s →
      (roleOf role ≠ s.lc.role → identityPasses s.lc.identity siteId peer = true →
        ∃ t, exec (.hello role siteId peer) s = .next t ∧ enteredSearch s t ∧ restNotDispatched s t ∧
          t.tn.free = s.tn.free ∧ t.tm.time = s.tm.time) ∧
      (roleOf role ≠ s.lc.role → identityPasses s.lc.identity siteId peer = false →
        ∃ t, exec (.hello role siteId peer) s = .next t ∧ onlyCounted .identityMismatches s t) ∧
      (roleOf role = s.lc.role →
        ∃ t, exec (.hello role siteId peer) s = .next t ∧ onlyCounted .roleClashes s t)) ∧
    (comesNext (.join siteId effective ⟨f1, f2, f3, f4⟩) s →
      (s.lc.role = .hub → s.lc.partner = some siteId →
        ∃ t, exec (.join siteId effective f1 f2 f3 f4) s = .next t ∧ enteredSearch s t ∧ restNotDispatched s t ∧
          t.tn.free = s.tn.free ∧ t.tm.time = s.tm.time) ∧
      (¬ (s.lc.role = .hub ∧ s.lc.partner = some siteId) →
        ∃ t, exec (.join siteId effective f1 f2 f3 f4) s = .next t ∧ onlyCounted .unexpectedMessages s t)))

/-- RETRY_WAIT_END (R79) and LC_FREE_NOTICE (R111): the wait or the notice is over, and at SITE a waiting trigger runs one
DEFERRED allocation when the Link Controller is free. RISE_EVALUATION (R75): a rise that is called for runs a PROFILE
allocation with the next profile as its target, once the boundary's frame has been taken (log 16); one that is not leaves
everything else alone. -/
def Obligations.WaitingTriggersAllocate : Prop :=
  (∀ (c : Instr) (s : State),
    (c = .retryWaitEnd ∧ s.lc.retryEnd = some s.mp.frame) ∨ (c = .lcFreeNotice ∧ s.lc.freeNotice = .now) →
    let s' := s.modLC fun lc =>
      { lc with retryEnd := if c = .retryWaitEnd then none else lc.retryEnd,
                freeNotice := if c = .retryWaitEnd then lc.freeNotice else .no }
    ∃ t, exec c s = .next t ∧
      (s.lc.role = .hub ∨ s.ca.waiting = false ∨ lcFree s' = false → t = s') ∧
      (s.lc.role = .site → s.ca.waiting = true → lcFree s' = true →
        roomFails (allocInput s) (min (standingTarget s) (ceiling s)) s.st.reqTest = false →
        t.ca.last = some (candidateFor s' .deferred (min (standingTarget s) (ceiling s)) s.st.reqTest)) ∧
      t.ps.active = s.ps.active ∧ t.tn.free = s.tn.free ∧ t.tm = s.tm ∧ t.sf = s.sf ∧ t.mp.frame = s.mp.frame ∧
      t.lc.role = s.lc.role ∧ t.pending = s.pending) ∧
  (∀ s : State, s.lc.riseDue = true → s.mp.rxTaken = true →
    let s' := s.modLC fun lc => { lc with riseDue := false }
    ∃ t, exec .riseEvaluation s = .next t ∧ (riseCalled s = false → t = s') ∧
      (riseCalled s = true →
        roomFails (allocInput s) (min (s.ps.active.profile + 1) (ceiling s)) s.st.reqTest = false →
        t.ca.last = some (candidateFor s' .profile (min (s.ps.active.profile + 1) (ceiling s)) s.st.reqTest)) ∧
      t.ps.active = s.ps.active ∧ t.tm = s.tm ∧ t.sf = s.sf ∧ t.mp.frame = s.mp.frame ∧ t.tn.free = s.tn.free ∧
      t.lc.role = s.lc.role ∧ t.pending = s.pending)

/-- STOP_ENTRY_OFF (R63): the fourth boundary of a stop enters OFF; CHANNEL_RESTART_FINISH (R55, R61) then queues the
LINK_STATE report. -/
def Obligations.StopEndsInOff : Prop :=
  (∀ (st : Stop) (s : State), s.lc.stop = some st → st.offDue = true →
    ∃ t, exec .stopEntryOff s = .next t ∧ t.lc.link = .off ∧ t.lc.stop = none ∧
      t.lc.offReport = some (s.lc.link, st.reason) ∧ t.lc.history = [] ∧ t.lc.partner = none ∧
      t.lc.joinRecord = none ∧ t.lc.proposal = none ∧ t.mc.repeatHolder = none ∧ t.mc.timeHolder = none ∧
      t.mc.queue = [] ∧ t.mc.restart = .next ∧ t.ps.pending = none ∧ t.ps.active = s.ps.active ∧ t.ps.idleDue ≠ .no ∧
      t.lc.identity = s.lc.identity ∧ t.lc.role = s.lc.role ∧ t.tn.free = s.tn.free ∧ t.tm.time = s.tm.time ∧
      t.mp.frame = s.mp.frame ∧ onlyCounts s t ∧ t.pending = s.pending) ∧
  (∀ s : State, s.mc.restart = .now →
    ∃ t, exec .channelRestartFinish s = .next t ∧ t.mc = { s.mc with restart := .no } ∧
      t.lc = { s.lc with offReport := none } ∧
      (s.lc.offReport = none → t.cp = s.cp ∧ t.cb = s.cb) ∧
      (∀ old reason, s.lc.offReport = some (old, reason) → s.cp.reports.length < 32 →
        t.cp.reports = s.cp.reports ++ [⟨.linkState, 0, s.mp.frame,
          [linkStateCode .off, linkStateCode old, linkCauseCode .stop, reason, 0, 0, 0, 0]⟩]) ∧
      onlyReports s t ∧ onlyCounts s t ∧ unchangedBut [.mc, .lc, .cb, .cp] s t)

/-- STATUS_BUILD (R71): in UP and SHIFT, unless a stop is in progress, the STATUS of the boundary is offered after the
boundary's sample has been appended (log 16). STATUS (R72, R108): the far figures, hold flags and demands are stored, and the
message is counted. QUEUE_RETRY_OFFER (R45): kept messages, none of them a STATUS, join the queue oldest first when there is
room for all of them; when the oldest was refused at this boundary, the retry is that of the next boundary (log 4). -/
def Obligations.StatusAndKeptMessagesAreOffered : Prop :=
  (∀ s : State, s.lc.statusDue = true → inPair s.lc.link = true → s.lc.stop = none → s.mp.rxTaken = true →
    ∃ t, exec .statusBuild s = .next t ∧
      (s.lc.kept = [] → s.mc.queue.length < 8 → s.mc.queue.any isStatus = false →
        t.mc.queue = s.mc.queue ++
          [.status (BitVec.ofNat 16 (fastMinimum s.lc.history)) (BitVec.ofNat 16 (slowMean s.lc.history))
            (s.ca.demands.map (BitVec.ofNat 8)) (holdCode (s.tn.tenants.map (·.hold)))] ∧ t.lc.kept = []) ∧
      t.mc = { s.mc with queue := t.mc.queue } ∧ t.lc = { s.lc with statusDue := false, kept := t.lc.kept } ∧
      onlyCounts s t ∧ unchangedBut [.mc, .lc, .cb] s t) ∧
  (∀ (fast slow : BitVec 16) (d1 d2 d3 d4 hold : Byte) (s : State),
    comesNext (.status fast slow ⟨d1, d2, d3, d4⟩ hold) s → inPair s.lc.link = true → s.lc.stop = none →
    ∃ t, exec (.status fast slow d1 d2 d3 d4 hold) s = .next t ∧
      t.lc = { s.lc with farFast := min fast.toNat 400, farSlow := min slow.toNat 400,
                         farHold := ⟨hold.getLsbD 3, hold.getLsbD 2, hold.getLsbD 1, hold.getLsbD 0⟩ } ∧
      t.ca = { s.ca with farDemands := ⟨min d1.toNat 63, min d2.toNat 63, min d3.toNat 63, min d4.toNat 63⟩ } ∧
      t.cb.live.link = (countLink .statusReceived s).cb.live.link ∧
      t.mc = { s.mc with inbox := t.mc.inbox } ∧ onlyCounts s t ∧ unchangedBut [.mc, .lc, .ca, .cb] s t) ∧
  (∀ (p : Producer) (s : State),
      let ks := keptOf p s
      ks ≠ [] → (p = .linkController → s.lc.retryDue = true) → (p = .selfTest → s.st.retryDue = true) →
      (∀ k ∈ ks, k.fresh = false ∧ isStatus k.message = false) → s.mc.queue.length + ks.length ≤ 8 →
      ∃ t, exec (.queueRetryOffer p) s = .next t ∧ t.mc = { s.mc with queue := s.mc.queue ++ ks.map (·.message) } ∧
        keptOf p t = [] ∧ t.lc = { s.lc with kept := t.lc.kept, retryDue := t.lc.retryDue } ∧
        t.st = { s.st with kept := t.st.kept, retryDue := t.st.retryDue } ∧ onlyCounts s t ∧
        unchangedBut [.mc, .lc, .st, .cb] s t) ∧
  (∀ (p : Producer) (k : KeptMessage) (ks : List KeptMessage) (s : State), keptOf p s = k :: ks → k.fresh = true →
    s.mp.composed = true → exec (.queueRetryOffer p) s = exec (.queueRetryOffer p) (openBoundary s))

/-! ### Capacity and tenants -/

/-- DEMAND_WINDOW_CLOSE (R107): each tenant's demand is the positions that its admitted and unsent bytes need over 256
frames, at most 63, and the sums start again. -/
def Obligations.DemandWindowCloses : Prop :=
  ∀ s : State, s.ca.windowDue = true →
    let unsent := if s.mp.composed then s.tn.unsent else s.tn.tenants.map unsentBytes
    ∃ t, exec .demandWindowClose s = .next t ∧
      (∀ n : Tenant, t.ca.demands.get n = min ((s.ca.sums.get n + unsent.get n + 196095) / 196096) 63) ∧
      t.ca.sums = PerTenant.const 0 ∧ t.ca.windowDue = false ∧ t.ca.farDemands = s.ca.farDemands ∧
      (s.lc.role = .hub → t.ca.last = s.ca.last ∧ t.ps = s.ps ∧ t.lc = s.lc) ∧
      t.ps.active = s.ps.active ∧ t.tn.free = s.tn.free ∧ t.tm = s.tm ∧ t.sf = s.sf ∧ t.mp.frame = s.mp.frame ∧
      t.lc.role = s.lc.role ∧ t.pending = s.pending

/-- PACKET_ARRIVAL (R95): an admitted packet joins the queue whole and takes its blocks; one that fails a check is dropped whole
and counted, with nothing else changed. DRAIN_FLUSH (R90): the queue is emptied and its blocks freed, and the flushed mark
set while the tenant stays DRAINING. -/
def Obligations.TenantQueuesFillAndDrain : Prop :=
  (∀ (n : Tenant) (packet : List Byte) (s : State),
    let r := tenantRec s n
    let blocks := (packet.length + 255) / 256
    let lengthFits := 64 ≤ packet.length ∧ packet.length ≤ 2048
    let room := occupancy r + blocks ≤ allowance s.ps.active n r ∧ blocks ≤ unreservedFree s.tn + r.ready.getD 0
    (¬ lengthFits → exec (.packetArrival n packet) s = .next (countTenant n .lengthErrors s)) ∧
    (lengthFits → (r.state ≠ .active ∨ ¬ room) →
      exec (.packetArrival n packet) s = .next (countTenant n .admissionDrops s)) ∧
    (lengthFits → r.state = .active → room → ∃ t, exec (.packetArrival n packet) s = .next t ∧
      (tenantRec t n).queue = r.queue ++ [⟨packet.length, 0, packet⟩] ∧ t.tn.free = s.tn.free - blocks ∧
      t.ca = { s.ca with sums := s.ca.sums.set n (s.ca.sums.get n + packet.length) } ∧
      t.cb = (countTenant n .packetsAdmitted s).cb ∧
      (∀ m, m ≠ n → (tenantRec t m).queue = (tenantRec s m).queue ∧ (tenantRec t m).state = (tenantRec s m).state) ∧
      (tenantRec t n).state = r.state ∧ (tenantRec t n).config = r.config ∧
      unchangedBut [.tn, .ca, .cb] s t)) ∧
  (∀ (n : Tenant) (d : Drain) (s : State), (tenantRec s n).state = .draining → (tenantRec s n).drain = some d →
    d.flushed = false → s.mp.frame = frameAdd d.start 4000 →
    ∃ t, exec (.drainFlush n) s = .next t ∧ (tenantRec t n).queue = [] ∧
      t.tn.free = s.tn.free + occupancy (tenantRec s n) ∧ (tenantRec t n).config = (tenantRec s n).config ∧
      ((tenantRec t n).state = .draining → (tenantRec t n).drain = some { d with flushed := true }) ∧
      ((tenantRec t n).state = .draining ∨ (tenantRec t n).state = .closed) ∧
      (∀ m, m ≠ n → (tenantRec t m).queue = (tenantRec s m).queue) ∧ t.ps.active = s.ps.active ∧ t.tm = s.tm ∧
      t.mp.frame = s.mp.frame ∧ t.lc.role = s.lc.role ∧ t.pending = s.pending)

/-! ### Timing -/

/-- EXCHANGE_LOST (R132): the exchange is dropped and counted; the eighth in a row in LOCKED enters HOLDOVER.
HOLDOVER_EXPIRED (R140): the limit sets the expired flag. -/
def Obligations.LostExchangesAndExpiry : Prop :=
  (∀ (x : Exchange) (s : State), s.tm.outstanding = some x → s.mp.frame = frameAdd x.frame 17 →
    ∃ t, exec .exchangeLost s = .next t ∧ t.tm.outstanding = none ∧
      (¬ (s.tm.state = .locked ∧ s.tm.lostRun = 7) →
        t = countTiming .lost
          (s.modTM fun tm => { tm with outstanding := none, lostRun := min (tm.lostRun + 1) 255 })) ∧
      (s.tm.state = .locked → s.tm.lostRun = 7 → t.tm.state = .holdover ∧ t.tm.expired = false ∧
        t.tm.holdoverTimer = some 0 ∧ t.tm.holdoverCode = some t.tm.steer) ∧
      t.tm.time = s.tm.time ∧ t.ps.active = s.ps.active ∧ t.lc.role = s.lc.role ∧ t.pending = s.pending) ∧
  (∀ (n : Nat) (s : State), s.tm.state = .holdover → s.tm.expired = false → s.tm.holdoverTimer = some n →
    s.tm.config.holdoverLimit * 120000 ≤ n →
    ∃ t, exec .holdoverExpired s = .next t ∧
      t.tm = { s.tm with expired := true, pps := false } ∧
      t.ps.active = s.ps.active ∧ t.lc.role = s.lc.role ∧ t.pending = s.pending)

/-- REFERENCE_PULSE and REFERENCE_TIMEOUT (R127): at HUB the pulse is judged against the one before; at SITE it has no effect (log 18).
SECONDS_ROLLOVER (R124, R141): the counter carries into the seconds, and a pulse is driven at SITE while the timing state
allows it. A step of the counter past either end of its range goes round (the model's choice, log 30). -/
def Obligations.TimingEventsAreJudged : Prop :=
  ((∀ (elapsed : Nat) (record : Option (BitVec 32)) (s : State), s.lc.role = .site →
    exec (.referencePulse elapsed record) s = .next s) ∧
  (∀ (elapsed : Nat) (record : BitVec 32) (q : RefPulse) (s : State), s.lc.role = .hub → s.tm.pulse = some q →
    ∃ t, exec (.referencePulse elapsed (some record)) s = .next t ∧ t.tm.pulse = some ⟨some record, 0⟩ ∧
      (q.record = some (record - 1) → s.tm.state = .reference →
        t.tm.state = .reference ∧ t.tm.time = ⟨record, 0⟩) ∧
      (q.record = some (record - 1) → s.tm.state ≠ .reference → q.age ≤ 2200 →
        t.tm.state = .reference ∧ t.tm.time = ⟨record, 0⟩) ∧
      (q.record ≠ some (record - 1) → s.tm.state = .reference →
        t.tm.state = .referenceLost ∧ t.tm.time = advanceTime elapsed s.tm.time) ∧
      (s.tm.state ≠ .reference → (q.record ≠ some (record - 1) ∨ 2200 < q.age) →
        t = (advanceCounter elapsed s).modTM fun tm => { tm with pulse := some ⟨some record, 0⟩ }) ∧
      t.tm.steer = s.tm.steer ∧ t.tm.config = s.tm.config ∧ t.ps.active = s.ps.active ∧ t.lc.role = s.lc.role ∧
      t.pending = s.pending) ∧
  (∀ (q : RefPulse) (s : State), s.tm.state = .reference → s.tm.pulse = some q → 2200 ≤ q.age →
    ∃ t, exec .referenceTimeout s = .next t ∧ t.tm.state = .referenceLost ∧ t.tm.time = s.tm.time ∧
      t.ps.active = s.ps.active ∧ t.lc.role = s.lc.role ∧ t.pending = s.pending)) ∧
  (∀ (elapsed : Nat) (s : State), 1000000000 ≤ s.tm.time.nanos + elapsed →
    ∃ t, exec (.secondsRollover elapsed) s = .next t ∧
      t.tm = { s.tm with
        time := ⟨s.tm.time.seconds + BitVec.ofNat 32 ((s.tm.time.nanos + elapsed) / 1000000000),
                 (s.tm.time.nanos + elapsed) % 1000000000⟩,
        pps := s.tm.pps || (s.lc.role == .site &&
          (s.tm.state == .locked || (s.tm.state == .holdover && !s.tm.expired))) } ∧
      unchangedBut [.tm] s t) ∧
  (∀ (offset : Int) (time : Time), time.nanos < 1000000000 →
    (timeNumber (moveTime offset time) : Int) = (timeNumber time + offset) % 4294967296000000000)

/-! ### Self-test -/

/-- TEST_ARMING_DEADLINE, TEST_START_DEADLINE (R151, R158, R159) end the test ABORTED_LINK; STOP_ANSWER_DEADLINE (R155)
ends the wait for the stop answer. -/
def Obligations.TestDeadlinesEndTheTest : Prop :=
  ∀ s : State, s.st.deadline = some s.mp.frame →
    (∀ c, (c = Instr.testArmingDeadline ∧ s.st.state = .arming) ∨
        (c = Instr.testStartDeadline ∧
          (s.st.state = .starting ∨ (s.st.state = .running ∧ s.st.kind = some .sweep))) →
      ∃ t, exec c s = .next t ∧ t.st.reqTest = 0 ∧ t.st.frames = s.st.frames ∧ t.st.bits = s.st.bits ∧
        t.st.errored = s.st.errored ∧
        ((t.st.state = .done ∧ t.st.outcome = some .abortedLink) ∨
          (t.st.state = .stopping ∧ t.st.verdict = some .abortedLink)) ∧
        (clearOfPlans s.ps = true → t.st.state = .done) ∧
        t.ps.active = s.ps.active ∧ t.tm = s.tm ∧ t.sf = s.sf ∧ t.mp.frame = s.mp.frame ∧ t.lc.role = s.lc.role ∧
        t.pending = s.pending) ∧
    (s.st.awaiting = true → ∃ t, exec .stopAnswerDeadline s = .next t ∧ t.st.awaiting = false ∧
      t.st.deadline = none ∧ t.st.bits = s.st.bits ∧ t.st.errored = s.st.errored ∧
      (s.st.state = .stopping → clearOfPlans s.ps = true →
        t.st.state = .done ∧ t.st.outcome = some (s.st.verdict.getD .abortedLink)) ∧
      t.ps.active = s.ps.active ∧ t.tm = s.tm ∧ t.sf = s.sf ∧ t.mp = s.mp ∧ t.lc.role = s.lc.role ∧
      t.pending = s.pending)

/-- STAGE_COMPLETE (R159, R160): the next stage is requested while it stands at or below the ceiling; after the last the
sweep ends and its stage table sets the commissioned ceiling. -/
def Obligations.SweepStageCompletes : Prop :=
  ∀ (a : FrameNo) (s : State), s.st.kind = some .sweep → s.st.state = .running →
    s.st.stageActive = some (s.st.stagesComplete, a) → s.mp.frame = frameAdd a 2051 →
    (lcFree s = false ∨ guaranteeSum (allocInput s) = 0) →
    let p := s.st.stagesComplete
    ∃ t, exec .stageComplete s = .next t ∧ t.st.stagesComplete = p + 1 ∧ t.st.bits = s.st.bits ∧
      t.st.errored = s.st.errored ∧ t.st.stages = s.st.stages ∧
      (p < 5 → p + 1 ≤ ceiling s →
        t.st.state = .running ∧ t.st.reqProfile = some (p + 1) ∧ t.st.reqTest = usable (p + 1) - 1 ∧
        t.st.stageWanted = p + 1 ∧ t.st.deadline = some (frameAdd s.mp.frame 1024)) ∧
      ((5 ≤ p ∨ ceiling s < p + 1) →
        t.st.commissioned =
          ((s.st.stages.take (p + 1)).takeWhile fun e => e.any fun x => x.errored == 0).length - 1 ∧
        t.st.reqTest = 0 ∧ (t.st.state = .stopping ∨ t.st.state = .done)) ∧
      t.ps.active = s.ps.active ∧ t.tm = s.tm ∧ t.sf = s.sf ∧ t.mp.frame = s.mp.frame ∧ t.lc.role = s.lc.role ∧
      t.pending = s.pending

/-! ### Counters -/

/-- COUNTERS_SNAPSHOT and SNAPSHOT_CAPTURE (R176, R177): the request waits for the capture; the capture copies every live
counter as it stands, zeroes them when the clear flag asks, and sends the reply. -/
def Obligations.SnapshotIsCaptured : Prop :=
  (∀ (clear tag : Byte) (s : State), handsOver 0x50 [clear] tag s →
    ∃ t, exec (.countersSnapshot clear) s = .next t ∧ t.cp = { s.cp with service := .capturing } ∧
      t.cb = { (countControl .requestsServed s).cb with pending := some (clear != 0), captureDue := .next } ∧
      unchangedBut [.cb, .cp] s t) ∧
  (∀ (clear : Bool) (r : Request) (rest : List Request) (s : State),
    s.cb.captureDue = .now → s.cb.pending = some clear → s.cp.service = .capturing → s.cp.buffer = r :: rest →
    ∃ t, exec .snapshotCapture s = .next t ∧
      t.cb = { live := if clear then Bank.zero else s.cb.live, snapshot := s.cb.live, valid := true,
               capture := some (s.mp.frame, clear), pending := none, captureDue := .no, beforeArea := none } ∧
      t.cp = { s.cp with service := .replying (replyFrame r .ok (enc16 s.mp.frame.toNat ++ encFlag clear)) } ∧
      unchangedBut [.cb, .cp] s t)

/-! ### The control line -/

/-- CONTROL_FRAME_RECEIVED (R164 to R166): the characters of a frame of the line, from outside a frame, put its request into
the input buffer, or are discarded and counted when that holds two. CONTROL_LINE_ERROR and CONTROL_GAP_TIMEOUT (R163, R165): a
frame in progress is discarded and counted; outside a frame nothing is counted; characters before the event are taken
first. -/
def Obligations.ControlLineIsReceived : Prop :=
  (∀ (kind tag : Byte) (body : List Byte) (s : State),
      s.cp.receiver = .outside → s.cp.resetDue = false → body.length ≤ 250 → s.cp.buffer.length < 2 →
      ∃ t, exec (.controlFrameReceived (lineFrame kind tag body)) s = .next t ∧
        t.cp.buffer = s.cp.buffer ++ [⟨kind, tag, body⟩] ∧ t.cp.receiver = .outside ∧
        t.cp = { s.cp with receiver := .outside, buffer := t.cp.buffer, service := t.cp.service } ∧
        (s.cp.service ≠ .idle → t.cp.service = s.cp.service) ∧
        (s.cp.service = .idle → s.cp.buffer = [] → requestLength kind = some body.length → t.cp.service = .handed) ∧
        onlyCounts s t ∧ unchangedBut [.cb, .cp] s t) ∧
  (∀ (kind tag : Byte) (body : List Byte) (s : State),
    s.cp.receiver = .outside → s.cp.resetDue = false → body.length ≤ 250 → 2 ≤ s.cp.buffer.length →
    exec (.controlFrameReceived (lineFrame kind tag body)) s = .next (countControl .bufferOverflows s)) ∧
  ∀ (chars gathered : List Byte) (s : State), s.cp.resetDue = false →
    (s.cp.receiver = .inside gathered →
      exec (.controlLineError []) s =
        .next (countControl .lineErrors (s.modCP fun cp => { cp with receiver := .outside })) ∧
      exec (.controlGapTimeout []) s =
        .next (countControl .gapDiscards (s.modCP fun cp => { cp with receiver := .outside }))) ∧
    (s.cp.receiver = .outside → exec (.controlLineError []) s = .next s ∧ exec (.controlGapTimeout []) s = .next s) ∧
    (∃ t, exec (.controlFrameReceived chars) s = .next t ∧ t.cp.resetDue = false ∧
      exec (.controlLineError chars) s = exec (.controlLineError []) t ∧
      exec (.controlGapTimeout chars) s = exec (.controlGapTimeout []) t)

/-- REPLY_SENT (R166, R167, R174): the request leaves the buffer; after the reply to a PART_RESET the reset is due, and
otherwise the next request is served: PART_RESET itself is answered OK. -/
def Obligations.ReplyEndsTheRequest : Prop :=
  (∀ (frame : List Byte) (r : Request) (rest : List Request) (s : State),
    s.cp.service = .replying frame → s.cp.buffer = r :: rest →
    ∃ t, exec .replySent s = .next t ∧ t.cp.buffer = rest ∧
      (r.kind = 0x02 → r.body = [] → t = s.modCP fun cp => { cp with buffer := rest, service := .idle, resetDue := true }) ∧
      (¬ (r.kind = 0x02 ∧ r.body = []) → t.cp.resetDue = s.cp.resetDue ∧
        (rest = [] → t = s.modCP fun cp => { cp with buffer := [], service := .idle }) ∧
        (∀ q more, rest = q :: more → requestLength q.kind = some q.body.length → t.cp.service = .handed) ∧
        (∀ q more, rest = q :: more → requestLength q.kind = none →
          t.cp.service = .replying (replyFrame q .unknown [])) ∧
        (∀ q more n, rest = q :: more → requestLength q.kind = some n → n ≠ q.body.length →
          t.cp.service = .replying (replyFrame q .badArg []))) ∧
      t.cp.reports = s.cp.reports ∧ onlyCounts s t ∧ unchangedBut [.cb, .cp] s t) ∧
  (∀ (tag : Byte) (s : State), handsOver 0x02 [] tag s →
    ∃ t, exec .partReset s = .next t ∧ replies 0x02 tag .ok [] t ∧ onlyAnswered s t)

/-- A request that finds the Control Port at rest joins its empty buffer and is handed over; one that is not the request
handed over, while another is in the buffer, changes nothing (the model's choice, log 8). -/
def Obligations.RequestIsHandedOver : Prop :=
  ∀ (c : Instr) (kind : Byte) (body : List Byte) (s : State), requestOf c = some (kind, body) →
    (s.cp.service = .idle → s.cp.buffer = [] → s.cp.resetDue = false →
      exec c s = exec c (s.modCP fun cp => { cp with buffer := [⟨kind, 0, body⟩], service := .handed })) ∧
    (∀ (r : Request) (rest : List Request), s.cp.buffer = r :: rest →
      (s.cp.service ≠ .handed ∨ r.kind ≠ kind ∨ r.body ≠ body) → exec c s = .next s)

/-! ### Requests -/

/-- The requests that read the part: each answers OK with its content and changes nothing else (R37, R84, R122, R144, R162);
TENANT_STATUS and COUNTERS_READ (R105, R179) answer OK with the content, or refuse the named tenant, group or missing
snapshot, and change nothing else either. Where the spec leaves the layout of a content open, it is the model's (log 11). -/
def Obligations.ReadRequestsChangeNothing : Prop :=
  (∀ (c : Instr) (kind tag : Byte) (content : State → List Byte) (s : State),
    (c, kind, content) ∈
      ([(.partInfo, 0x01, partInfoContent), (.linkStatus, 0x14, linkStatusContent), (.planRead, 0x15, planReadContent),
        (.allocStatus, 0x29, allocStatusContent), (.timingStatus, 0x32, timingStatusContent), (.testResult, 0x42, fun s => testResultContent s.st)] :
        List (Instr × Byte × (State → List Byte))) →
    handsOver kind [] tag s →
    ∃ t, exec c s = .next t ∧ replies kind tag .ok (content s) t ∧ onlyAnswered s t) ∧
  ((∀ (number tag : Byte) (s : State), handsOver 0x24 [number] tag s →
    ∃ t, exec (.tenantStatus number) s = .next t ∧ onlyAnswered s t ∧
      (∀ n : Tenant, number.toNat = n.number → replies 0x24 tag .ok (tenantStatusContent n s) t) ∧
      (number.toNat = 0 ∨ 4 < number.toNat → replies 0x24 tag .badArg [] t)) ∧
  (∀ (selector tag : Byte) (s : State), handsOver 0x51 [selector] tag s →
    ∃ t, exec (.countersRead selector) s = .next t ∧ onlyAnswered s t ∧
      (selector.toNat = 0 ∨ 9 < selector.toNat → replies 0x51 tag .badArg [] t) ∧
      (1 ≤ selector.toNat → selector.toNat ≤ 9 → s.cb.valid = false → replies 0x51 tag .state [] t) ∧
      (∀ counters frame cleared, groupOf selector.toNat s.cb.snapshot = some counters → s.cb.valid = true →
        s.cb.capture = some (frame, cleared) →
        replies 0x51 tag .ok ([selector] ++ enc16 frame.toNat ++ encFlag cleared ++ enc16 s.mp.frame.toNat ++
          counters.flatMap enc32) t)))

/-- TIME_READ (R145): OK with the frame-start time of the current frame, that frame's number and the timing state; it
changes no state. -/
def Obligations.TimeReadGivesTheFrameStart : Prop :=
  ∀ (tag : Byte) (s : State), handsOver 0x33 [] tag s →
    ∃ t, exec .timeRead s = .next t ∧ onlyAnswered s t ∧
      replies 0x33 tag .ok
        (enc32 s.tm.current.time.seconds.toNat ++ enc32 s.tm.current.time.nanos ++ enc16 s.tm.current.frame.toNat ++
          [timingStateCode s.tm.state]) t ∧
      t.tm = s.tm

/-- REPORTS_FETCH (R171), its two numbers of one byte each by the model's choice (log 11), and ATTN_ENABLE (R172). -/
def Obligations.ReportsAndAttention : Prop :=
  (∀ (tag : Byte) (s : State), handsOver 0x03 [] tag s →
    ∃ t, exec .reportsFetch s = .next t ∧ t.cp.reports = s.cp.reports.drop 8 ∧ t.cp.lost = false ∧
      replies 0x03 tag .ok
        (enc8 (min 8 s.cp.reports.length) ++ encFlag s.cp.lost ++ enc8 (s.cp.reports.length - 8) ++
          (s.cp.reports.take 8).flatMap reportBytes) t ∧
      t.cp = { s.cp with reports := t.cp.reports, lost := false, service := t.cp.service } ∧ onlyCounts s t ∧
      unchangedBut [.cb, .cp] s t) ∧
  (∀ (enable tag : Byte) (s : State), handsOver 0x04 [enable] tag s →
    ∃ t, exec (.attnEnable enable) s = .next t ∧
      t.cp = { s.cp with attention := enable != 0, service := t.cp.service } ∧
      replies 0x04 tag .ok [if enable = 0 then 0 else 1] t ∧
      attentionLine t = (enable != 0 && !s.cp.reports.isEmpty) ∧
      t.cb = (countControl .requestsServed s).cb ∧ unchangedBut [.cb, .cp] s t)

/-- SET_SITE_ID (R59), LINK_CONFIG (R42, R60) and LINK_STOP (R63). LINK_START (R62): refused with STATE outside OFF, without an
identity, or with a LOOP test under way; otherwise the link enters SEARCH. -/
def Obligations.LinkRequestsStoreStartAndStop : Prop :=
  (∀ (siteId peer : SiteId) (tag : Byte) (s : State),
    handsOver 0x10 (enc32 siteId.toNat ++ enc32 peer.toNat) tag s →
    ∃ t, exec (.setSiteId siteId peer) s = .next t ∧
      (s.lc.identity = none → t.lc = { s.lc with identity := some ⟨siteId, peer⟩ } ∧ replies 0x10 tag .ok [] t) ∧
      (s.lc.identity ≠ none → t.lc = s.lc ∧ replies 0x10 tag .locked [] t) ∧
      t.cb = (countControl .requestsServed s).cb ∧ t.cp = { s.cp with service := t.cp.service } ∧
      unchangedBut [.lc, .cb, .cp] s t) ∧
  (∀ (hostMax hysteresis lead flags tag : Byte) (s : State), handsOver 0x11 [hostMax, hysteresis, lead, flags] tag s →
    ∃ t, exec (.linkConfig hostMax hysteresis lead flags) s = .next t ∧
      t.lc = { s.lc with hostMax := min hostMax.toNat 5, hysteresis := min hysteresis.toNat 50,
                         lead := max 8 (min lead.toNat 255) } ∧
      t.mc = { s.mc with flagCount := max 1 (min flags.toNat 2) } ∧
      replies 0x11 tag .ok
        (enc8 t.lc.hostMax ++ enc8 t.lc.hysteresis ++ enc8 t.lc.lead ++ enc8 t.mc.flagCount) t ∧
      t.cb = (countControl .requestsServed s).cb ∧ t.cp = { s.cp with service := t.cp.service } ∧
      unchangedBut [.lc, .mc, .cb, .cp] s t) ∧
  (∀ (reason tag : Byte) (s : State), handsOver 0x13 [reason] tag s →
    ∃ t, exec (.linkStop reason) s = .next t ∧
      (s.lc.link = .off → replies 0x13 tag .state [] t ∧ t.lc = s.lc ∧ t.mc = s.mc) ∧
      (s.lc.link ≠ .off → s.lc.stop ≠ none → replies 0x13 tag .busy [] t ∧ t.lc = s.lc ∧ t.mc = s.mc) ∧
      (s.lc.link ≠ .off → s.lc.stop = none → replies 0x13 tag .accepted [] t ∧
        t.lc = { s.lc with stop := some ⟨3, if reason = 1 then 1 else 0, false⟩ } ∧
        t.mc = { s.mc with repeatHolder := some (.bye (if reason = 1 then 1 else 0)) }) ∧
      t.cb = (countControl .requestsServed s).cb ∧ t.cp = { s.cp with service := t.cp.service } ∧
      unchangedBut [.lc, .mc, .cb, .cp] s t) ∧
  ∀ (tag : Byte) (s : State), handsOver 0x12 [] tag s →
    ∃ t, exec .linkStart s = .next t ∧
      ((s.lc.link ≠ .off ∨ s.lc.identity = none ∨
          (s.st.kind = some .loop ∧ (s.st.state = .running ∨ s.st.state = .stopping))) →
        replies 0x12 tag .state [] t ∧ onlyAnswered s t) ∧
      (s.lc.link = .off → s.lc.identity ≠ none →
        ¬ (s.st.kind = some .loop ∧ (s.st.state = .running ∨ s.st.state = .stopping)) →
        replies 0x12 tag .ok [] t ∧ enteredSearch s t ∧ t.tm.state = s.tm.state ∧ t.tm.time = s.tm.time ∧
        t.tn.free = s.tn.free ∧ t.mp = s.mp) ∧
      t.cp = { s.cp with reports := t.cp.reports, lost := t.cp.lost, service := t.cp.service } ∧ t.pending = s.pending

/-- TENANT_CONFIG (R86): a tenant number outside 1..4 refused with BAD_ARG; the values brought into range; the refusals in the
rule's order; the stored values answered.
ALLOC_MODE (R118): the mode and the four counts, each at most 63, are stored and answered; at HUB nothing else changes. -/
def Obligations.AllocationSettingsAreStored : Prop :=
  (∀ (number committed weight ceil : Byte) (queueLimit : BitVec 16) (burst fill sync tag : Byte) (s : State),
    number.toNat = 0 ∨ 4 < number.toNat →
    handsOver 0x20 ([number, committed, weight, ceil] ++ enc16 queueLimit.toNat ++ [burst, fill, sync]) tag s →
    ∃ t, exec (.tenantConfig number committed weight ceil queueLimit burst fill sync) s = .next t ∧
      replies 0x20 tag .badArg [] t ∧ onlyAnswered s t) ∧
  (∀ (n : Tenant) (number committed weight ceil : Byte) (queueLimit : BitVec 16) (burst fill sync tag : Byte) (s : State),
    number.toNat = n.number →
    handsOver 0x20 ([number, committed, weight, ceil] ++ enc16 queueLimit.toNat ++ [burst, fill, sync]) tag s →
    let c : TenantConfig :=
      { committed := min committed.toNat 11, weight := max 1 (min weight.toNat 15), ceiling := min ceil.toNat 63,
        queueLimit := max 8 (min queueLimit.toNat 512), burst := max 1 (min burst.toNat 8), fill := fill,
        syncDependent := sync != 0 }
    ∃ t, exec (.tenantConfig number committed weight ceil queueLimit burst fill sync) s = .next t ∧
      ((c.ceiling < c.committed ∨ fill.toNat < 0x10) → replies 0x20 tag .badArg [] t ∧ t.tn = s.tn) ∧
      (c.committed ≤ c.ceiling → 0x10 ≤ fill.toNat → (tenantRec s n).state ≠ .closed →
        11 < committedOthers s.tn n + c.committed → replies 0x20 tag .noRoom [] t ∧ t.tn = s.tn) ∧
      (c.committed ≤ c.ceiling → 0x10 ≤ fill.toNat →
        ((tenantRec s n).state = .closed ∨ committedOthers s.tn n + c.committed ≤ 11) →
        replies 0x20 tag .ok (configFields c) t ∧ (tenantRec t n).config = c ∧
        ((tenantRec s n).state ≠ .draining → (tenantRec t n).state = (tenantRec s n).state) ∧
        (tenantRec t n).queue = (tenantRec s n).queue ∧
        (s.lc.role = .site → (tenantRec t n).syncOk = (!c.syncDependent || pulsing s.tm))) ∧
      t.tn.free = s.tn.free ∧ t.ps.active = s.ps.active ∧ t.tm = s.tm ∧ t.mp.frame = s.mp.frame ∧
      t.lc.role = s.lc.role ∧ t.pending = s.pending) ∧
  (∀ (mode f1 f2 f3 f4 tag : Byte) (s : State), handsOver 0x28 [mode, f1, f2, f3, f4] tag s →
    let counts : PerTenant Nat := ⟨min f1.toNat 63, min f2.toNat 63, min f3.toNat 63, min f4.toNat 63⟩
    ∃ t, exec (.allocMode mode f1 f2 f3 f4) s = .next t ∧ t.ca.fixed = (mode == 1) ∧ t.ca.fixedCounts = counts ∧
      replies 0x28 tag .ok (encFlag (mode == 1) ++ counts.toList.flatMap enc8) t ∧
      (s.lc.role = .hub → t.ca = { s.ca with fixed := mode == 1, fixedCounts := counts } ∧
        t.cb = (countControl .requestsServed s).cb ∧ t.cp = { s.cp with service := t.cp.service } ∧
        unchangedBut [.ca, .cb, .cp] s t) ∧
      t.ps.active = s.ps.active ∧ t.tn.free = s.tn.free ∧ t.tm = s.tm ∧ t.mp.frame = s.mp.frame ∧ t.pending = s.pending)

/-- TENANT_OPEN (R87), TENANT_CLOSE (R89) and TENANT_FLUSH (R99), and their refusal with BAD_ARG of a tenant number outside
1..4. -/
def Obligations.TenantOpensDrainsAndFlushes : Prop :=
  (∀ (n : Tenant) (number tag : Byte) (s : State), number.toNat = n.number →
      (handsOver 0x21 [number] tag s → ∃ t, exec (.tenantOpen number) s = .next t ∧
        ((tenantRec s n).state ≠ .closed → replies 0x21 tag .state [] t ∧ onlyAnswered s t) ∧
        ((tenantRec s n).state = .closed → 11 < committedOthers s.tn n + (tenantRec s n).config.committed →
          replies 0x21 tag .noRoom [] t ∧ onlyAnswered s t) ∧
        ((tenantRec s n).state = .closed → committedOthers s.tn n + (tenantRec s n).config.committed ≤ 11 →
          replies 0x21 tag .ok [] t ∧ (tenantRec t n).state = .active ∧
          (tenantRec t n).queue = (tenantRec s n).queue ∧ (tenantRec t n).config = (tenantRec s n).config ∧
          t.tn.free = s.tn.free ∧ t.ps.active = s.ps.active)) ∧
      (handsOver 0x22 [number] tag s → ∃ t, exec (.tenantClose number) s = .next t ∧
        ((tenantRec s n).state ≠ .active → replies 0x22 tag .state [] t ∧ onlyAnswered s t) ∧
        ((tenantRec s n).state = .active → replies 0x22 tag .ok [] t ∧
          (((tenantRec t n).state = .draining ∧ (tenantRec t n).drain = some ⟨s.mp.frame, false⟩) ∨
            (tenantRec t n).state = .closed) ∧
          (tenantRec t n).queue = (tenantRec s n).queue ∧ t.tn.free = s.tn.free ∧ t.ps.active = s.ps.active)) ∧
      (handsOver 0x23 [number] tag s → ∃ t, exec (.tenantFlush number) s = .next t ∧ replies 0x23 tag .ok [] t ∧
        (tenantRec t n).queue = [] ∧ t.tn.free = s.tn.free + occupancy (tenantRec s n) ∧
        (tenantRec t n).config = (tenantRec s n).config ∧ t.cb.live.tenants.get n = List.replicate 9 0 ∧
        (∀ m, m ≠ n → (tenantRec t m).queue = (tenantRec s m).queue) ∧ t.ps.active = s.ps.active)) ∧
  ∀ (number tag : Byte) (s : State), number.toNat = 0 ∨ 4 < number.toNat →
    ∀ c kind, (c, kind) ∈ [(Instr.tenantOpen number, (0x21 : Byte)), (.tenantClose number, 0x22), (.tenantFlush number, 0x23)] →
    handsOver kind [number] tag s → ∃ t, exec c s = .next t ∧ replies kind tag .badArg [] t ∧ onlyAnswered s t

/-- The counts of an allocation fit A (R113 to R117): with weights of at least 1 and the guarantees within
A, no tenant gets less than its guarantee and the counts sum to A at most, in both modes. -/
def Obligations.AllocatedCountsFit : Prop :=
  ∀ (i : AllocInput) (a : Nat), (∀ n : Tenant, 1 ≤ (i.configs.get n).weight) → guaranteeSum i ≤ a →
    (autoCounts i a).sum ≤ a ∧ (fixedModeCounts i a).sum ≤ a ∧
      (∀ n : Tenant, guarantee i n ≤ (autoCounts i a).get n ∧ guarantee i n ≤ (fixedModeCounts i a).get n) ∧
      (∀ n : Tenant, i.classes.get n = .none → (autoCounts i a).get n = 0 ∧ (fixedModeCounts i a).get n = 0)

/-- TIMING_CONFIG (R142) and TIMING_RESTART (R143). -/
def Obligations.TimingRequestsStoreAndRestart : Prop :=
  (∀ (kp ki : Byte) (lo hi centre window : BitVec 16) (limit : Byte) (period : BitVec 16) (delay : BitVec 32)
      (tag : Byte) (s : State),
    handsOver 0x30 ([kp, ki] ++ enc16 lo.toNat ++ enc16 hi.toNat ++ enc16 centre.toNat ++ enc16 window.toNat ++
      [limit] ++ enc16 period.toNat ++ enc32 delay.toNat) tag s →
    let c := timingInRange kp ki lo hi centre window limit period delay
    ∃ t, exec (.timingConfig kp ki lo hi centre window limit period delay) s = .next t ∧
      ((c.steerMax < c.steerMin ∨ c.centre < c.steerMin ∨ c.steerMax < c.centre) →
        replies 0x30 tag .badArg [] t ∧ onlyAnswered s t) ∧
      (c.steerMin ≤ c.centre → c.centre ≤ c.steerMax →
        replies 0x30 tag .ok (timingConfigContent c) t ∧ t.tm.config = c ∧ c.steerMin ≤ t.tm.steer ∧
        t.tm.steer ≤ c.steerMax ∧ (s.lc.role = .hub → t.tm.steer = c.centre) ∧
        (s.lc.role = .site → c.steerMin ≤ s.tm.steer → s.tm.steer ≤ c.steerMax → t.tm.steer = s.tm.steer) ∧
        t.tm.integrator = s.tm.integrator ∧ t.tm.state = s.tm.state ∧ t.tm.time = s.tm.time ∧
        t.ps.active = s.ps.active)) ∧
  (∀ (tag : Byte) (s : State), handsOver 0x31 [] tag s →
    ∃ t, exec .timingRestart s = .next t ∧
      (s.lc.role = .hub → replies 0x31 tag .ok [] t ∧ t.tm = { s.tm with steer := s.tm.config.centre }) ∧
      (s.lc.role = .site → (3 < s.ps.active.profile ∨ (s.ps.pending.any fun p => 3 < p.plan.profile) = true) →
        replies 0x31 tag .state [] t ∧ onlyAnswered s t) ∧
      (s.lc.role = .site → s.ps.active.profile ≤ 3 → (s.ps.pending.any fun p => 3 < p.plan.profile) = false →
        replies 0x31 tag .ok [] t ∧ t.tm.state = (if inPair s.lc.link then .acquire else .freeRun) ∧
        t.tm.integrator = 0 ∧ t.tm.history = [] ∧ t.tm.window = [] ∧ t.tm.steer = s.tm.config.centre ∧
        t.tm.expired = false ∧ t.tm.holdoverTimer = none ∧ t.tm.holdoverCode = none ∧ t.tm.outstanding = none ∧
        t.tm.pps = false ∧ t.tm.time = s.tm.time) ∧
      t.ps.active = s.ps.active ∧ t.lc.role = s.lc.role ∧ t.pending = s.pending)

/-- TEST_START (R149 to R151): BUSY while a test is under way; a LOOP test in OFF runs at once and sets the loopback
switch; a FAR test that fits, and a sweep with every tenant CLOSED, arm at SITE in UP. -/
def Obligations.TestStartIsJudged : Prop :=
  ∀ (kind mode test run : Byte) (frames allowed : BitVec 32) (tag : Byte) (s : State),
    handsOver 0x40 ([kind, mode, test, run] ++ enc32 frames.toNat ++ enc32 allowed.toNat) tag s →
    ∃ t, exec (.testStart kind mode test run frames allowed) s = .next t ∧
      (testBusy s.st = true → replies 0x40 tag .busy [] t ∧ onlyAnswered s t) ∧
      (testBusy s.st = false → 2 < kind.toNat → replies 0x40 tag .state [] t ∧ onlyAnswered s t) ∧
      (testBusy s.st = false → kind = 0 → s.lc.link = .off → 1 ≤ test.toNat → test.toNat ≤ 11 →
        replies 0x40 tag .accepted [] t ∧ t.st.state = .running ∧ t.st.kind = some .loop ∧
        t.st.test = some test.toNat ∧ t.st.frames = 0 ∧ t.st.bits = 0 ∧ t.st.errored = 0 ∧
        t.mp.loopSwitch = true ∧ (s.mp.loopback = false → t.mp.loopDue = .next) ∧
        t.mp = { s.mp with loopSwitch := true, loopDue := t.mp.loopDue } ∧ unchangedBut [.mp, .st, .cb, .cp] s t) ∧
      (testBusy s.st = false → kind = 1 → s.lc.role = .site → s.lc.link = .up → 1 ≤ test.toNat →
        (farRoom s < test.toNat → replies 0x40 tag .noRoom [] t ∧ onlyAnswered s t) ∧
        (test.toNat ≤ farRoom s → replies 0x40 tag .accepted [] t ∧ t.st.state = .arming ∧
          t.st.kind = some .far ∧ t.st.mode = some (if mode = 1 then .echo else .check) ∧
          t.st.test = some test.toNat ∧ t.st.deadline = some (frameAdd s.mp.frame 64) ∧
          (s.st.kept = [] → s.mc.queue.length < 8 →
            t.mc.queue = s.mc.queue ++ [.testCtl 1 1 (if mode = 1 then 1 else 0) (BitVec.ofNat 8 test.toNat)]) ∧
          unchangedBut [.mc, .st, .cb, .cp] s t)) ∧
      (testBusy s.st = false → kind = 2 → s.lc.role = .site → s.lc.link = .up →
        (s.tn.tenants.toList.all fun r => r.state == .closed) = true →
        replies 0x40 tag .accepted [] t ∧ t.st.state = .arming ∧ t.st.kind = some .sweep ∧
        t.st.saved = some s.st.commissioned ∧ t.st.commissioned = 5 ∧
        t.st.deadline = some (frameAdd s.mp.frame 64) ∧ unchangedBut [.mc, .st, .cb, .cp] s t) ∧
      t.cp = { s.cp with service := t.cp.service } ∧ onlyCounts s t

/-- TEST_STOP (R161): refused in IDLE, DONE and STOPPING. In ARMING, STARTING or RUNNING the test ends (R156, R157): a COUNT run
and a sweep STOPPED, a FREE run judged by its errored bits, and a FAR test in CHECK mode that is RUNNING with the stop answer
awaited (R155), which judges a FREE run (where none is awaited it is judged at once, the model's choice, log 31); a sweep
sets the commissioned ceiling (R160). -/
def Obligations.TestStopEndsTheTest : Prop :=
  ∀ (tag : Byte) (s : State), handsOver 0x41 [] tag s →
    ∃ t, exec .testStop s = .next t ∧
      (s.st.state = .idle ∨ s.st.state = .done → replies 0x41 tag .state [] t ∧ onlyAnswered s t) ∧
      (s.st.state = .stopping → replies 0x41 tag .busy [] t ∧ onlyAnswered s t) ∧
      (testLive s.st = true → s.mp.loopDue ≠ .now →
        let free := s.st.run = some .free
        let awaits := s.st.kind = some .far ∧ s.st.mode = some .check ∧ s.st.state = .running
        let judged : TestOutcome := if s.st.errored ≤ s.st.allowed.getD 0 then .passed else .failed
        let outcome : TestOutcome := if free then judged else .stopped
        replies 0x41 tag .accepted [] t ∧ t.st.reqTest = 0 ∧ t.st.frames = s.st.frames ∧ t.st.bits = s.st.bits ∧
        t.st.errored = s.st.errored ∧
        (awaits → t.st.state = .stopping ∧ t.st.awaiting = true ∧
          t.st.verdict = (if free then none else some .stopped) ∧ t.st.deadline = some (frameAdd s.mp.frame 64)) ∧
        (¬ awaits → t.st.awaiting = false ∧
          ((t.st.state = .stopping ∧ t.st.verdict = some outcome) ∨
            (t.st.state = .done ∧ t.st.outcome = some outcome)) ∧
          (clearOfPlans s.ps = true → t.st.state = .done)) ∧
        (s.st.kind = some .loop → t.mp.loopSwitch = false) ∧
        (s.st.kind ≠ some .loop → s.st.kept = [] → s.mc.queue.length < 8 →
          t.mc.queue[s.mc.queue.length]? = some (testControl 0 s.st)) ∧
        (s.st.kind = some .sweep → t.st.saved = none ∧
          t.st.commissioned =
            (if s.st.stagesComplete = 0 then s.st.saved.getD s.st.commissioned
              else ((s.st.stages.take s.st.stagesComplete).takeWhile fun e => e.any fun x => x.errored == 0).length -
                1))) ∧
      t.tn.free = s.tn.free ∧ t.tm.time = s.tm.time ∧ t.mp.frame = s.mp.frame ∧ t.lc.role = s.lc.role ∧
      t.pending = s.pending

/-! ### What every step keeps -/

/-- The report queue never holds more than 32 reports (R170, the ninth law). -/
def Obligations.ReportQueueStaysBounded : Prop :=
  ∀ s t : State, lawReports s = true → step s = .next t → lawReports t = true

/-- The steering code stays within the configured range, and that within 0..4,095 (R125, the sixth law), with the centre
within the range (R142). -/
def Obligations.SteeringCodeStaysInRange : Prop :=
  ∀ s t : State, lawSteer s = true → centreInRange s = true → step s = .next t →
    lawSteer t = true ∧ centreInRange t = true

/-- The pulse output is high only at SITE in LOCKED, or in HOLDOVER not expired (R141, the tenth law). That a pulse lasts
until the next boundary opens is the model's (log 13). -/
def Obligations.PulseOutputStaysQualified : Prop :=
  ∀ s t : State, lawPulse s = true → step s = .next t → lawPulse t = true

/-- A test's errored bits never exceed its bits compared (R148, the eleventh law). -/
def Obligations.ErroredBitsStayWithinBits : Prop :=
  ∀ s t : State, lawErrors s = true → step s = .next t → lawErrors t = true

/-- Free blocks and the blocks of the four queues always make 512 (R93, the fourth law), the ready credits being covered
by the free blocks (R96). -/
def Obligations.BufferStaysWhole : Prop :=
  ∀ s t : State, lawBuffer s = true → creditsCovered s = true → step s = .next t →
    lawBuffer t = true ∧ creditsCovered t = true

/-- The committed slots of the tenants that are not CLOSED never sum to more than 11 (R87, the second law). -/
def Obligations.CommittedSlotsStayWithinEleven : Prop :=
  ∀ s t : State, lawCommitted s = true → step s = .next t → lawCommitted t = true

/-- A tenant's hold flag is set whenever its occupancy is at least its allowance (R97, the twelfth law). -/
def Obligations.HoldFlagStaysTrue : Prop :=
  ∀ s t : State, lawHold s = true → step s = .next t → lawHold t = true

/-- The active, pending and fallback plans stay well-formed (R21, the first law), with a LOOP test's T that fits while
the loopback switch is set. -/
def Obligations.PlansStayWellFormed : Prop :=
  ∀ s t : State, lawPlans s = true → loopReady s = true → step s = .next t → lawPlans t = true ∧ loopReady t = true

/-- A CLOSED tenant holds no position in the active, pending or fallback plan (R91, the third law), with the carried counts and
the JOIN record's counts from which it could come to hold one. -/
def Obligations.ClosedTenantsHoldNoPosition : Prop :=
  ∀ s t : State, lawClosed s = true → closedKeptOut s = true → step s = .next t →
    lawClosed t = true ∧ closedKeptOut t = true

/-- At SITE the active profile is above 3 only in LOCKED or HOLDOVER (R143, the fifth law), and so for the plans that can
become active. -/
def Obligations.HighProfilesNeedDisciplinedTime : Prop :=
  ∀ s t : State, lawProfile s = true → profileReady s = true → step s = .next t →
    lawProfile t = true ∧ profileReady t = true

/-- At SITE the active plan has TEST positions only in RUNNING or STOPPING (R157, the seventh law), with the test record in
step with the plans and a LOOP test running while the loopback switch is set. -/
def Obligations.TestPositionsNeedATest : Prop :=
  ∀ s t : State, lawTest s = true → testInStep s = true → loopReady s = true → step s = .next t →
    lawTest t = true ∧ testInStep t = true

/-- The pending plan's number is one more than a regular active plan's (R23, the eighth law), with no plan pending in OFF and
the loopback switch set only there. -/
def Obligations.PendingNumberFollowsTheActive : Prop :=
  ∀ s t : State, lawNumber s = true → loopAlone s = true → loopReady s = true → step s = .next t →
    lawNumber t = true ∧ loopAlone t = true

/-- Only a reset changes the role, the line rate or a stored identity (R58, R59, R163). -/
def Obligations.OnlyAResetChangesTheStraps : Prop :=
  ∀ (c : Instr) (s t : State), exec c s = .next t →
    (∀ role rate, c ≠ .powerOnReset role rate) → (∀ role rate, c ≠ .enterReset role rate) →
    t.lc.role = s.lc.role ∧ t.cp.rate = s.cp.rate ∧
      (∀ me, s.lc.identity = some me → t.lc.identity = some me)
end

