-- ==== Sys2Proof/Laws/State.lean ====
section
/-! SUPPORT. One lemma per field per update: what each block's change does to each field of the state, and what reading a
tenant's value gives after a change. -/

namespace Sys2Proof.Machine.State

@[simp] theorem modMP_mp (f : MP → MP) (s : State) : (s.modMP f).mp = f s.mp := rfl
@[simp] theorem modMP_sf (f : MP → MP) (s : State) : (s.modMP f).sf = s.sf := rfl
@[simp] theorem modMP_ps (f : MP → MP) (s : State) : (s.modMP f).ps = s.ps := rfl
@[simp] theorem modMP_mc (f : MP → MP) (s : State) : (s.modMP f).mc = s.mc := rfl
@[simp] theorem modMP_lc (f : MP → MP) (s : State) : (s.modMP f).lc = s.lc := rfl
@[simp] theorem modMP_tn (f : MP → MP) (s : State) : (s.modMP f).tn = s.tn := rfl
@[simp] theorem modMP_ca (f : MP → MP) (s : State) : (s.modMP f).ca = s.ca := rfl
@[simp] theorem modMP_tm (f : MP → MP) (s : State) : (s.modMP f).tm = s.tm := rfl
@[simp] theorem modMP_st (f : MP → MP) (s : State) : (s.modMP f).st = s.st := rfl
@[simp] theorem modMP_cb (f : MP → MP) (s : State) : (s.modMP f).cb = s.cb := rfl
@[simp] theorem modMP_cp (f : MP → MP) (s : State) : (s.modMP f).cp = s.cp := rfl
@[simp] theorem modMP_pending (f : MP → MP) (s : State) : (s.modMP f).pending = s.pending := rfl

@[simp] theorem modSF_mp (f : SF → SF) (s : State) : (s.modSF f).mp = s.mp := rfl
@[simp] theorem modSF_sf (f : SF → SF) (s : State) : (s.modSF f).sf = f s.sf := rfl
@[simp] theorem modSF_ps (f : SF → SF) (s : State) : (s.modSF f).ps = s.ps := rfl
@[simp] theorem modSF_mc (f : SF → SF) (s : State) : (s.modSF f).mc = s.mc := rfl
@[simp] theorem modSF_lc (f : SF → SF) (s : State) : (s.modSF f).lc = s.lc := rfl
@[simp] theorem modSF_tn (f : SF → SF) (s : State) : (s.modSF f).tn = s.tn := rfl
@[simp] theorem modSF_ca (f : SF → SF) (s : State) : (s.modSF f).ca = s.ca := rfl
@[simp] theorem modSF_tm (f : SF → SF) (s : State) : (s.modSF f).tm = s.tm := rfl
@[simp] theorem modSF_st (f : SF → SF) (s : State) : (s.modSF f).st = s.st := rfl
@[simp] theorem modSF_cb (f : SF → SF) (s : State) : (s.modSF f).cb = s.cb := rfl
@[simp] theorem modSF_cp (f : SF → SF) (s : State) : (s.modSF f).cp = s.cp := rfl
@[simp] theorem modSF_pending (f : SF → SF) (s : State) : (s.modSF f).pending = s.pending := rfl

@[simp] theorem modPS_mp (f : PS → PS) (s : State) : (s.modPS f).mp = s.mp := rfl
@[simp] theorem modPS_sf (f : PS → PS) (s : State) : (s.modPS f).sf = s.sf := rfl
@[simp] theorem modPS_ps (f : PS → PS) (s : State) : (s.modPS f).ps = f s.ps := rfl
@[simp] theorem modPS_mc (f : PS → PS) (s : State) : (s.modPS f).mc = s.mc := rfl
@[simp] theorem modPS_lc (f : PS → PS) (s : State) : (s.modPS f).lc = s.lc := rfl
@[simp] theorem modPS_tn (f : PS → PS) (s : State) : (s.modPS f).tn = s.tn := rfl
@[simp] theorem modPS_ca (f : PS → PS) (s : State) : (s.modPS f).ca = s.ca := rfl
@[simp] theorem modPS_tm (f : PS → PS) (s : State) : (s.modPS f).tm = s.tm := rfl
@[simp] theorem modPS_st (f : PS → PS) (s : State) : (s.modPS f).st = s.st := rfl
@[simp] theorem modPS_cb (f : PS → PS) (s : State) : (s.modPS f).cb = s.cb := rfl
@[simp] theorem modPS_cp (f : PS → PS) (s : State) : (s.modPS f).cp = s.cp := rfl
@[simp] theorem modPS_pending (f : PS → PS) (s : State) : (s.modPS f).pending = s.pending := rfl

@[simp] theorem modMC_mp (f : MC → MC) (s : State) : (s.modMC f).mp = s.mp := rfl
@[simp] theorem modMC_sf (f : MC → MC) (s : State) : (s.modMC f).sf = s.sf := rfl
@[simp] theorem modMC_ps (f : MC → MC) (s : State) : (s.modMC f).ps = s.ps := rfl
@[simp] theorem modMC_mc (f : MC → MC) (s : State) : (s.modMC f).mc = f s.mc := rfl
@[simp] theorem modMC_lc (f : MC → MC) (s : State) : (s.modMC f).lc = s.lc := rfl
@[simp] theorem modMC_tn (f : MC → MC) (s : State) : (s.modMC f).tn = s.tn := rfl
@[simp] theorem modMC_ca (f : MC → MC) (s : State) : (s.modMC f).ca = s.ca := rfl
@[simp] theorem modMC_tm (f : MC → MC) (s : State) : (s.modMC f).tm = s.tm := rfl
@[simp] theorem modMC_st (f : MC → MC) (s : State) : (s.modMC f).st = s.st := rfl
@[simp] theorem modMC_cb (f : MC → MC) (s : State) : (s.modMC f).cb = s.cb := rfl
@[simp] theorem modMC_cp (f : MC → MC) (s : State) : (s.modMC f).cp = s.cp := rfl
@[simp] theorem modMC_pending (f : MC → MC) (s : State) : (s.modMC f).pending = s.pending := rfl

@[simp] theorem modLC_mp (f : LC → LC) (s : State) : (s.modLC f).mp = s.mp := rfl
@[simp] theorem modLC_sf (f : LC → LC) (s : State) : (s.modLC f).sf = s.sf := rfl
@[simp] theorem modLC_ps (f : LC → LC) (s : State) : (s.modLC f).ps = s.ps := rfl
@[simp] theorem modLC_mc (f : LC → LC) (s : State) : (s.modLC f).mc = s.mc := rfl
@[simp] theorem modLC_lc (f : LC → LC) (s : State) : (s.modLC f).lc = f s.lc := rfl
@[simp] theorem modLC_tn (f : LC → LC) (s : State) : (s.modLC f).tn = s.tn := rfl
@[simp] theorem modLC_ca (f : LC → LC) (s : State) : (s.modLC f).ca = s.ca := rfl
@[simp] theorem modLC_tm (f : LC → LC) (s : State) : (s.modLC f).tm = s.tm := rfl
@[simp] theorem modLC_st (f : LC → LC) (s : State) : (s.modLC f).st = s.st := rfl
@[simp] theorem modLC_cb (f : LC → LC) (s : State) : (s.modLC f).cb = s.cb := rfl
@[simp] theorem modLC_cp (f : LC → LC) (s : State) : (s.modLC f).cp = s.cp := rfl
@[simp] theorem modLC_pending (f : LC → LC) (s : State) : (s.modLC f).pending = s.pending := rfl

@[simp] theorem modTN_mp (f : TN → TN) (s : State) : (s.modTN f).mp = s.mp := rfl
@[simp] theorem modTN_sf (f : TN → TN) (s : State) : (s.modTN f).sf = s.sf := rfl
@[simp] theorem modTN_ps (f : TN → TN) (s : State) : (s.modTN f).ps = s.ps := rfl
@[simp] theorem modTN_mc (f : TN → TN) (s : State) : (s.modTN f).mc = s.mc := rfl
@[simp] theorem modTN_lc (f : TN → TN) (s : State) : (s.modTN f).lc = s.lc := rfl
@[simp] theorem modTN_tn (f : TN → TN) (s : State) : (s.modTN f).tn = f s.tn := rfl
@[simp] theorem modTN_ca (f : TN → TN) (s : State) : (s.modTN f).ca = s.ca := rfl
@[simp] theorem modTN_tm (f : TN → TN) (s : State) : (s.modTN f).tm = s.tm := rfl
@[simp] theorem modTN_st (f : TN → TN) (s : State) : (s.modTN f).st = s.st := rfl
@[simp] theorem modTN_cb (f : TN → TN) (s : State) : (s.modTN f).cb = s.cb := rfl
@[simp] theorem modTN_cp (f : TN → TN) (s : State) : (s.modTN f).cp = s.cp := rfl
@[simp] theorem modTN_pending (f : TN → TN) (s : State) : (s.modTN f).pending = s.pending := rfl

@[simp] theorem modCA_mp (f : CA → CA) (s : State) : (s.modCA f).mp = s.mp := rfl
@[simp] theorem modCA_sf (f : CA → CA) (s : State) : (s.modCA f).sf = s.sf := rfl
@[simp] theorem modCA_ps (f : CA → CA) (s : State) : (s.modCA f).ps = s.ps := rfl
@[simp] theorem modCA_mc (f : CA → CA) (s : State) : (s.modCA f).mc = s.mc := rfl
@[simp] theorem modCA_lc (f : CA → CA) (s : State) : (s.modCA f).lc = s.lc := rfl
@[simp] theorem modCA_tn (f : CA → CA) (s : State) : (s.modCA f).tn = s.tn := rfl
@[simp] theorem modCA_ca (f : CA → CA) (s : State) : (s.modCA f).ca = f s.ca := rfl
@[simp] theorem modCA_tm (f : CA → CA) (s : State) : (s.modCA f).tm = s.tm := rfl
@[simp] theorem modCA_st (f : CA → CA) (s : State) : (s.modCA f).st = s.st := rfl
@[simp] theorem modCA_cb (f : CA → CA) (s : State) : (s.modCA f).cb = s.cb := rfl
@[simp] theorem modCA_cp (f : CA → CA) (s : State) : (s.modCA f).cp = s.cp := rfl
@[simp] theorem modCA_pending (f : CA → CA) (s : State) : (s.modCA f).pending = s.pending := rfl

@[simp] theorem modTM_mp (f : TM → TM) (s : State) : (s.modTM f).mp = s.mp := rfl
@[simp] theorem modTM_sf (f : TM → TM) (s : State) : (s.modTM f).sf = s.sf := rfl
@[simp] theorem modTM_ps (f : TM → TM) (s : State) : (s.modTM f).ps = s.ps := rfl
@[simp] theorem modTM_mc (f : TM → TM) (s : State) : (s.modTM f).mc = s.mc := rfl
@[simp] theorem modTM_lc (f : TM → TM) (s : State) : (s.modTM f).lc = s.lc := rfl
@[simp] theorem modTM_tn (f : TM → TM) (s : State) : (s.modTM f).tn = s.tn := rfl
@[simp] theorem modTM_ca (f : TM → TM) (s : State) : (s.modTM f).ca = s.ca := rfl
@[simp] theorem modTM_tm (f : TM → TM) (s : State) : (s.modTM f).tm = f s.tm := rfl
@[simp] theorem modTM_st (f : TM → TM) (s : State) : (s.modTM f).st = s.st := rfl
@[simp] theorem modTM_cb (f : TM → TM) (s : State) : (s.modTM f).cb = s.cb := rfl
@[simp] theorem modTM_cp (f : TM → TM) (s : State) : (s.modTM f).cp = s.cp := rfl
@[simp] theorem modTM_pending (f : TM → TM) (s : State) : (s.modTM f).pending = s.pending := rfl

@[simp] theorem modST_mp (f : ST → ST) (s : State) : (s.modST f).mp = s.mp := rfl
@[simp] theorem modST_sf (f : ST → ST) (s : State) : (s.modST f).sf = s.sf := rfl
@[simp] theorem modST_ps (f : ST → ST) (s : State) : (s.modST f).ps = s.ps := rfl
@[simp] theorem modST_mc (f : ST → ST) (s : State) : (s.modST f).mc = s.mc := rfl
@[simp] theorem modST_lc (f : ST → ST) (s : State) : (s.modST f).lc = s.lc := rfl
@[simp] theorem modST_tn (f : ST → ST) (s : State) : (s.modST f).tn = s.tn := rfl
@[simp] theorem modST_ca (f : ST → ST) (s : State) : (s.modST f).ca = s.ca := rfl
@[simp] theorem modST_tm (f : ST → ST) (s : State) : (s.modST f).tm = s.tm := rfl
@[simp] theorem modST_st (f : ST → ST) (s : State) : (s.modST f).st = f s.st := rfl
@[simp] theorem modST_cb (f : ST → ST) (s : State) : (s.modST f).cb = s.cb := rfl
@[simp] theorem modST_cp (f : ST → ST) (s : State) : (s.modST f).cp = s.cp := rfl
@[simp] theorem modST_pending (f : ST → ST) (s : State) : (s.modST f).pending = s.pending := rfl

@[simp] theorem modCB_mp (f : CB → CB) (s : State) : (s.modCB f).mp = s.mp := rfl
@[simp] theorem modCB_sf (f : CB → CB) (s : State) : (s.modCB f).sf = s.sf := rfl
@[simp] theorem modCB_ps (f : CB → CB) (s : State) : (s.modCB f).ps = s.ps := rfl
@[simp] theorem modCB_mc (f : CB → CB) (s : State) : (s.modCB f).mc = s.mc := rfl
@[simp] theorem modCB_lc (f : CB → CB) (s : State) : (s.modCB f).lc = s.lc := rfl
@[simp] theorem modCB_tn (f : CB → CB) (s : State) : (s.modCB f).tn = s.tn := rfl
@[simp] theorem modCB_ca (f : CB → CB) (s : State) : (s.modCB f).ca = s.ca := rfl
@[simp] theorem modCB_tm (f : CB → CB) (s : State) : (s.modCB f).tm = s.tm := rfl
@[simp] theorem modCB_st (f : CB → CB) (s : State) : (s.modCB f).st = s.st := rfl
@[simp] theorem modCB_cb (f : CB → CB) (s : State) : (s.modCB f).cb = f s.cb := rfl
@[simp] theorem modCB_cp (f : CB → CB) (s : State) : (s.modCB f).cp = s.cp := rfl
@[simp] theorem modCB_pending (f : CB → CB) (s : State) : (s.modCB f).pending = s.pending := rfl

@[simp] theorem modCP_mp (f : CP → CP) (s : State) : (s.modCP f).mp = s.mp := rfl
@[simp] theorem modCP_sf (f : CP → CP) (s : State) : (s.modCP f).sf = s.sf := rfl
@[simp] theorem modCP_ps (f : CP → CP) (s : State) : (s.modCP f).ps = s.ps := rfl
@[simp] theorem modCP_mc (f : CP → CP) (s : State) : (s.modCP f).mc = s.mc := rfl
@[simp] theorem modCP_lc (f : CP → CP) (s : State) : (s.modCP f).lc = s.lc := rfl
@[simp] theorem modCP_tn (f : CP → CP) (s : State) : (s.modCP f).tn = s.tn := rfl
@[simp] theorem modCP_ca (f : CP → CP) (s : State) : (s.modCP f).ca = s.ca := rfl
@[simp] theorem modCP_tm (f : CP → CP) (s : State) : (s.modCP f).tm = s.tm := rfl
@[simp] theorem modCP_st (f : CP → CP) (s : State) : (s.modCP f).st = s.st := rfl
@[simp] theorem modCP_cb (f : CP → CP) (s : State) : (s.modCP f).cb = s.cb := rfl
@[simp] theorem modCP_cp (f : CP → CP) (s : State) : (s.modCP f).cp = f s.cp := rfl
@[simp] theorem modCP_pending (f : CP → CP) (s : State) : (s.modCP f).pending = s.pending := rfl

end Sys2Proof.Machine.State

namespace Sys2Proof.PerTenant

@[simp] theorem get_set_self {α : Type} (v : PerTenant α) (t : Tenant) (a : α) : (v.set t a).get t = a := by
  cases t <;> rfl

theorem get_set_ne {α : Type} (v : PerTenant α) {t u : Tenant} (h : u ≠ t) (a : α) : (v.set t a).get u = v.get u := by
  cases t <;> cases u <;> first | rfl | exact absurd rfl h

theorem get_set {α : Type} (v : PerTenant α) (t u : Tenant) (a : α) :
    (v.set t a).get u = if u = t then a else v.get u := by
  cases t <;> cases u <;> rfl

@[simp] theorem get_const {α : Type} (a : α) (t : Tenant) : (PerTenant.const a).get t = a := by cases t <;> rfl

@[simp] theorem get_ofFn {α : Type} (f : Tenant → α) (t : Tenant) : (PerTenant.ofFn f).get t = f t := by cases t <;> rfl

@[simp] theorem get_map {α β : Type} (f : α → β) (v : PerTenant α) (t : Tenant) : (v.map f).get t = f (v.get t) := by
  cases t <;> rfl

end Sys2Proof.PerTenant
end

