-- ==== Sys2Proof/Laws/Ops.lean ====
section
/-! SUPPORT. What the shared operations of Ops.lean, Flags.lean and Channel.lean leave alone, and what each does to its own block. -/

set_option linter.unusedSimpArgs false

namespace Sys2Proof.Machine

/-! `countLink` -/

@[simp] theorem countLink_frame (c : LinkCounter) (s : State) :
    (countLink c s).mp = s.mp ∧ (countLink c s).sf = s.sf ∧ (countLink c s).ps = s.ps ∧ (countLink c s).mc = s.mc ∧
    (countLink c s).lc = s.lc ∧ (countLink c s).tn = s.tn ∧ (countLink c s).ca = s.ca ∧ (countLink c s).tm = s.tm ∧
    (countLink c s).st = s.st ∧ (countLink c s).cp = s.cp ∧ (countLink c s).pending = s.pending ∧
    (countLink c s).cb.snapshot = s.cb.snapshot ∧ (countLink c s).cb.valid = s.cb.valid ∧
    (countLink c s).cb.capture = s.cb.capture ∧ (countLink c s).cb.pending = s.cb.pending ∧
    (countLink c s).cb.captureDue = s.cb.captureDue ∧ (countLink c s).cb.live.tenants = s.cb.live.tenants ∧
    (countLink c s).cb.live.timing = s.cb.live.timing ∧ (countLink c s).cb.live.test = s.cb.live.test :=
  ⟨rfl, rfl, rfl, rfl, rfl, rfl, rfl, rfl, rfl, rfl, rfl, rfl, rfl, rfl, rfl, rfl, rfl, rfl, rfl⟩

/-! `countChannel` -/

@[simp] theorem countChannel_frame (c : ChannelCounter) (s : State) :
    (countChannel c s).mp = s.mp ∧ (countChannel c s).sf = s.sf ∧ (countChannel c s).ps = s.ps ∧
    (countChannel c s).mc = s.mc ∧ (countChannel c s).lc = s.lc ∧ (countChannel c s).tn = s.tn ∧
    (countChannel c s).ca = s.ca ∧ (countChannel c s).tm = s.tm ∧ (countChannel c s).st = s.st ∧
    (countChannel c s).cp = s.cp ∧ (countChannel c s).pending = s.pending ∧
    (countChannel c s).cb.snapshot = s.cb.snapshot ∧ (countChannel c s).cb.valid = s.cb.valid ∧
    (countChannel c s).cb.capture = s.cb.capture ∧ (countChannel c s).cb.pending = s.cb.pending ∧
    (countChannel c s).cb.captureDue = s.cb.captureDue ∧ (countChannel c s).cb.live.tenants = s.cb.live.tenants ∧
    (countChannel c s).cb.live.timing = s.cb.live.timing ∧ (countChannel c s).cb.live.test = s.cb.live.test :=
  ⟨rfl, rfl, rfl, rfl, rfl, rfl, rfl, rfl, rfl, rfl, rfl, rfl, rfl, rfl, rfl, rfl, rfl, rfl, rfl⟩

/-! `countTiming` -/

@[simp] theorem countTiming_frame (c : TimingCounter) (s : State) :
    (countTiming c s).mp = s.mp ∧ (countTiming c s).sf = s.sf ∧ (countTiming c s).ps = s.ps ∧
    (countTiming c s).mc = s.mc ∧ (countTiming c s).lc = s.lc ∧ (countTiming c s).tn = s.tn ∧
    (countTiming c s).ca = s.ca ∧ (countTiming c s).tm = s.tm ∧ (countTiming c s).st = s.st ∧
    (countTiming c s).cp = s.cp ∧ (countTiming c s).pending = s.pending ∧
    (countTiming c s).cb.snapshot = s.cb.snapshot ∧ (countTiming c s).cb.valid = s.cb.valid ∧
    (countTiming c s).cb.capture = s.cb.capture ∧ (countTiming c s).cb.pending = s.cb.pending ∧
    (countTiming c s).cb.captureDue = s.cb.captureDue ∧ (countTiming c s).cb.live.tenants = s.cb.live.tenants ∧
    (countTiming c s).cb.live.test = s.cb.live.test :=
  ⟨rfl, rfl, rfl, rfl, rfl, rfl, rfl, rfl, rfl, rfl, rfl, rfl, rfl, rfl, rfl, rfl, rfl, rfl⟩

/-! `countTest` -/

@[simp] theorem countTest_frame (c : TestCounter) (s : State) :
    (countTest c s).mp = s.mp ∧ (countTest c s).sf = s.sf ∧ (countTest c s).ps = s.ps ∧ (countTest c s).mc = s.mc ∧
    (countTest c s).lc = s.lc ∧ (countTest c s).tn = s.tn ∧ (countTest c s).ca = s.ca ∧ (countTest c s).tm = s.tm ∧
    (countTest c s).st = s.st ∧ (countTest c s).cp = s.cp ∧ (countTest c s).pending = s.pending ∧
    (countTest c s).cb.snapshot = s.cb.snapshot ∧ (countTest c s).cb.valid = s.cb.valid ∧
    (countTest c s).cb.capture = s.cb.capture ∧ (countTest c s).cb.pending = s.cb.pending ∧
    (countTest c s).cb.captureDue = s.cb.captureDue ∧ (countTest c s).cb.live.tenants = s.cb.live.tenants ∧
    (countTest c s).cb.live.timing = s.cb.live.timing :=
  ⟨rfl, rfl, rfl, rfl, rfl, rfl, rfl, rfl, rfl, rfl, rfl, rfl, rfl, rfl, rfl, rfl, rfl, rfl⟩

/-! `countControl` -/

@[simp] theorem countControl_frame (c : ControlCounter) (s : State) :
    (countControl c s).mp = s.mp ∧ (countControl c s).sf = s.sf ∧ (countControl c s).ps = s.ps ∧
    (countControl c s).mc = s.mc ∧ (countControl c s).lc = s.lc ∧ (countControl c s).tn = s.tn ∧
    (countControl c s).ca = s.ca ∧ (countControl c s).tm = s.tm ∧ (countControl c s).st = s.st ∧
    (countControl c s).cp = s.cp ∧ (countControl c s).pending = s.pending ∧
    (countControl c s).cb.snapshot = s.cb.snapshot ∧ (countControl c s).cb.valid = s.cb.valid ∧
    (countControl c s).cb.capture = s.cb.capture ∧ (countControl c s).cb.pending = s.cb.pending ∧
    (countControl c s).cb.captureDue = s.cb.captureDue ∧ (countControl c s).cb.live.tenants = s.cb.live.tenants ∧
    (countControl c s).cb.live.timing = s.cb.live.timing ∧ (countControl c s).cb.live.test = s.cb.live.test :=
  ⟨rfl, rfl, rfl, rfl, rfl, rfl, rfl, rfl, rfl, rfl, rfl, rfl, rfl, rfl, rfl, rfl, rfl, rfl, rfl⟩

/-! `countTenant` -/

@[simp] theorem countTenant_frame (t : Tenant) (c : TenantCounter) (s : State) :
    (countTenant t c s).mp = s.mp ∧ (countTenant t c s).sf = s.sf ∧ (countTenant t c s).ps = s.ps ∧
    (countTenant t c s).mc = s.mc ∧ (countTenant t c s).lc = s.lc ∧ (countTenant t c s).tn = s.tn ∧
    (countTenant t c s).ca = s.ca ∧ (countTenant t c s).tm = s.tm ∧ (countTenant t c s).st = s.st ∧
    (countTenant t c s).cp = s.cp ∧ (countTenant t c s).pending = s.pending ∧
    (countTenant t c s).cb.snapshot = s.cb.snapshot ∧ (countTenant t c s).cb.valid = s.cb.valid ∧
    (countTenant t c s).cb.capture = s.cb.capture ∧ (countTenant t c s).cb.pending = s.cb.pending ∧
    (countTenant t c s).cb.captureDue = s.cb.captureDue ∧ (countTenant t c s).cb.live.timing = s.cb.live.timing ∧
    (countTenant t c s).cb.live.test = s.cb.live.test :=
  ⟨rfl, rfl, rfl, rfl, rfl, rfl, rfl, rfl, rfl, rfl, rfl, rfl, rfl, rfl, rfl, rfl, rfl, rfl⟩

/-! `countTimes` -/

theorem countTimes_frame {α : Type} (g : State → α) (count : State → State) (h : ∀ s, g (count s) = g s) (n : Nat)
    (s : State) :
    g (countTimes count n s) = g s := by
  induction n generalizing s with
  | zero => rfl
  | succ n ih => rw [countTimes, ih, h]

/-! `countTimes_countTenant` -/

@[simp] theorem countTimes_countTenant_frame (t : Tenant) (c : TenantCounter) (n : Nat) (s : State) :
    (countTimes (countTenant t c) n s).mp = s.mp ∧ (countTimes (countTenant t c) n s).sf = s.sf ∧
    (countTimes (countTenant t c) n s).ps = s.ps ∧ (countTimes (countTenant t c) n s).mc = s.mc ∧
    (countTimes (countTenant t c) n s).lc = s.lc ∧ (countTimes (countTenant t c) n s).tn = s.tn ∧
    (countTimes (countTenant t c) n s).ca = s.ca ∧ (countTimes (countTenant t c) n s).tm = s.tm := by
  refine ⟨?_, ?_, ?_, ?_, ?_, ?_, ?_, ?_⟩
  · exact countTimes_frame (fun x => x.mp) _ (fun s => by simp) n s
  · exact countTimes_frame (fun x => x.sf) _ (fun s => by simp) n s
  · exact countTimes_frame (fun x => x.ps) _ (fun s => by simp) n s
  · exact countTimes_frame (fun x => x.mc) _ (fun s => by simp) n s
  · exact countTimes_frame (fun x => x.lc) _ (fun s => by simp) n s
  · exact countTimes_frame (fun x => x.tn) _ (fun s => by simp) n s
  · exact countTimes_frame (fun x => x.ca) _ (fun s => by simp) n s
  · exact countTimes_frame (fun x => x.tm) _ (fun s => by simp) n s

@[simp] theorem countTimes_countTenant_frame_2 (t : Tenant) (c : TenantCounter) (n : Nat) (s : State) :
    (countTimes (countTenant t c) n s).st = s.st ∧ (countTimes (countTenant t c) n s).cp = s.cp ∧
    (countTimes (countTenant t c) n s).pending = s.pending ∧
    (countTimes (countTenant t c) n s).cb.snapshot = s.cb.snapshot ∧
    (countTimes (countTenant t c) n s).cb.valid = s.cb.valid ∧
    (countTimes (countTenant t c) n s).cb.capture = s.cb.capture ∧
    (countTimes (countTenant t c) n s).cb.pending = s.cb.pending ∧
    (countTimes (countTenant t c) n s).cb.captureDue = s.cb.captureDue := by
  refine ⟨?_, ?_, ?_, ?_, ?_, ?_, ?_, ?_⟩
  · exact countTimes_frame (fun x => x.st) _ (fun s => by simp) n s
  · exact countTimes_frame (fun x => x.cp) _ (fun s => by simp) n s
  · exact countTimes_frame (fun x => x.pending) _ (fun s => by simp) n s
  · exact countTimes_frame (fun x => x.cb.snapshot) _ (fun s => by simp) n s
  · exact countTimes_frame (fun x => x.cb.valid) _ (fun s => by simp) n s
  · exact countTimes_frame (fun x => x.cb.capture) _ (fun s => by simp) n s
  · exact countTimes_frame (fun x => x.cb.pending) _ (fun s => by simp) n s
  · exact countTimes_frame (fun x => x.cb.captureDue) _ (fun s => by simp) n s

@[simp] theorem countTimes_countTenant_frame_3 (t : Tenant) (c : TenantCounter) (n : Nat) (s : State) :
    (countTimes (countTenant t c) n s).cb.live.timing = s.cb.live.timing ∧
    (countTimes (countTenant t c) n s).cb.live.test = s.cb.live.test := by
  refine ⟨?_, ?_⟩
  · exact countTimes_frame (fun x => x.cb.live.timing) _ (fun s => by simp) n s
  · exact countTimes_frame (fun x => x.cb.live.test) _ (fun s => by simp) n s

/-! `countTimes_countChannel` -/

@[simp] theorem countTimes_countChannel_frame (c : ChannelCounter) (n : Nat) (s : State) :
    (countTimes (countChannel c) n s).mp = s.mp ∧ (countTimes (countChannel c) n s).sf = s.sf ∧
    (countTimes (countChannel c) n s).ps = s.ps ∧ (countTimes (countChannel c) n s).mc = s.mc ∧
    (countTimes (countChannel c) n s).lc = s.lc ∧ (countTimes (countChannel c) n s).tn = s.tn ∧
    (countTimes (countChannel c) n s).ca = s.ca ∧ (countTimes (countChannel c) n s).tm = s.tm := by
  refine ⟨?_, ?_, ?_, ?_, ?_, ?_, ?_, ?_⟩
  · exact countTimes_frame (fun x => x.mp) _ (fun s => by simp) n s
  · exact countTimes_frame (fun x => x.sf) _ (fun s => by simp) n s
  · exact countTimes_frame (fun x => x.ps) _ (fun s => by simp) n s
  · exact countTimes_frame (fun x => x.mc) _ (fun s => by simp) n s
  · exact countTimes_frame (fun x => x.lc) _ (fun s => by simp) n s
  · exact countTimes_frame (fun x => x.tn) _ (fun s => by simp) n s
  · exact countTimes_frame (fun x => x.ca) _ (fun s => by simp) n s
  · exact countTimes_frame (fun x => x.tm) _ (fun s => by simp) n s

@[simp] theorem countTimes_countChannel_frame_2 (c : ChannelCounter) (n : Nat) (s : State) :
    (countTimes (countChannel c) n s).st = s.st ∧ (countTimes (countChannel c) n s).cp = s.cp ∧
    (countTimes (countChannel c) n s).pending = s.pending ∧
    (countTimes (countChannel c) n s).cb.snapshot = s.cb.snapshot ∧
    (countTimes (countChannel c) n s).cb.valid = s.cb.valid ∧
    (countTimes (countChannel c) n s).cb.capture = s.cb.capture ∧
    (countTimes (countChannel c) n s).cb.pending = s.cb.pending ∧
    (countTimes (countChannel c) n s).cb.captureDue = s.cb.captureDue := by
  refine ⟨?_, ?_, ?_, ?_, ?_, ?_, ?_, ?_⟩
  · exact countTimes_frame (fun x => x.st) _ (fun s => by simp) n s
  · exact countTimes_frame (fun x => x.cp) _ (fun s => by simp) n s
  · exact countTimes_frame (fun x => x.pending) _ (fun s => by simp) n s
  · exact countTimes_frame (fun x => x.cb.snapshot) _ (fun s => by simp) n s
  · exact countTimes_frame (fun x => x.cb.valid) _ (fun s => by simp) n s
  · exact countTimes_frame (fun x => x.cb.capture) _ (fun s => by simp) n s
  · exact countTimes_frame (fun x => x.cb.pending) _ (fun s => by simp) n s
  · exact countTimes_frame (fun x => x.cb.captureDue) _ (fun s => by simp) n s

@[simp] theorem countTimes_countChannel_frame_3 (c : ChannelCounter) (n : Nat) (s : State) :
    (countTimes (countChannel c) n s).cb.live.tenants = s.cb.live.tenants ∧
    (countTimes (countChannel c) n s).cb.live.timing = s.cb.live.timing ∧
    (countTimes (countChannel c) n s).cb.live.test = s.cb.live.test := by
  refine ⟨?_, ?_, ?_⟩
  · exact countTimes_frame (fun x => x.cb.live.tenants) _ (fun s => by simp) n s
  · exact countTimes_frame (fun x => x.cb.live.timing) _ (fun s => by simp) n s
  · exact countTimes_frame (fun x => x.cb.live.test) _ (fun s => by simp) n s

/-! `countTimes_countControl` -/

@[simp] theorem countTimes_countControl_frame (c : ControlCounter) (n : Nat) (s : State) :
    (countTimes (countControl c) n s).mp = s.mp ∧ (countTimes (countControl c) n s).sf = s.sf ∧
    (countTimes (countControl c) n s).ps = s.ps ∧ (countTimes (countControl c) n s).mc = s.mc ∧
    (countTimes (countControl c) n s).lc = s.lc ∧ (countTimes (countControl c) n s).tn = s.tn ∧
    (countTimes (countControl c) n s).ca = s.ca ∧ (countTimes (countControl c) n s).tm = s.tm := by
  refine ⟨?_, ?_, ?_, ?_, ?_, ?_, ?_, ?_⟩
  · exact countTimes_frame (fun x => x.mp) _ (fun s => by simp) n s
  · exact countTimes_frame (fun x => x.sf) _ (fun s => by simp) n s
  · exact countTimes_frame (fun x => x.ps) _ (fun s => by simp) n s
  · exact countTimes_frame (fun x => x.mc) _ (fun s => by simp) n s
  · exact countTimes_frame (fun x => x.lc) _ (fun s => by simp) n s
  · exact countTimes_frame (fun x => x.tn) _ (fun s => by simp) n s
  · exact countTimes_frame (fun x => x.ca) _ (fun s => by simp) n s
  · exact countTimes_frame (fun x => x.tm) _ (fun s => by simp) n s

@[simp] theorem countTimes_countControl_frame_2 (c : ControlCounter) (n : Nat) (s : State) :
    (countTimes (countControl c) n s).st = s.st ∧ (countTimes (countControl c) n s).cp = s.cp ∧
    (countTimes (countControl c) n s).pending = s.pending ∧
    (countTimes (countControl c) n s).cb.snapshot = s.cb.snapshot ∧
    (countTimes (countControl c) n s).cb.valid = s.cb.valid ∧
    (countTimes (countControl c) n s).cb.capture = s.cb.capture ∧
    (countTimes (countControl c) n s).cb.pending = s.cb.pending ∧
    (countTimes (countControl c) n s).cb.captureDue = s.cb.captureDue := by
  refine ⟨?_, ?_, ?_, ?_, ?_, ?_, ?_, ?_⟩
  · exact countTimes_frame (fun x => x.st) _ (fun s => by simp) n s
  · exact countTimes_frame (fun x => x.cp) _ (fun s => by simp) n s
  · exact countTimes_frame (fun x => x.pending) _ (fun s => by simp) n s
  · exact countTimes_frame (fun x => x.cb.snapshot) _ (fun s => by simp) n s
  · exact countTimes_frame (fun x => x.cb.valid) _ (fun s => by simp) n s
  · exact countTimes_frame (fun x => x.cb.capture) _ (fun s => by simp) n s
  · exact countTimes_frame (fun x => x.cb.pending) _ (fun s => by simp) n s
  · exact countTimes_frame (fun x => x.cb.captureDue) _ (fun s => by simp) n s

@[simp] theorem countTimes_countControl_frame_3 (c : ControlCounter) (n : Nat) (s : State) :
    (countTimes (countControl c) n s).cb.live.tenants = s.cb.live.tenants ∧
    (countTimes (countControl c) n s).cb.live.timing = s.cb.live.timing ∧
    (countTimes (countControl c) n s).cb.live.test = s.cb.live.test := by
  refine ⟨?_, ?_, ?_⟩
  · exact countTimes_frame (fun x => x.cb.live.tenants) _ (fun s => by simp) n s
  · exact countTimes_frame (fun x => x.cb.live.timing) _ (fun s => by simp) n s
  · exact countTimes_frame (fun x => x.cb.live.test) _ (fun s => by simp) n s

/-! `offerReport` -/

@[simp] theorem offerReport_frame (r : Report) (s : State) :
    (offerReport r s).mp = s.mp ∧ (offerReport r s).sf = s.sf ∧ (offerReport r s).ps = s.ps ∧
    (offerReport r s).mc = s.mc ∧ (offerReport r s).lc = s.lc ∧ (offerReport r s).tn = s.tn ∧
    (offerReport r s).ca = s.ca ∧ (offerReport r s).tm = s.tm := by
  refine ⟨?_, ?_, ?_, ?_, ?_, ?_, ?_, ?_⟩ <;>
    (unfold offerReport; split <;> simp)

@[simp] theorem offerReport_frame_2 (r : Report) (s : State) :
    (offerReport r s).st = s.st ∧ (offerReport r s).pending = s.pending ∧
    (offerReport r s).cb.snapshot = s.cb.snapshot ∧ (offerReport r s).cb.valid = s.cb.valid ∧
    (offerReport r s).cb.capture = s.cb.capture ∧ (offerReport r s).cb.pending = s.cb.pending ∧
    (offerReport r s).cb.captureDue = s.cb.captureDue ∧ (offerReport r s).cb.live.tenants = s.cb.live.tenants := by
  refine ⟨?_, ?_, ?_, ?_, ?_, ?_, ?_, ?_⟩
  iterate 7
    · unfold offerReport; split <;> simp
  · simp [offerReport, apply_ite State.cb, apply_ite CB.live, apply_ite Bank.tenants]

@[simp] theorem offerReport_frame_3 (r : Report) (s : State) :
    (offerReport r s).cb.live.timing = s.cb.live.timing ∧ (offerReport r s).cb.live.test = s.cb.live.test ∧
    (offerReport r s).cp.rate = s.cp.rate ∧ (offerReport r s).cp.receiver = s.cp.receiver ∧
    (offerReport r s).cp.buffer = s.cp.buffer ∧ (offerReport r s).cp.service = s.cp.service ∧
    (offerReport r s).cp.attention = s.cp.attention ∧ (offerReport r s).cp.resetDue = s.cp.resetDue := by
  refine ⟨?_, ?_, ?_, ?_, ?_, ?_, ?_, ?_⟩
  · simp [offerReport, apply_ite State.cb, apply_ite CB.live, apply_ite Bank.timing]
  · simp [offerReport, apply_ite State.cb, apply_ite CB.live, apply_ite Bank.test]
  iterate 6
    · unfold offerReport; split <;> simp

/-! `report` -/

@[simp] theorem report_frame (k : ReportKind) (n : Nat) (d : List Byte) (s : State) :
    (report k n d s).mp = s.mp ∧ (report k n d s).sf = s.sf ∧ (report k n d s).ps = s.ps ∧
    (report k n d s).mc = s.mc ∧ (report k n d s).lc = s.lc ∧ (report k n d s).tn = s.tn ∧
    (report k n d s).ca = s.ca ∧ (report k n d s).tm = s.tm := by
  refine ⟨?_, ?_, ?_, ?_, ?_, ?_, ?_, ?_⟩ <;>
    simp [report]

@[simp] theorem report_frame_2 (k : ReportKind) (n : Nat) (d : List Byte) (s : State) :
    (report k n d s).st = s.st ∧ (report k n d s).pending = s.pending ∧ (report k n d s).cb.snapshot = s.cb.snapshot ∧
    (report k n d s).cb.valid = s.cb.valid ∧ (report k n d s).cb.capture = s.cb.capture ∧
    (report k n d s).cb.pending = s.cb.pending ∧ (report k n d s).cb.captureDue = s.cb.captureDue ∧
    (report k n d s).cb.live.tenants = s.cb.live.tenants := by
  refine ⟨?_, ?_, ?_, ?_, ?_, ?_, ?_, ?_⟩ <;>
    simp [report]

@[simp] theorem report_frame_3 (k : ReportKind) (n : Nat) (d : List Byte) (s : State) :
    (report k n d s).cb.live.timing = s.cb.live.timing ∧ (report k n d s).cb.live.test = s.cb.live.test ∧
    (report k n d s).cp.rate = s.cp.rate ∧ (report k n d s).cp.receiver = s.cp.receiver ∧
    (report k n d s).cp.buffer = s.cp.buffer ∧ (report k n d s).cp.service = s.cp.service ∧
    (report k n d s).cp.attention = s.cp.attention ∧ (report k n d s).cp.resetDue = s.cp.resetDue := by
  refine ⟨?_, ?_, ?_, ?_, ?_, ?_, ?_, ?_⟩ <;>
    simp [report]

/-! `offerQueue` -/

@[simp] theorem offerQueue_frame (m : LinkMessage) (s : State) :
    ((offerQueue m s).1).mp = s.mp ∧ ((offerQueue m s).1).sf = s.sf ∧ ((offerQueue m s).1).ps = s.ps ∧
    ((offerQueue m s).1).lc = s.lc ∧ ((offerQueue m s).1).tn = s.tn ∧ ((offerQueue m s).1).ca = s.ca ∧
    ((offerQueue m s).1).tm = s.tm ∧ ((offerQueue m s).1).st = s.st := by
  refine ⟨?_, ?_, ?_, ?_, ?_, ?_, ?_, ?_⟩ <;>
    (unfold offerQueue; (repeat' split) <;> simp)

@[simp] theorem offerQueue_frame_2 (m : LinkMessage) (s : State) :
    ((offerQueue m s).1).cp = s.cp ∧ ((offerQueue m s).1).pending = s.pending ∧
    ((offerQueue m s).1).mc.restart = s.mc.restart ∧ ((offerQueue m s).1).mc.inbox = s.mc.inbox ∧
    ((offerQueue m s).1).mc.flagCount = s.mc.flagCount ∧ ((offerQueue m s).1).cb.snapshot = s.cb.snapshot ∧
    ((offerQueue m s).1).cb.valid = s.cb.valid ∧ ((offerQueue m s).1).cb.capture = s.cb.capture := by
  refine ⟨?_, ?_, ?_, ?_, ?_, ?_, ?_, ?_⟩ <;>
    (unfold offerQueue; (repeat' split) <;> simp)

@[simp] theorem offerQueue_frame_3 (m : LinkMessage) (s : State) :
    ((offerQueue m s).1).cb.pending = s.cb.pending ∧ ((offerQueue m s).1).cb.captureDue = s.cb.captureDue ∧
    ((offerQueue m s).1).cb.live.tenants = s.cb.live.tenants ∧
    ((offerQueue m s).1).cb.live.timing = s.cb.live.timing ∧ ((offerQueue m s).1).cb.live.test = s.cb.live.test := by
  refine ⟨?_, ?_, ?_, ?_, ?_⟩ <;>
    (unfold offerQueue; (repeat' split) <;> simp)

/-! `setKept` -/

@[simp] theorem setKept_frame (p : Producer) (ks : List KeptMessage) (s : State) :
    (setKept p ks s).mp = s.mp ∧ (setKept p ks s).sf = s.sf ∧ (setKept p ks s).ps = s.ps ∧
    (setKept p ks s).mc = s.mc ∧ (setKept p ks s).tn = s.tn ∧ (setKept p ks s).ca = s.ca ∧
    (setKept p ks s).tm = s.tm ∧ (setKept p ks s).cb = s.cb := by
  refine ⟨?_, ?_, ?_, ?_, ?_, ?_, ?_, ?_⟩ <;>
    (unfold setKept; split <;> simp)

@[simp] theorem setKept_frame_2 (p : Producer) (ks : List KeptMessage) (s : State) :
    (setKept p ks s).cp = s.cp ∧ (setKept p ks s).pending = s.pending ∧ (setKept p ks s).lc.role = s.lc.role ∧
    (setKept p ks s).lc.identity = s.lc.identity ∧ (setKept p ks s).lc.link = s.lc.link ∧
    (setKept p ks s).lc.stop = s.lc.stop ∧ (setKept p ks s).lc.history = s.lc.history ∧
    (setKept p ks s).lc.hostMax = s.lc.hostMax := by
  refine ⟨?_, ?_, ?_, ?_, ?_, ?_, ?_, ?_⟩ <;>
    (unfold setKept; split <;> simp)

@[simp] theorem setKept_frame_3 (p : Producer) (ks : List KeptMessage) (s : State) :
    (setKept p ks s).st.errored = s.st.errored ∧ (setKept p ks s).st.bits = s.st.bits ∧
    (setKept p ks s).st.commissioned = s.st.commissioned ∧ (setKept p ks s).st.kind = s.st.kind ∧
    (setKept p ks s).st.frames = s.st.frames ∧ (setKept p ks s).st.test = s.st.test := by
  refine ⟨?_, ?_, ?_, ?_, ?_, ?_⟩ <;>
    (unfold setKept; split <;> simp)

theorem send_eq (p : Producer) (m : LinkMessage) (s : State) :
    send p m s =
      if keptOf p s = [] then
        if (offerQueue m s).2 then (offerQueue m s).1 else setKept p [⟨m, true⟩] (offerQueue m s).1
      else setKept p (keepMessage m false (keptOf p s)) s := by
  unfold send
  rcases offerQueue m s with ⟨s', b⟩
  cases b <;> rfl

/-! `send` -/

@[simp] theorem send_frame (p : Producer) (m : LinkMessage) (s : State) :
    (send p m s).mp = s.mp ∧ (send p m s).sf = s.sf ∧ (send p m s).ps = s.ps ∧ (send p m s).tn = s.tn ∧
    (send p m s).ca = s.ca ∧ (send p m s).tm = s.tm ∧ (send p m s).cp = s.cp ∧ (send p m s).pending = s.pending := by
  refine ⟨?_, ?_, ?_, ?_, ?_, ?_, ?_, ?_⟩ <;>
    (rw [send_eq]; (repeat' split) <;> simp)

@[simp] theorem send_frame_2 (p : Producer) (m : LinkMessage) (s : State) :
    (send p m s).mc.restart = s.mc.restart ∧ (send p m s).mc.inbox = s.mc.inbox ∧
    (send p m s).mc.flagCount = s.mc.flagCount ∧ (send p m s).lc.role = s.lc.role ∧
    (send p m s).lc.identity = s.lc.identity ∧ (send p m s).lc.link = s.lc.link ∧ (send p m s).lc.stop = s.lc.stop ∧
    (send p m s).lc.history = s.lc.history := by
  refine ⟨?_, ?_, ?_, ?_, ?_, ?_, ?_, ?_⟩ <;>
    (rw [send_eq]; (repeat' split) <;> simp)

@[simp] theorem send_frame_3 (p : Producer) (m : LinkMessage) (s : State) :
    (send p m s).lc.hostMax = s.lc.hostMax ∧ (send p m s).st.errored = s.st.errored ∧
    (send p m s).st.bits = s.st.bits ∧ (send p m s).st.commissioned = s.st.commissioned ∧
    (send p m s).st.kind = s.st.kind ∧ (send p m s).st.frames = s.st.frames ∧ (send p m s).st.test = s.st.test ∧
    (send p m s).cb.snapshot = s.cb.snapshot := by
  refine ⟨?_, ?_, ?_, ?_, ?_, ?_, ?_, ?_⟩ <;>
    (rw [send_eq]; (repeat' split) <;> simp)

@[simp] theorem send_frame_4 (p : Producer) (m : LinkMessage) (s : State) :
    (send p m s).cb.valid = s.cb.valid ∧ (send p m s).cb.capture = s.cb.capture ∧
    (send p m s).cb.pending = s.cb.pending ∧ (send p m s).cb.captureDue = s.cb.captureDue ∧
    (send p m s).cb.live.tenants = s.cb.live.tenants ∧ (send p m s).cb.live.timing = s.cb.live.timing ∧
    (send p m s).cb.live.test = s.cb.live.test := by
  refine ⟨?_, ?_, ?_, ?_, ?_, ?_, ?_⟩ <;>
    (rw [send_eq]; (repeat' split) <;> simp)

theorem retryMessages_cons (k : KeptMessage) (ks : List KeptMessage) (s : State) :
    retryMessages (k :: ks) s =
      if k.fresh then (s, k :: ks)
      else if (offerQueue k.message s).2 then retryMessages ks (offerQueue k.message s).1
      else ((offerQueue k.message s).1, k :: ks) := by
  rw [retryMessages]
  rcases offerQueue k.message s with ⟨s', b⟩
  cases b <;> rfl

/-! `retryMessages` -/

@[simp] theorem retryMessages_frame (ks : List KeptMessage) (s : State) :
    ((retryMessages ks s).1).mp = s.mp ∧ ((retryMessages ks s).1).sf = s.sf ∧ ((retryMessages ks s).1).ps = s.ps ∧
    ((retryMessages ks s).1).lc = s.lc ∧ ((retryMessages ks s).1).tn = s.tn ∧ ((retryMessages ks s).1).ca = s.ca ∧
    ((retryMessages ks s).1).tm = s.tm ∧ ((retryMessages ks s).1).st = s.st := by
  refine ⟨?_, ?_, ?_, ?_, ?_, ?_, ?_, ?_⟩ <;>
    ((induction ks generalizing s with | nil => rfl | cons k ks ih => (rw [retryMessages_cons]; (repeat' split) <;> simp_all)))

@[simp] theorem retryMessages_frame_2 (ks : List KeptMessage) (s : State) :
    ((retryMessages ks s).1).cp = s.cp ∧ ((retryMessages ks s).1).pending = s.pending ∧
    ((retryMessages ks s).1).mc.restart = s.mc.restart ∧ ((retryMessages ks s).1).mc.inbox = s.mc.inbox ∧
    ((retryMessages ks s).1).mc.flagCount = s.mc.flagCount ∧ ((retryMessages ks s).1).cb.snapshot = s.cb.snapshot ∧
    ((retryMessages ks s).1).cb.valid = s.cb.valid ∧ ((retryMessages ks s).1).cb.capture = s.cb.capture := by
  refine ⟨?_, ?_, ?_, ?_, ?_, ?_, ?_, ?_⟩ <;>
    ((induction ks generalizing s with | nil => rfl | cons k ks ih => (rw [retryMessages_cons]; (repeat' split) <;> simp_all)))

@[simp] theorem retryMessages_frame_3 (ks : List KeptMessage) (s : State) :
    ((retryMessages ks s).1).cb.pending = s.cb.pending ∧ ((retryMessages ks s).1).cb.captureDue = s.cb.captureDue ∧
    ((retryMessages ks s).1).cb.live.tenants = s.cb.live.tenants ∧
    ((retryMessages ks s).1).cb.live.timing = s.cb.live.timing ∧
    ((retryMessages ks s).1).cb.live.test = s.cb.live.test := by
  refine ⟨?_, ?_, ?_, ?_, ?_⟩ <;>
    ((induction ks generalizing s with | nil => rfl | cons k ks ih => (rw [retryMessages_cons]; (repeat' split) <;> simp_all)))

/-! `offerTime` -/

@[simp] theorem offerTime_frame (m : LinkMessage) (s : State) :
    (offerTime m s).mp = s.mp ∧ (offerTime m s).sf = s.sf ∧ (offerTime m s).ps = s.ps ∧ (offerTime m s).lc = s.lc ∧
    (offerTime m s).tn = s.tn ∧ (offerTime m s).ca = s.ca ∧ (offerTime m s).tm = s.tm ∧ (offerTime m s).st = s.st := by
  refine ⟨?_, ?_, ?_, ?_, ?_, ?_, ?_, ?_⟩ <;>
    (unfold offerTime; split <;> simp)

@[simp] theorem offerTime_frame_2 (m : LinkMessage) (s : State) :
    (offerTime m s).cp = s.cp ∧ (offerTime m s).pending = s.pending ∧ (offerTime m s).mc.restart = s.mc.restart ∧
    (offerTime m s).mc.inbox = s.mc.inbox ∧ (offerTime m s).mc.flagCount = s.mc.flagCount ∧
    (offerTime m s).cb.snapshot = s.cb.snapshot ∧ (offerTime m s).cb.valid = s.cb.valid ∧
    (offerTime m s).cb.capture = s.cb.capture := by
  refine ⟨?_, ?_, ?_, ?_, ?_, ?_, ?_, ?_⟩ <;>
    (unfold offerTime; split <;> simp)

@[simp] theorem offerTime_frame_3 (m : LinkMessage) (s : State) :
    (offerTime m s).cb.pending = s.cb.pending ∧ (offerTime m s).cb.captureDue = s.cb.captureDue ∧
    (offerTime m s).cb.live.tenants = s.cb.live.tenants ∧ (offerTime m s).cb.live.timing = s.cb.live.timing ∧
    (offerTime m s).cb.live.test = s.cb.live.test := by
  refine ⟨?_, ?_, ?_, ?_, ?_⟩
  iterate 2
    · unfold offerTime; split <;> simp
  · simp [offerTime, apply_ite State.cb, apply_ite CB.live, apply_ite Bank.tenants]
  · simp [offerTime, apply_ite State.cb, apply_ite CB.live, apply_ite Bank.timing]
  · simp [offerTime, apply_ite State.cb, apply_ite CB.live, apply_ite Bank.test]

/-! `placeRepeat` -/

@[simp] theorem placeRepeat_frame (m : LinkMessage) (s : State) :
    (placeRepeat m s).mp = s.mp ∧ (placeRepeat m s).sf = s.sf ∧ (placeRepeat m s).ps = s.ps ∧
    (placeRepeat m s).lc = s.lc ∧ (placeRepeat m s).tn = s.tn ∧ (placeRepeat m s).ca = s.ca ∧
    (placeRepeat m s).tm = s.tm ∧ (placeRepeat m s).st = s.st ∧ (placeRepeat m s).cb = s.cb ∧
    (placeRepeat m s).cp = s.cp ∧ (placeRepeat m s).pending = s.pending ∧
    (placeRepeat m s).mc.restart = s.mc.restart ∧ (placeRepeat m s).mc.inbox = s.mc.inbox ∧
    (placeRepeat m s).mc.flagCount = s.mc.flagCount :=
  ⟨rfl, rfl, rfl, rfl, rfl, rfl, rfl, rfl, rfl, rfl, rfl, rfl, rfl, rfl⟩

/-! `clearRepeat` -/

@[simp] theorem clearRepeat_frame (s : State) :
    (clearRepeat s).mp = s.mp ∧ (clearRepeat s).sf = s.sf ∧ (clearRepeat s).ps = s.ps ∧ (clearRepeat s).lc = s.lc ∧
    (clearRepeat s).tn = s.tn ∧ (clearRepeat s).ca = s.ca ∧ (clearRepeat s).tm = s.tm ∧ (clearRepeat s).st = s.st ∧
    (clearRepeat s).cb = s.cb ∧ (clearRepeat s).cp = s.cp ∧ (clearRepeat s).pending = s.pending ∧
    (clearRepeat s).mc.restart = s.mc.restart ∧ (clearRepeat s).mc.inbox = s.mc.inbox ∧
    (clearRepeat s).mc.flagCount = s.mc.flagCount :=
  ⟨rfl, rfl, rfl, rfl, rfl, rfl, rfl, rfl, rfl, rfl, rfl, rfl, rfl, rfl⟩

/-! `countIf` -/

/-- What no single count changes, a conditional count leaves alone. -/
theorem countIf_frame {α : Type} (g : State → α) (cond : Bool) (count : State → State) (h : ∀ s, g (count s) = g s)
    (s : State) : g (countIf cond count s) = g s := by
  unfold countIf
  split <;> simp [h]

/-! `countArea` and `uncountArea` -/

@[simp] theorem Bank.withSent_tenants (c : SentCounts) (b : Bank) : (b.withSent c).tenants = b.tenants := rfl
@[simp] theorem Bank.withSent_link (c : SentCounts) (b : Bank) : (b.withSent c).link = b.link := rfl
@[simp] theorem Bank.withSent_test (c : SentCounts) (b : Bank) : (b.withSent c).test = b.test := rfl
@[simp] theorem Bank.withSent_control (c : SentCounts) (b : Bank) : (b.withSent c).control = b.control := rfl

/-- Taking an area's counts back changes the live counters alone. -/
theorem uncountArea_eq (s : State) :
    uncountArea s = { s with cb := { s.cb with live := (uncountArea s).cb.live } } := by
  simp only [uncountArea, State.modCB]
  split <;> rfl

/-- Of the live counters, those of the channel and the timing group alone. -/
theorem uncountArea_live (s : State) :
    (uncountArea s).cb.live =
      { s.cb.live with channel := (uncountArea s).cb.live.channel, timing := (uncountArea s).cb.live.timing } := by
  simp only [uncountArea, State.modCB]
  split <;> rfl

/-- What neither the live counters nor the counts before hold, counting an area leaves alone. -/
theorem countArea_keeps {α : Type} (g : State → α)
    (h : ∀ (b : Bank) (o : Option SentCounts) (s : State), g { s with cb := { s.cb with live := b, beforeArea := o } } = g s)
    (placed : Nat) (request response : Bool) (s : State) : g (countArea placed request response s) = g s := by
  have hc : ∀ c s, g (countChannel c s) = g s := fun c s => h _ s.cb.beforeArea s
  have ht : ∀ c s, g (countTiming c s) = g s := fun c s => h _ s.cb.beforeArea s
  simp only [countArea]
  rw [countIf_frame g _ _ (ht _), countIf_frame g _ _ (ht _), countTimes_frame g _ (hc _)]
  exact h s.cb.live _ s

@[simp] theorem countArea_frame (p : Nat) (q r : Bool) (s : State) :
    (countArea p q r s).mp = s.mp ∧ (countArea p q r s).sf = s.sf ∧ (countArea p q r s).ps = s.ps ∧
    (countArea p q r s).mc = s.mc ∧ (countArea p q r s).lc = s.lc ∧ (countArea p q r s).tn = s.tn ∧
    (countArea p q r s).ca = s.ca ∧ (countArea p q r s).tm = s.tm :=
  ⟨countArea_keeps (·.mp) (fun _ _ _ => rfl) p q r s, countArea_keeps (·.sf) (fun _ _ _ => rfl) p q r s, countArea_keeps (·.ps) (fun _ _ _ => rfl) p q r s, countArea_keeps (·.mc) (fun _ _ _ => rfl) p q r s, countArea_keeps (·.lc) (fun _ _ _ => rfl) p q r s, countArea_keeps (·.tn) (fun _ _ _ => rfl) p q r s, countArea_keeps (·.ca) (fun _ _ _ => rfl) p q r s, countArea_keeps (·.tm) (fun _ _ _ => rfl) p q r s⟩

@[simp] theorem countArea_frame_2 (p : Nat) (q r : Bool) (s : State) :
    (countArea p q r s).st = s.st ∧ (countArea p q r s).cp = s.cp ∧ (countArea p q r s).pending = s.pending ∧
    (countArea p q r s).cb.snapshot = s.cb.snapshot ∧ (countArea p q r s).cb.valid = s.cb.valid ∧
    (countArea p q r s).cb.capture = s.cb.capture ∧ (countArea p q r s).cb.pending = s.cb.pending ∧
    (countArea p q r s).cb.captureDue = s.cb.captureDue :=
  ⟨countArea_keeps (·.st) (fun _ _ _ => rfl) p q r s, countArea_keeps (·.cp) (fun _ _ _ => rfl) p q r s, countArea_keeps (·.pending) (fun _ _ _ => rfl) p q r s, countArea_keeps (·.cb.snapshot) (fun _ _ _ => rfl) p q r s, countArea_keeps (·.cb.valid) (fun _ _ _ => rfl) p q r s, countArea_keeps (·.cb.capture) (fun _ _ _ => rfl) p q r s, countArea_keeps (·.cb.pending) (fun _ _ _ => rfl) p q r s, countArea_keeps (·.cb.captureDue) (fun _ _ _ => rfl) p q r s⟩

@[simp] theorem countArea_live (p : Nat) (q r : Bool) (s : State) :
    (countArea p q r s).cb.live.tenants = s.cb.live.tenants ∧ (countArea p q r s).cb.live.link = s.cb.live.link ∧
    (countArea p q r s).cb.live.test = s.cb.live.test ∧ (countArea p q r s).cb.live.control = s.cb.live.control := by
  simp only [countArea]
  refine ⟨?_, ?_, ?_, ?_⟩
  · rw [countIf_frame (·.cb.live.tenants) _ _ (by simp), countIf_frame (·.cb.live.tenants) _ _ (by simp),
      countTimes_frame (·.cb.live.tenants) _ (by simp)]; rfl
  · rw [countIf_frame (·.cb.live.link) _ _ (by simp [countTiming]), countIf_frame (·.cb.live.link) _ _ (by simp [countTiming]),
      countTimes_frame (·.cb.live.link) _ (by simp [countChannel])]; rfl
  · rw [countIf_frame (·.cb.live.test) _ _ (by simp), countIf_frame (·.cb.live.test) _ _ (by simp),
      countTimes_frame (·.cb.live.test) _ (by simp)]; rfl
  · rw [countIf_frame (·.cb.live.control) _ _ (by simp [countTiming]),
      countIf_frame (·.cb.live.control) _ _ (by simp [countTiming]),
      countTimes_frame (·.cb.live.control) _ (by simp [countChannel])]; rfl

/-- The counters that the composition of an area counts in. -/
theorem countArea_counts (p : Nat) (q r : Bool) (s : State) :
    (countArea p q r s).cb.live.channel = (countTimes (countChannel .messagesSent) p s).cb.live.channel ∧
    (countArea p q r s).cb.live.timing =
      (countIf r (countTiming .responsesSent) (countIf q (countTiming .requestsSent) s)).cb.live.timing ∧
    (countArea p q r s).cb.beforeArea = some s.cb.live.sent := by
  have hn : ∀ (n : Nat) (s t : State), s.cb.live.channel = t.cb.live.channel →
      (countTimes (countChannel .messagesSent) n s).cb.live.channel =
        (countTimes (countChannel .messagesSent) n t).cb.live.channel := by
    intro n
    induction n with
    | zero => exact fun _ _ h => h
    | succ n ih => exact fun s t h => ih _ _ (by simp [countChannel, State.modCB, h])
  simp only [countArea]
  refine ⟨?_, ?_, ?_⟩
  · rw [countIf_frame (·.cb.live.channel) _ _ (by simp [countTiming, State.modCB]),
      countIf_frame (·.cb.live.channel) _ _ (by simp [countTiming, State.modCB])]
    exact hn _ _ _ rfl
  · have h := countTimes_frame (·.cb.live.timing) (countChannel .messagesSent) (by simp [countChannel, State.modCB]) p
      (s.modCB fun cb => { cb with beforeArea := some cb.live.sent })
    cases q <;> cases r <;> simp [countIf, countTiming, State.modCB] at h ⊢ <;> simp [h]
  · rw [countIf_frame (·.cb.beforeArea) _ _ (by simp [countTiming, State.modCB]),
      countIf_frame (·.cb.beforeArea) _ _ (by simp [countTiming, State.modCB]),
      countTimes_frame (·.cb.beforeArea) _ (by simp [countChannel, State.modCB])]; rfl

@[simp] theorem uncountArea_frame (s : State) :
    (uncountArea s).mp = s.mp ∧ (uncountArea s).sf = s.sf ∧ (uncountArea s).ps = s.ps ∧ (uncountArea s).mc = s.mc ∧
    (uncountArea s).lc = s.lc ∧ (uncountArea s).tn = s.tn ∧ (uncountArea s).ca = s.ca ∧ (uncountArea s).tm = s.tm :=
  by rw [uncountArea_eq]; simp

@[simp] theorem uncountArea_frame_2 (s : State) :
    (uncountArea s).st = s.st ∧ (uncountArea s).cp = s.cp ∧ (uncountArea s).pending = s.pending :=
  by rw [uncountArea_eq]; simp

@[simp] theorem uncountArea_cb (s : State) :
    (uncountArea s).cb.snapshot = s.cb.snapshot ∧ (uncountArea s).cb.valid = s.cb.valid ∧
    (uncountArea s).cb.capture = s.cb.capture ∧ (uncountArea s).cb.pending = s.cb.pending ∧
    (uncountArea s).cb.captureDue = s.cb.captureDue ∧ (uncountArea s).cb.beforeArea = s.cb.beforeArea ∧
    (uncountArea s).cb.live.tenants = s.cb.live.tenants ∧ (uncountArea s).cb.live.link = s.cb.live.link ∧
    (uncountArea s).cb.live.test = s.cb.live.test ∧ (uncountArea s).cb.live.control = s.cb.live.control := by
  refine ⟨?_, ?_, ?_, ?_, ?_, ?_, (congrArg Bank.tenants (uncountArea_live s)).trans rfl, (congrArg Bank.link (uncountArea_live s)).trans rfl,
    (congrArg Bank.test (uncountArea_live s)).trans rfl, (congrArg Bank.control (uncountArea_live s)).trans rfl⟩ <;> rw [uncountArea_eq]

/-! `openBoundary` -/

/-- The opening of a boundary, but for the counts: each block is opened. -/
@[simp] theorem openBoundary_blocks (s : State) :
    (openBoundary s).mp = openMP s.mp ∧ (openBoundary s).ps = openPS s.ps ∧
    (openBoundary s).mc = { s.mc with restart := s.mc.restart.age, abortArea := false, released := 0 } ∧
    (openBoundary s).lc = openLC (openMP s.mp).frame s.lc ∧
    (openBoundary s).ca = { s.ca with windowDue := (openMP s.mp).frame.toNat % 256 == 0 } ∧
    (openBoundary s).tm = openTM s.tm ∧
    (openBoundary s).st = { s.st with retryDue := true, kept := unfreshen s.st.kept } := by
  refine ⟨?_, ?_, ?_, ?_, ?_, ?_, ?_⟩ <;>
    (simp only [openBoundary]; (repeat' split) <;> simp)

@[simp] theorem openBoundary_frame (s : State) :
    (openBoundary s).sf = s.sf ∧ (openBoundary s).tn = s.tn ∧ (openBoundary s).cp = s.cp ∧
    (openBoundary s).pending = s.pending := by
  refine ⟨?_, ?_, ?_, ?_⟩ <;>
    (simp only [openBoundary]; (repeat' split) <;> simp)

@[simp] theorem openBoundary_frame_2 (s : State) :
    (openBoundary s).cb.snapshot = s.cb.snapshot ∧ (openBoundary s).cb.valid = s.cb.valid ∧
    (openBoundary s).cb.capture = s.cb.capture ∧ (openBoundary s).cb.pending = s.cb.pending ∧
    (openBoundary s).cb.live.tenants = s.cb.live.tenants ∧ (openBoundary s).cb.live.test = s.cb.live.test := by
  refine ⟨?_, ?_, ?_, ?_, ?_, ?_⟩ <;>
    (simp only [openBoundary]; (repeat' split) <;> simp)

/-! `setLoopSwitch` -/

@[simp] theorem setLoopSwitch_frame (on : Bool) (s : State) :
    (setLoopSwitch on s).sf = s.sf ∧ (setLoopSwitch on s).ps = s.ps ∧ (setLoopSwitch on s).mc = s.mc ∧
    (setLoopSwitch on s).lc = s.lc ∧ (setLoopSwitch on s).tn = s.tn ∧ (setLoopSwitch on s).ca = s.ca ∧
    (setLoopSwitch on s).tm = s.tm ∧ (setLoopSwitch on s).st = s.st ∧ (setLoopSwitch on s).cb = s.cb ∧
    (setLoopSwitch on s).cp = s.cp ∧ (setLoopSwitch on s).pending = s.pending ∧
    (setLoopSwitch on s).mp.frame = s.mp.frame ∧ (setLoopSwitch on s).mp.composed = s.mp.composed ∧
    (setLoopSwitch on s).mp.rxTaken = s.mp.rxTaken ∧ (setLoopSwitch on s).mp.tx = s.mp.tx ∧
    (setLoopSwitch on s).mp.txBefore = s.mp.txBefore ∧ (setLoopSwitch on s).mp.loopback = s.mp.loopback :=
  ⟨rfl, rfl, rfl, rfl, rfl, rfl, rfl, rfl, rfl, rfl, rfl, rfl, rfl, rfl, rfl, rfl, rfl⟩

end Sys2Proof.Machine
end

