-- ==== Sys2Proof/Laws/SelfTest.lean ====
section
/-! SUPPORT. What the operations of the Self-Test leave alone. -/

set_option linter.unusedSimpArgs false

namespace Sys2Proof.Machine

/-! `tryDone` -/

@[simp] theorem tryDone_frame (s : State) :
    (tryDone s).mp = s.mp ∧ (tryDone s).sf = s.sf ∧ (tryDone s).ps = s.ps ∧ (tryDone s).mc = s.mc ∧
    (tryDone s).lc = s.lc ∧ (tryDone s).tn = s.tn ∧ (tryDone s).ca = s.ca ∧ (tryDone s).tm = s.tm := by
  refine ⟨?_, ?_, ?_, ?_, ?_, ?_, ?_, ?_⟩
  · simp [tryDone, apply_ite State.mp]
  · simp [tryDone, apply_ite State.sf]
  · simp [tryDone, apply_ite State.ps]
  · simp [tryDone, apply_ite State.mc]
  · simp [tryDone, apply_ite State.lc]
  · simp [tryDone, apply_ite State.tn]
  · simp [tryDone, apply_ite State.ca]
  · simp [tryDone, apply_ite State.tm]

@[simp] theorem tryDone_frame_2 (s : State) :
    (tryDone s).pending = s.pending ∧ (tryDone s).st.errored = s.st.errored ∧ (tryDone s).st.bits = s.st.bits ∧
    (tryDone s).st.commissioned = s.st.commissioned ∧ (tryDone s).st.kind = s.st.kind ∧
    (tryDone s).st.frames = s.st.frames ∧ (tryDone s).st.test = s.st.test ∧ (tryDone s).cb.snapshot = s.cb.snapshot := by
  refine ⟨?_, ?_, ?_, ?_, ?_, ?_, ?_, ?_⟩
  · simp [tryDone, apply_ite State.pending]
  · simp [tryDone, apply_ite State.st, apply_ite ST.errored]
  · simp [tryDone, apply_ite State.st, apply_ite ST.bits]
  · simp [tryDone, apply_ite State.st, apply_ite ST.commissioned]
  · simp [tryDone, apply_ite State.st, apply_ite ST.kind]
  · simp [tryDone, apply_ite State.st, apply_ite ST.frames]
  · simp [tryDone, apply_ite State.st, apply_ite ST.test]
  · simp [tryDone, apply_ite State.cb, apply_ite CB.snapshot]

@[simp] theorem tryDone_frame_3 (s : State) :
    (tryDone s).cb.valid = s.cb.valid ∧ (tryDone s).cb.capture = s.cb.capture ∧
    (tryDone s).cb.pending = s.cb.pending ∧ (tryDone s).cb.captureDue = s.cb.captureDue ∧
    (tryDone s).cb.live.tenants = s.cb.live.tenants ∧ (tryDone s).cb.live.timing = s.cb.live.timing ∧
    (tryDone s).cb.live.test = s.cb.live.test ∧ (tryDone s).cp.rate = s.cp.rate := by
  refine ⟨?_, ?_, ?_, ?_, ?_, ?_, ?_, ?_⟩
  · simp [tryDone, apply_ite State.cb, apply_ite CB.valid]
  · simp [tryDone, apply_ite State.cb, apply_ite CB.capture]
  · simp [tryDone, apply_ite State.cb, apply_ite CB.pending]
  · simp [tryDone, apply_ite State.cb, apply_ite CB.captureDue]
  · simp [tryDone, apply_ite State.cb, apply_ite CB.live, apply_ite Bank.tenants]
  · simp [tryDone, apply_ite State.cb, apply_ite CB.live, apply_ite Bank.timing]
  · simp [tryDone, apply_ite State.cb, apply_ite CB.live, apply_ite Bank.test]
  · simp [tryDone, apply_ite State.cp, apply_ite CP.rate]

@[simp] theorem tryDone_frame_4 (s : State) :
    (tryDone s).cp.receiver = s.cp.receiver ∧ (tryDone s).cp.buffer = s.cp.buffer ∧
    (tryDone s).cp.service = s.cp.service ∧ (tryDone s).cp.attention = s.cp.attention ∧
    (tryDone s).cp.resetDue = s.cp.resetDue := by
  refine ⟨?_, ?_, ?_, ?_, ?_⟩
  · simp [tryDone, apply_ite State.cp, apply_ite CP.receiver]
  · simp [tryDone, apply_ite State.cp, apply_ite CP.buffer]
  · simp [tryDone, apply_ite State.cp, apply_ite CP.service]
  · simp [tryDone, apply_ite State.cp, apply_ite CP.attention]
  · simp [tryDone, apply_ite State.cp, apply_ite CP.resetDue]

/-! `stopTest` -/

@[simp] theorem stopTest_frame (v : Option TestOutcome) (o a : Bool) (s : State) :
    (stopTest v o a s).sf = s.sf ∧ (stopTest v o a s).ps = s.ps ∧ (stopTest v o a s).tn = s.tn ∧
    (stopTest v o a s).ca = s.ca ∧ (stopTest v o a s).tm = s.tm ∧ (stopTest v o a s).pending = s.pending ∧
    (stopTest v o a s).mp.frame = s.mp.frame ∧ (stopTest v o a s).mp.composed = s.mp.composed := by
  refine ⟨?_, ?_, ?_, ?_, ?_, ?_, ?_, ?_⟩
  · simp [stopTest, apply_ite State.sf]
  · simp [stopTest, apply_ite State.ps]
  · simp [stopTest, apply_ite State.tn]
  · simp [stopTest, apply_ite State.ca]
  · simp [stopTest, apply_ite State.tm]
  · simp [stopTest, apply_ite State.pending]
  · simp [stopTest, apply_ite State.mp, apply_ite MP.frame]
  · simp [stopTest, apply_ite State.mp, apply_ite MP.composed]

@[simp] theorem stopTest_frame_2 (v : Option TestOutcome) (o a : Bool) (s : State) :
    (stopTest v o a s).mp.rxTaken = s.mp.rxTaken ∧ (stopTest v o a s).mp.tx = s.mp.tx ∧
    (stopTest v o a s).mp.txBefore = s.mp.txBefore ∧ (stopTest v o a s).mp.loopback = s.mp.loopback ∧
    (stopTest v o a s).mc.restart = s.mc.restart ∧ (stopTest v o a s).mc.inbox = s.mc.inbox ∧
    (stopTest v o a s).mc.flagCount = s.mc.flagCount ∧ (stopTest v o a s).lc.role = s.lc.role := by
  refine ⟨?_, ?_, ?_, ?_, ?_, ?_, ?_, ?_⟩
  · simp [stopTest, apply_ite State.mp, apply_ite MP.rxTaken]
  · simp [stopTest, apply_ite State.mp, apply_ite MP.tx]
  · simp [stopTest, apply_ite State.mp, apply_ite MP.txBefore]
  · simp [stopTest, apply_ite State.mp, apply_ite MP.loopback]
  · simp [stopTest, apply_ite State.mc, apply_ite MC.restart]
  · simp [stopTest, apply_ite State.mc, apply_ite MC.inbox]
  · simp [stopTest, apply_ite State.mc, apply_ite MC.flagCount]
  · simp [stopTest, apply_ite State.lc, apply_ite LC.role]

@[simp] theorem stopTest_frame_3 (v : Option TestOutcome) (o a : Bool) (s : State) :
    (stopTest v o a s).lc.identity = s.lc.identity ∧ (stopTest v o a s).lc.link = s.lc.link ∧
    (stopTest v o a s).lc.stop = s.lc.stop ∧ (stopTest v o a s).lc.history = s.lc.history ∧
    (stopTest v o a s).lc.hostMax = s.lc.hostMax ∧ (stopTest v o a s).st.errored = s.st.errored ∧
    (stopTest v o a s).st.bits = s.st.bits ∧ (stopTest v o a s).st.kind = s.st.kind := by
  refine ⟨?_, ?_, ?_, ?_, ?_, ?_, ?_, ?_⟩
  · simp [stopTest, apply_ite State.lc, apply_ite LC.identity]
  · simp [stopTest, apply_ite State.lc, apply_ite LC.link]
  · simp [stopTest, apply_ite State.lc, apply_ite LC.stop]
  · simp [stopTest, apply_ite State.lc, apply_ite LC.history]
  · simp [stopTest, apply_ite State.lc, apply_ite LC.hostMax]
  · simp [stopTest, apply_ite State.st, apply_ite ST.errored]
  · simp [stopTest, apply_ite State.st, apply_ite ST.bits]
  · simp [stopTest, apply_ite State.st, apply_ite ST.kind]

@[simp] theorem stopTest_frame_4 (v : Option TestOutcome) (o a : Bool) (s : State) :
    (stopTest v o a s).st.frames = s.st.frames ∧ (stopTest v o a s).st.test = s.st.test ∧
    (stopTest v o a s).cb.snapshot = s.cb.snapshot ∧ (stopTest v o a s).cb.valid = s.cb.valid ∧
    (stopTest v o a s).cb.capture = s.cb.capture ∧ (stopTest v o a s).cb.pending = s.cb.pending ∧
    (stopTest v o a s).cb.captureDue = s.cb.captureDue ∧ (stopTest v o a s).cb.live.tenants = s.cb.live.tenants := by
  refine ⟨?_, ?_, ?_, ?_, ?_, ?_, ?_, ?_⟩
  · simp [stopTest, apply_ite State.st, apply_ite ST.frames]
  · simp [stopTest, apply_ite State.st, apply_ite ST.test]
  · simp [stopTest, apply_ite State.cb, apply_ite CB.snapshot]
  · simp [stopTest, apply_ite State.cb, apply_ite CB.valid]
  · simp [stopTest, apply_ite State.cb, apply_ite CB.capture]
  · simp [stopTest, apply_ite State.cb, apply_ite CB.pending]
  · simp [stopTest, apply_ite State.cb, apply_ite CB.captureDue]
  · simp [stopTest, apply_ite State.cb, apply_ite CB.live, apply_ite Bank.tenants]

@[simp] theorem stopTest_frame_5 (v : Option TestOutcome) (o a : Bool) (s : State) :
    (stopTest v o a s).cb.live.timing = s.cb.live.timing ∧ (stopTest v o a s).cb.live.test = s.cb.live.test ∧
    (stopTest v o a s).cp.rate = s.cp.rate ∧ (stopTest v o a s).cp.receiver = s.cp.receiver ∧
    (stopTest v o a s).cp.buffer = s.cp.buffer ∧ (stopTest v o a s).cp.service = s.cp.service ∧
    (stopTest v o a s).cp.attention = s.cp.attention ∧ (stopTest v o a s).cp.resetDue = s.cp.resetDue := by
  refine ⟨?_, ?_, ?_, ?_, ?_, ?_, ?_, ?_⟩
  · simp [stopTest, apply_ite State.cb, apply_ite CB.live, apply_ite Bank.timing]
  · simp [stopTest, apply_ite State.cb, apply_ite CB.live, apply_ite Bank.test]
  · simp [stopTest, apply_ite State.cp, apply_ite CP.rate]
  · simp [stopTest, apply_ite State.cp, apply_ite CP.receiver]
  · simp [stopTest, apply_ite State.cp, apply_ite CP.buffer]
  · simp [stopTest, apply_ite State.cp, apply_ite CP.service]
  · simp [stopTest, apply_ite State.cp, apply_ite CP.attention]
  · simp [stopTest, apply_ite State.cp, apply_ite CP.resetDue]

/-! `finishTest` -/

@[simp] theorem finishTest_frame (s : State) :
    (finishTest s).sf = s.sf ∧ (finishTest s).ps = s.ps ∧ (finishTest s).tn = s.tn ∧ (finishTest s).ca = s.ca ∧
    (finishTest s).tm = s.tm ∧ (finishTest s).pending = s.pending ∧ (finishTest s).mp.frame = s.mp.frame ∧
    (finishTest s).mp.composed = s.mp.composed := by
  refine ⟨?_, ?_, ?_, ?_, ?_, ?_, ?_, ?_⟩
  · simp [finishTest, apply_ite State.sf]
  · simp [finishTest, apply_ite State.ps]
  · simp [finishTest, apply_ite State.tn]
  · simp [finishTest, apply_ite State.ca]
  · simp [finishTest, apply_ite State.tm]
  · simp [finishTest, apply_ite State.pending]
  · simp [finishTest, apply_ite State.mp, apply_ite MP.frame]
  · simp [finishTest, apply_ite State.mp, apply_ite MP.composed]

@[simp] theorem finishTest_frame_2 (s : State) :
    (finishTest s).mp.rxTaken = s.mp.rxTaken ∧ (finishTest s).mp.tx = s.mp.tx ∧
    (finishTest s).mp.txBefore = s.mp.txBefore ∧ (finishTest s).mp.loopback = s.mp.loopback ∧
    (finishTest s).mc.restart = s.mc.restart ∧ (finishTest s).mc.inbox = s.mc.inbox ∧
    (finishTest s).mc.flagCount = s.mc.flagCount ∧ (finishTest s).lc.role = s.lc.role := by
  refine ⟨?_, ?_, ?_, ?_, ?_, ?_, ?_, ?_⟩
  · simp [finishTest, apply_ite State.mp, apply_ite MP.rxTaken]
  · simp [finishTest, apply_ite State.mp, apply_ite MP.tx]
  · simp [finishTest, apply_ite State.mp, apply_ite MP.txBefore]
  · simp [finishTest, apply_ite State.mp, apply_ite MP.loopback]
  · simp [finishTest, apply_ite State.mc, apply_ite MC.restart]
  · simp [finishTest, apply_ite State.mc, apply_ite MC.inbox]
  · simp [finishTest, apply_ite State.mc, apply_ite MC.flagCount]
  · simp [finishTest, apply_ite State.lc, apply_ite LC.role]

@[simp] theorem finishTest_frame_3 (s : State) :
    (finishTest s).lc.identity = s.lc.identity ∧ (finishTest s).lc.link = s.lc.link ∧
    (finishTest s).lc.stop = s.lc.stop ∧ (finishTest s).lc.history = s.lc.history ∧
    (finishTest s).lc.hostMax = s.lc.hostMax ∧ (finishTest s).st.errored = s.st.errored ∧
    (finishTest s).st.bits = s.st.bits ∧ (finishTest s).st.kind = s.st.kind := by
  refine ⟨?_, ?_, ?_, ?_, ?_, ?_, ?_, ?_⟩
  · simp [finishTest, apply_ite State.lc, apply_ite LC.identity]
  · simp [finishTest, apply_ite State.lc, apply_ite LC.link]
  · simp [finishTest, apply_ite State.lc, apply_ite LC.stop]
  · simp [finishTest, apply_ite State.lc, apply_ite LC.history]
  · simp [finishTest, apply_ite State.lc, apply_ite LC.hostMax]
  · simp [finishTest, apply_ite State.st, apply_ite ST.errored]
  · simp [finishTest, apply_ite State.st, apply_ite ST.bits]
  · simp [finishTest, apply_ite State.st, apply_ite ST.kind]

@[simp] theorem finishTest_frame_4 (s : State) :
    (finishTest s).st.frames = s.st.frames ∧ (finishTest s).st.test = s.st.test ∧
    (finishTest s).cb.snapshot = s.cb.snapshot ∧ (finishTest s).cb.valid = s.cb.valid ∧
    (finishTest s).cb.capture = s.cb.capture ∧ (finishTest s).cb.pending = s.cb.pending ∧
    (finishTest s).cb.captureDue = s.cb.captureDue ∧ (finishTest s).cb.live.tenants = s.cb.live.tenants := by
  refine ⟨?_, ?_, ?_, ?_, ?_, ?_, ?_, ?_⟩
  · simp [finishTest, apply_ite State.st, apply_ite ST.frames]
  · simp [finishTest, apply_ite State.st, apply_ite ST.test]
  · simp [finishTest, apply_ite State.cb, apply_ite CB.snapshot]
  · simp [finishTest, apply_ite State.cb, apply_ite CB.valid]
  · simp [finishTest, apply_ite State.cb, apply_ite CB.capture]
  · simp [finishTest, apply_ite State.cb, apply_ite CB.pending]
  · simp [finishTest, apply_ite State.cb, apply_ite CB.captureDue]
  · simp [finishTest, apply_ite State.cb, apply_ite CB.live, apply_ite Bank.tenants]

@[simp] theorem finishTest_frame_5 (s : State) :
    (finishTest s).cb.live.timing = s.cb.live.timing ∧ (finishTest s).cb.live.test = s.cb.live.test ∧
    (finishTest s).cp.rate = s.cp.rate ∧ (finishTest s).cp.receiver = s.cp.receiver ∧
    (finishTest s).cp.buffer = s.cp.buffer ∧ (finishTest s).cp.service = s.cp.service ∧
    (finishTest s).cp.attention = s.cp.attention ∧ (finishTest s).cp.resetDue = s.cp.resetDue := by
  refine ⟨?_, ?_, ?_, ?_, ?_, ?_, ?_, ?_⟩
  · simp [finishTest, apply_ite State.cb, apply_ite CB.live, apply_ite Bank.timing]
  · simp [finishTest, apply_ite State.cb, apply_ite CB.live, apply_ite Bank.test]
  · simp [finishTest, apply_ite State.cp, apply_ite CP.rate]
  · simp [finishTest, apply_ite State.cp, apply_ite CP.receiver]
  · simp [finishTest, apply_ite State.cp, apply_ite CP.buffer]
  · simp [finishTest, apply_ite State.cp, apply_ite CP.service]
  · simp [finishTest, apply_ite State.cp, apply_ite CP.attention]
  · simp [finishTest, apply_ite State.cp, apply_ite CP.resetDue]

/-! `abortTest` -/

@[simp] theorem abortTest_frame (o : TestOutcome) (b : Bool) (s : State) :
    (abortTest o b s).sf = s.sf ∧ (abortTest o b s).ps = s.ps ∧ (abortTest o b s).tn = s.tn ∧
    (abortTest o b s).ca = s.ca ∧ (abortTest o b s).tm = s.tm ∧ (abortTest o b s).pending = s.pending ∧
    (abortTest o b s).mp.frame = s.mp.frame ∧ (abortTest o b s).mp.composed = s.mp.composed := by
  refine ⟨?_, ?_, ?_, ?_, ?_, ?_, ?_, ?_⟩ <;>
    simp [abortTest]

@[simp] theorem abortTest_frame_2 (o : TestOutcome) (b : Bool) (s : State) :
    (abortTest o b s).mp.rxTaken = s.mp.rxTaken ∧ (abortTest o b s).mp.tx = s.mp.tx ∧
    (abortTest o b s).mp.txBefore = s.mp.txBefore ∧ (abortTest o b s).mp.loopback = s.mp.loopback ∧
    (abortTest o b s).mc.restart = s.mc.restart ∧ (abortTest o b s).mc.inbox = s.mc.inbox ∧
    (abortTest o b s).mc.flagCount = s.mc.flagCount ∧ (abortTest o b s).lc.role = s.lc.role := by
  refine ⟨?_, ?_, ?_, ?_, ?_, ?_, ?_, ?_⟩ <;>
    simp [abortTest]

@[simp] theorem abortTest_frame_3 (o : TestOutcome) (b : Bool) (s : State) :
    (abortTest o b s).lc.identity = s.lc.identity ∧ (abortTest o b s).lc.link = s.lc.link ∧
    (abortTest o b s).lc.stop = s.lc.stop ∧ (abortTest o b s).lc.history = s.lc.history ∧
    (abortTest o b s).lc.hostMax = s.lc.hostMax ∧ (abortTest o b s).st.errored = s.st.errored ∧
    (abortTest o b s).st.bits = s.st.bits ∧ (abortTest o b s).st.kind = s.st.kind := by
  refine ⟨?_, ?_, ?_, ?_, ?_, ?_, ?_, ?_⟩ <;>
    simp [abortTest]

@[simp] theorem abortTest_frame_4 (o : TestOutcome) (b : Bool) (s : State) :
    (abortTest o b s).st.frames = s.st.frames ∧ (abortTest o b s).st.test = s.st.test ∧
    (abortTest o b s).cb.snapshot = s.cb.snapshot ∧ (abortTest o b s).cb.valid = s.cb.valid ∧
    (abortTest o b s).cb.capture = s.cb.capture ∧ (abortTest o b s).cb.pending = s.cb.pending ∧
    (abortTest o b s).cb.captureDue = s.cb.captureDue ∧ (abortTest o b s).cb.live.tenants = s.cb.live.tenants := by
  refine ⟨?_, ?_, ?_, ?_, ?_, ?_, ?_, ?_⟩ <;>
    simp [abortTest]

@[simp] theorem abortTest_frame_5 (o : TestOutcome) (b : Bool) (s : State) :
    (abortTest o b s).cb.live.timing = s.cb.live.timing ∧ (abortTest o b s).cb.live.test = s.cb.live.test ∧
    (abortTest o b s).cp.rate = s.cp.rate ∧ (abortTest o b s).cp.receiver = s.cp.receiver ∧
    (abortTest o b s).cp.buffer = s.cp.buffer ∧ (abortTest o b s).cp.service = s.cp.service ∧
    (abortTest o b s).cp.attention = s.cp.attention ∧ (abortTest o b s).cp.resetDue = s.cp.resetDue := by
  refine ⟨?_, ?_, ?_, ?_, ?_, ?_, ?_, ?_⟩ <;>
    simp [abortTest]

/-! `takeStopAnswer` -/

@[simp] theorem takeStopAnswer_frame (a : Bool) (f b e : Nat) (s : State) :
    (takeStopAnswer a f b e s).mp = s.mp ∧ (takeStopAnswer a f b e s).sf = s.sf ∧
    (takeStopAnswer a f b e s).ps = s.ps ∧ (takeStopAnswer a f b e s).mc = s.mc ∧
    (takeStopAnswer a f b e s).lc = s.lc ∧ (takeStopAnswer a f b e s).tn = s.tn ∧
    (takeStopAnswer a f b e s).ca = s.ca ∧ (takeStopAnswer a f b e s).tm = s.tm := by
  refine ⟨?_, ?_, ?_, ?_, ?_, ?_, ?_, ?_⟩ <;>
    simp [takeStopAnswer]

@[simp] theorem takeStopAnswer_frame_2 (a : Bool) (f b e : Nat) (s : State) :
    (takeStopAnswer a f b e s).pending = s.pending ∧ (takeStopAnswer a f b e s).st.commissioned = s.st.commissioned ∧
    (takeStopAnswer a f b e s).st.kind = s.st.kind ∧ (takeStopAnswer a f b e s).st.frames = s.st.frames ∧
    (takeStopAnswer a f b e s).st.test = s.st.test ∧ (takeStopAnswer a f b e s).cb.snapshot = s.cb.snapshot ∧
    (takeStopAnswer a f b e s).cb.valid = s.cb.valid ∧ (takeStopAnswer a f b e s).cb.capture = s.cb.capture := by
  refine ⟨?_, ?_, ?_, ?_, ?_, ?_, ?_, ?_⟩
  · simp [takeStopAnswer]
  · simp [takeStopAnswer, apply_ite State.st, apply_ite ST.commissioned]
  · simp [takeStopAnswer, apply_ite State.st, apply_ite ST.kind]
  · simp [takeStopAnswer, apply_ite State.st, apply_ite ST.frames]
  · simp [takeStopAnswer, apply_ite State.st, apply_ite ST.test]
  iterate 3
    · simp [takeStopAnswer]

@[simp] theorem takeStopAnswer_frame_3 (a : Bool) (f b e : Nat) (s : State) :
    (takeStopAnswer a f b e s).cb.pending = s.cb.pending ∧
    (takeStopAnswer a f b e s).cb.captureDue = s.cb.captureDue ∧
    (takeStopAnswer a f b e s).cb.live.tenants = s.cb.live.tenants ∧
    (takeStopAnswer a f b e s).cb.live.timing = s.cb.live.timing ∧
    (takeStopAnswer a f b e s).cb.live.test = s.cb.live.test ∧ (takeStopAnswer a f b e s).cp.rate = s.cp.rate ∧
    (takeStopAnswer a f b e s).cp.receiver = s.cp.receiver ∧ (takeStopAnswer a f b e s).cp.buffer = s.cp.buffer := by
  refine ⟨?_, ?_, ?_, ?_, ?_, ?_, ?_, ?_⟩ <;>
    simp [takeStopAnswer]

@[simp] theorem takeStopAnswer_frame_4 (a : Bool) (f b e : Nat) (s : State) :
    (takeStopAnswer a f b e s).cp.service = s.cp.service ∧ (takeStopAnswer a f b e s).cp.attention = s.cp.attention ∧
    (takeStopAnswer a f b e s).cp.resetDue = s.cp.resetDue := by
  refine ⟨?_, ?_, ?_⟩ <;>
    simp [takeStopAnswer]

/-! `beginStage` -/

@[simp] theorem beginStage_frame (p : Nat) (f : FrameNo) (st : ST) :
    (beginStage p f st).errored = st.errored ∧
    (beginStage p f st).bits = st.bits ∧
      (beginStage p f st).commissioned = st.commissioned ∧
    (beginStage p f st).kind = st.kind :=
  ⟨rfl, rfl, rfl, rfl⟩

/-! `testPlanChange` -/

@[simp] theorem testPlanChange_frame (old : Plan) (s : State) :
    (testPlanChange old s).sf = s.sf ∧ (testPlanChange old s).ps = s.ps ∧ (testPlanChange old s).tn = s.tn ∧
    (testPlanChange old s).ca = s.ca ∧ (testPlanChange old s).tm = s.tm ∧ (testPlanChange old s).pending = s.pending ∧
    (testPlanChange old s).mp.frame = s.mp.frame ∧ (testPlanChange old s).mp.composed = s.mp.composed := by
  refine ⟨?_, ?_, ?_, ?_, ?_, ?_, ?_, ?_⟩
  · simp [testPlanChange, apply_ite State.sf]
  · simp [testPlanChange, apply_ite State.ps]
  · simp [testPlanChange, apply_ite State.tn]
  · simp [testPlanChange, apply_ite State.ca]
  · simp [testPlanChange, apply_ite State.tm]
  · simp [testPlanChange, apply_ite State.pending]
  · simp [testPlanChange, apply_ite State.mp, apply_ite MP.frame]
  · simp [testPlanChange, apply_ite State.mp, apply_ite MP.composed]

@[simp] theorem testPlanChange_frame_2 (old : Plan) (s : State) :
    (testPlanChange old s).mp.rxTaken = s.mp.rxTaken ∧ (testPlanChange old s).mp.tx = s.mp.tx ∧
    (testPlanChange old s).mp.txBefore = s.mp.txBefore ∧ (testPlanChange old s).mp.loopback = s.mp.loopback ∧
    (testPlanChange old s).mc.restart = s.mc.restart ∧ (testPlanChange old s).mc.inbox = s.mc.inbox ∧
    (testPlanChange old s).mc.flagCount = s.mc.flagCount ∧ (testPlanChange old s).lc.role = s.lc.role := by
  refine ⟨?_, ?_, ?_, ?_, ?_, ?_, ?_, ?_⟩
  · simp [testPlanChange, apply_ite State.mp, apply_ite MP.rxTaken]
  · simp [testPlanChange, apply_ite State.mp, apply_ite MP.tx]
  · simp [testPlanChange, apply_ite State.mp, apply_ite MP.txBefore]
  · simp [testPlanChange, apply_ite State.mp, apply_ite MP.loopback]
  · simp [testPlanChange, apply_ite State.mc, apply_ite MC.restart]
  · simp [testPlanChange, apply_ite State.mc, apply_ite MC.inbox]
  · simp [testPlanChange, apply_ite State.mc, apply_ite MC.flagCount]
  · simp [testPlanChange, apply_ite State.lc, apply_ite LC.role]

@[simp] theorem testPlanChange_frame_3 (old : Plan) (s : State) :
    (testPlanChange old s).lc.identity = s.lc.identity ∧ (testPlanChange old s).lc.link = s.lc.link ∧
    (testPlanChange old s).lc.stop = s.lc.stop ∧ (testPlanChange old s).lc.history = s.lc.history ∧
    (testPlanChange old s).lc.hostMax = s.lc.hostMax ∧ (testPlanChange old s).st.errored = s.st.errored ∧
    (testPlanChange old s).st.bits = s.st.bits ∧ (testPlanChange old s).st.kind = s.st.kind := by
  refine ⟨?_, ?_, ?_, ?_, ?_, ?_, ?_, ?_⟩
  · simp [testPlanChange, apply_ite State.lc, apply_ite LC.identity]
  · simp [testPlanChange, apply_ite State.lc, apply_ite LC.link]
  · simp [testPlanChange, apply_ite State.lc, apply_ite LC.stop]
  · simp [testPlanChange, apply_ite State.lc, apply_ite LC.history]
  · simp [testPlanChange, apply_ite State.lc, apply_ite LC.hostMax]
  · simp [testPlanChange, apply_ite State.st, apply_ite ST.errored]
  · simp [testPlanChange, apply_ite State.st, apply_ite ST.bits]
  · simp [testPlanChange, apply_ite State.st, apply_ite ST.kind]

@[simp] theorem testPlanChange_frame_4 (old : Plan) (s : State) :
    (testPlanChange old s).cb.snapshot = s.cb.snapshot ∧ (testPlanChange old s).cb.valid = s.cb.valid ∧
    (testPlanChange old s).cb.capture = s.cb.capture ∧ (testPlanChange old s).cb.pending = s.cb.pending ∧
    (testPlanChange old s).cb.captureDue = s.cb.captureDue ∧
    (testPlanChange old s).cb.live.tenants = s.cb.live.tenants ∧
    (testPlanChange old s).cb.live.timing = s.cb.live.timing ∧ (testPlanChange old s).cb.live.test = s.cb.live.test := by
  refine ⟨?_, ?_, ?_, ?_, ?_, ?_, ?_, ?_⟩
  · simp [testPlanChange, apply_ite State.cb, apply_ite CB.snapshot]
  · simp [testPlanChange, apply_ite State.cb, apply_ite CB.valid]
  · simp [testPlanChange, apply_ite State.cb, apply_ite CB.capture]
  · simp [testPlanChange, apply_ite State.cb, apply_ite CB.pending]
  · simp [testPlanChange, apply_ite State.cb, apply_ite CB.captureDue]
  · simp [testPlanChange, apply_ite State.cb, apply_ite CB.live, apply_ite Bank.tenants]
  · simp [testPlanChange, apply_ite State.cb, apply_ite CB.live, apply_ite Bank.timing]
  · simp [testPlanChange, apply_ite State.cb, apply_ite CB.live, apply_ite Bank.test]

@[simp] theorem testPlanChange_frame_5 (old : Plan) (s : State) :
    (testPlanChange old s).cp.rate = s.cp.rate ∧ (testPlanChange old s).cp.receiver = s.cp.receiver ∧
    (testPlanChange old s).cp.buffer = s.cp.buffer ∧ (testPlanChange old s).cp.service = s.cp.service ∧
    (testPlanChange old s).cp.attention = s.cp.attention ∧ (testPlanChange old s).cp.resetDue = s.cp.resetDue := by
  refine ⟨?_, ?_, ?_, ?_, ?_, ?_⟩
  · simp [testPlanChange, apply_ite State.cp, apply_ite CP.rate]
  · simp [testPlanChange, apply_ite State.cp, apply_ite CP.receiver]
  · simp [testPlanChange, apply_ite State.cp, apply_ite CP.buffer]
  · simp [testPlanChange, apply_ite State.cp, apply_ite CP.service]
  · simp [testPlanChange, apply_ite State.cp, apply_ite CP.attention]
  · simp [testPlanChange, apply_ite State.cp, apply_ite CP.resetDue]

/-! `testLinkDown` -/

@[simp] theorem testLinkDown_frame (b : Bool) (s : State) :
    (testLinkDown b s).sf = s.sf ∧ (testLinkDown b s).ps = s.ps ∧ (testLinkDown b s).tn = s.tn ∧
    (testLinkDown b s).ca = s.ca ∧ (testLinkDown b s).tm = s.tm ∧ (testLinkDown b s).pending = s.pending ∧
    (testLinkDown b s).mp.frame = s.mp.frame ∧ (testLinkDown b s).mp.composed = s.mp.composed := by
  refine ⟨?_, ?_, ?_, ?_, ?_, ?_, ?_, ?_⟩ <;>
    (simp only [testLinkDown]; (repeat' split) <;> simp_all)

@[simp] theorem testLinkDown_frame_2 (b : Bool) (s : State) :
    (testLinkDown b s).mp.rxTaken = s.mp.rxTaken ∧ (testLinkDown b s).mp.tx = s.mp.tx ∧
    (testLinkDown b s).mp.txBefore = s.mp.txBefore ∧ (testLinkDown b s).mp.loopback = s.mp.loopback ∧
    (testLinkDown b s).mc.restart = s.mc.restart ∧ (testLinkDown b s).mc.inbox = s.mc.inbox ∧
    (testLinkDown b s).mc.flagCount = s.mc.flagCount ∧ (testLinkDown b s).lc.role = s.lc.role := by
  refine ⟨?_, ?_, ?_, ?_, ?_, ?_, ?_, ?_⟩ <;>
    (simp only [testLinkDown]; (repeat' split) <;> simp_all)

@[simp] theorem testLinkDown_frame_3 (b : Bool) (s : State) :
    (testLinkDown b s).lc.identity = s.lc.identity ∧ (testLinkDown b s).lc.link = s.lc.link ∧
    (testLinkDown b s).lc.stop = s.lc.stop ∧ (testLinkDown b s).lc.history = s.lc.history ∧
    (testLinkDown b s).lc.hostMax = s.lc.hostMax ∧ (testLinkDown b s).st.errored = s.st.errored ∧
    (testLinkDown b s).st.bits = s.st.bits ∧ (testLinkDown b s).st.kind = s.st.kind := by
  refine ⟨?_, ?_, ?_, ?_, ?_, ?_, ?_, ?_⟩ <;>
    (simp only [testLinkDown]; (repeat' split) <;> simp_all)

@[simp] theorem testLinkDown_frame_4 (b : Bool) (s : State) :
    (testLinkDown b s).st.frames = s.st.frames ∧ (testLinkDown b s).st.test = s.st.test ∧
    (testLinkDown b s).cb.snapshot = s.cb.snapshot ∧ (testLinkDown b s).cb.valid = s.cb.valid ∧
    (testLinkDown b s).cb.capture = s.cb.capture ∧ (testLinkDown b s).cb.pending = s.cb.pending ∧
    (testLinkDown b s).cb.captureDue = s.cb.captureDue ∧ (testLinkDown b s).cb.live.tenants = s.cb.live.tenants := by
  refine ⟨?_, ?_, ?_, ?_, ?_, ?_, ?_, ?_⟩ <;>
    (simp only [testLinkDown]; (repeat' split) <;> simp_all)

@[simp] theorem testLinkDown_frame_5 (b : Bool) (s : State) :
    (testLinkDown b s).cb.live.timing = s.cb.live.timing ∧ (testLinkDown b s).cb.live.test = s.cb.live.test ∧
    (testLinkDown b s).cp.rate = s.cp.rate ∧ (testLinkDown b s).cp.receiver = s.cp.receiver ∧
    (testLinkDown b s).cp.buffer = s.cp.buffer ∧ (testLinkDown b s).cp.service = s.cp.service ∧
    (testLinkDown b s).cp.attention = s.cp.attention ∧ (testLinkDown b s).cp.resetDue = s.cp.resetDue := by
  refine ⟨?_, ?_, ?_, ?_, ?_, ?_, ?_, ?_⟩ <;>
    (simp only [testLinkDown]; (repeat' split) <;> simp_all)

/-! `keepTaken` -/

@[simp] theorem keepTaken_frame (f : FrameNo) (l : List (Nat × List Byte)) (s : State) :
    (keepTaken f l s).mp = s.mp ∧ (keepTaken f l s).sf = s.sf ∧ (keepTaken f l s).ps = s.ps ∧
    (keepTaken f l s).mc = s.mc ∧ (keepTaken f l s).lc = s.lc ∧ (keepTaken f l s).tn = s.tn ∧
    (keepTaken f l s).ca = s.ca ∧ (keepTaken f l s).tm = s.tm ∧ (keepTaken f l s).cb = s.cb ∧
    (keepTaken f l s).cp = s.cp ∧ (keepTaken f l s).pending = s.pending ∧
    (keepTaken f l s).st.errored = s.st.errored ∧ (keepTaken f l s).st.bits = s.st.bits ∧
    (keepTaken f l s).st.commissioned = s.st.commissioned ∧ (keepTaken f l s).st.kind = s.st.kind ∧
    (keepTaken f l s).st.frames = s.st.frames ∧ (keepTaken f l s).st.test = s.st.test :=
  ⟨rfl, rfl, rfl, rfl, rfl, rfl, rfl, rfl, rfl, rfl, rfl, rfl, rfl, rfl, rfl, rfl, rfl⟩

/-! `checkFrame` -/

@[simp] theorem checkFrame_frame (f : FrameNo) (l : List (Nat × List Byte)) (s : State) :
    (checkFrame f l s).sf = s.sf ∧ (checkFrame f l s).ps = s.ps ∧ (checkFrame f l s).tn = s.tn ∧
    (checkFrame f l s).ca = s.ca ∧ (checkFrame f l s).tm = s.tm ∧ (checkFrame f l s).pending = s.pending ∧
    (checkFrame f l s).mp.frame = s.mp.frame ∧ (checkFrame f l s).mp.composed = s.mp.composed := by
  refine ⟨?_, ?_, ?_, ?_, ?_, ?_, ?_, ?_⟩ <;>
    (simp only [checkFrame]; (repeat' split) <;> simp_all)

@[simp] theorem checkFrame_frame_2 (f : FrameNo) (l : List (Nat × List Byte)) (s : State) :
    (checkFrame f l s).mp.rxTaken = s.mp.rxTaken ∧ (checkFrame f l s).mp.tx = s.mp.tx ∧
    (checkFrame f l s).mp.txBefore = s.mp.txBefore ∧ (checkFrame f l s).mp.loopback = s.mp.loopback ∧
    (checkFrame f l s).mc.restart = s.mc.restart ∧ (checkFrame f l s).mc.inbox = s.mc.inbox ∧
    (checkFrame f l s).mc.flagCount = s.mc.flagCount ∧ (checkFrame f l s).lc.role = s.lc.role := by
  refine ⟨?_, ?_, ?_, ?_, ?_, ?_, ?_, ?_⟩ <;>
    (simp only [checkFrame]; (repeat' split) <;> simp_all)

@[simp] theorem checkFrame_frame_3 (f : FrameNo) (l : List (Nat × List Byte)) (s : State) :
    (checkFrame f l s).lc.identity = s.lc.identity ∧ (checkFrame f l s).lc.link = s.lc.link ∧
    (checkFrame f l s).lc.stop = s.lc.stop ∧ (checkFrame f l s).lc.history = s.lc.history ∧
    (checkFrame f l s).lc.hostMax = s.lc.hostMax ∧ (checkFrame f l s).cb.snapshot = s.cb.snapshot ∧
    (checkFrame f l s).cb.valid = s.cb.valid ∧ (checkFrame f l s).cb.capture = s.cb.capture := by
  refine ⟨?_, ?_, ?_, ?_, ?_, ?_, ?_, ?_⟩ <;>
    (simp only [checkFrame]; (repeat' split) <;> simp_all)

@[simp] theorem checkFrame_frame_4 (f : FrameNo) (l : List (Nat × List Byte)) (s : State) :
    (checkFrame f l s).cb.pending = s.cb.pending ∧ (checkFrame f l s).cb.captureDue = s.cb.captureDue ∧
    (checkFrame f l s).cb.live.tenants = s.cb.live.tenants ∧ (checkFrame f l s).cb.live.timing = s.cb.live.timing ∧
    (checkFrame f l s).cb.live.test = s.cb.live.test ∧ (checkFrame f l s).cp.rate = s.cp.rate ∧
    (checkFrame f l s).cp.receiver = s.cp.receiver ∧ (checkFrame f l s).cp.buffer = s.cp.buffer := by
  refine ⟨?_, ?_, ?_, ?_, ?_, ?_, ?_, ?_⟩ <;>
    (simp only [checkFrame]; (repeat' split) <;> simp_all)

@[simp] theorem checkFrame_frame_5 (f : FrameNo) (l : List (Nat × List Byte)) (s : State) :
    (checkFrame f l s).cp.service = s.cp.service ∧ (checkFrame f l s).cp.attention = s.cp.attention ∧
    (checkFrame f l s).cp.resetDue = s.cp.resetDue := by
  refine ⟨?_, ?_, ?_⟩ <;>
    (simp only [checkFrame]; (repeat' split) <;> simp_all)

/-! `nearCheck` -/

@[simp] theorem nearCheck_frame (f : FrameNo) (p : Plan) (b : Bool) (l : List (Nat × List Byte)) (s : State) :
    (nearCheck f p b l s).sf = s.sf ∧ (nearCheck f p b l s).ps = s.ps ∧ (nearCheck f p b l s).tn = s.tn ∧
    (nearCheck f p b l s).ca = s.ca ∧ (nearCheck f p b l s).tm = s.tm ∧ (nearCheck f p b l s).pending = s.pending ∧
    (nearCheck f p b l s).mp.frame = s.mp.frame ∧ (nearCheck f p b l s).mp.composed = s.mp.composed := by
  refine ⟨?_, ?_, ?_, ?_, ?_, ?_, ?_, ?_⟩ <;>
    (simp only [nearCheck]; (repeat' split) <;> simp_all)

@[simp] theorem nearCheck_frame_2 (f : FrameNo) (p : Plan) (b : Bool) (l : List (Nat × List Byte)) (s : State) :
    (nearCheck f p b l s).mp.rxTaken = s.mp.rxTaken ∧ (nearCheck f p b l s).mp.tx = s.mp.tx ∧
    (nearCheck f p b l s).mp.txBefore = s.mp.txBefore ∧ (nearCheck f p b l s).mp.loopback = s.mp.loopback ∧
    (nearCheck f p b l s).mc.restart = s.mc.restart ∧ (nearCheck f p b l s).mc.inbox = s.mc.inbox ∧
    (nearCheck f p b l s).mc.flagCount = s.mc.flagCount ∧ (nearCheck f p b l s).lc.role = s.lc.role := by
  refine ⟨?_, ?_, ?_, ?_, ?_, ?_, ?_, ?_⟩ <;>
    (simp only [nearCheck]; (repeat' split) <;> simp_all)

@[simp] theorem nearCheck_frame_3 (f : FrameNo) (p : Plan) (b : Bool) (l : List (Nat × List Byte)) (s : State) :
    (nearCheck f p b l s).lc.identity = s.lc.identity ∧ (nearCheck f p b l s).lc.link = s.lc.link ∧
    (nearCheck f p b l s).lc.stop = s.lc.stop ∧ (nearCheck f p b l s).lc.history = s.lc.history ∧
    (nearCheck f p b l s).lc.hostMax = s.lc.hostMax ∧ (nearCheck f p b l s).cb.snapshot = s.cb.snapshot ∧
    (nearCheck f p b l s).cb.valid = s.cb.valid ∧ (nearCheck f p b l s).cb.capture = s.cb.capture := by
  refine ⟨?_, ?_, ?_, ?_, ?_, ?_, ?_, ?_⟩ <;>
    (simp only [nearCheck]; (repeat' split) <;> simp_all)

@[simp] theorem nearCheck_frame_4 (f : FrameNo) (p : Plan) (b : Bool) (l : List (Nat × List Byte)) (s : State) :
    (nearCheck f p b l s).cb.pending = s.cb.pending ∧ (nearCheck f p b l s).cb.captureDue = s.cb.captureDue ∧
    (nearCheck f p b l s).cb.live.tenants = s.cb.live.tenants ∧
    (nearCheck f p b l s).cb.live.timing = s.cb.live.timing ∧ (nearCheck f p b l s).cb.live.test = s.cb.live.test ∧
    (nearCheck f p b l s).cp.rate = s.cp.rate ∧ (nearCheck f p b l s).cp.receiver = s.cp.receiver ∧
    (nearCheck f p b l s).cp.buffer = s.cp.buffer := by
  refine ⟨?_, ?_, ?_, ?_, ?_, ?_, ?_, ?_⟩ <;>
    (simp only [nearCheck]; (repeat' split) <;> simp_all)

@[simp] theorem nearCheck_frame_5 (f : FrameNo) (p : Plan) (b : Bool) (l : List (Nat × List Byte)) (s : State) :
    (nearCheck f p b l s).cp.service = s.cp.service ∧ (nearCheck f p b l s).cp.attention = s.cp.attention ∧
    (nearCheck f p b l s).cp.resetDue = s.cp.resetDue := by
  refine ⟨?_, ?_, ?_⟩ <;>
    (simp only [nearCheck]; (repeat' split) <;> simp_all)

/-! `responderCheck` -/

@[simp] theorem responderCheck_frame (f : FrameNo) (l : List (Nat × List Byte)) (s : State) :
    (responderCheck f l s).mp = s.mp ∧ (responderCheck f l s).sf = s.sf ∧ (responderCheck f l s).ps = s.ps ∧
    (responderCheck f l s).mc = s.mc ∧ (responderCheck f l s).lc = s.lc ∧ (responderCheck f l s).tn = s.tn ∧
    (responderCheck f l s).ca = s.ca ∧ (responderCheck f l s).tm = s.tm ∧ (responderCheck f l s).cb = s.cb ∧
    (responderCheck f l s).cp = s.cp ∧ (responderCheck f l s).pending = s.pending ∧
    (responderCheck f l s).st.errored = s.st.errored ∧ (responderCheck f l s).st.bits = s.st.bits ∧
    (responderCheck f l s).st.commissioned = s.st.commissioned ∧ (responderCheck f l s).st.kind = s.st.kind ∧
    (responderCheck f l s).st.frames = s.st.frames ∧ (responderCheck f l s).st.test = s.st.test :=
  ⟨rfl, rfl, rfl, rfl, rfl, rfl, rfl, rfl, rfl, rfl, rfl, rfl, rfl, rfl, rfl, rfl, rfl⟩

/-! `takeTestPositions` -/

@[simp] theorem takeTestPositions_frame (f : FrameNo) (p : Plan) (b : Bool) (l : List (Nat × List Byte)) (s : State) :
    (takeTestPositions f p b l s).sf = s.sf ∧ (takeTestPositions f p b l s).ps = s.ps ∧
    (takeTestPositions f p b l s).tn = s.tn ∧ (takeTestPositions f p b l s).ca = s.ca ∧
    (takeTestPositions f p b l s).tm = s.tm ∧ (takeTestPositions f p b l s).pending = s.pending ∧
    (takeTestPositions f p b l s).mp.frame = s.mp.frame ∧ (takeTestPositions f p b l s).mp.composed = s.mp.composed := by
  refine ⟨?_, ?_, ?_, ?_, ?_, ?_, ?_, ?_⟩
  · simp [takeTestPositions, apply_ite State.sf]
  · simp [takeTestPositions, apply_ite State.ps]
  · simp [takeTestPositions, apply_ite State.tn]
  · simp [takeTestPositions, apply_ite State.ca]
  · simp [takeTestPositions, apply_ite State.tm]
  · simp [takeTestPositions, apply_ite State.pending]
  · simp [takeTestPositions, apply_ite State.mp, apply_ite MP.frame]
  · simp [takeTestPositions, apply_ite State.mp, apply_ite MP.composed]

@[simp] theorem takeTestPositions_frame_2 (f : FrameNo) (p : Plan) (b : Bool) (l : List (Nat × List Byte))
    (s : State) :
    (takeTestPositions f p b l s).mp.rxTaken = s.mp.rxTaken ∧ (takeTestPositions f p b l s).mp.tx = s.mp.tx ∧
    (takeTestPositions f p b l s).mp.txBefore = s.mp.txBefore ∧
    (takeTestPositions f p b l s).mp.loopback = s.mp.loopback ∧
    (takeTestPositions f p b l s).mc.restart = s.mc.restart ∧ (takeTestPositions f p b l s).mc.inbox = s.mc.inbox ∧
    (takeTestPositions f p b l s).mc.flagCount = s.mc.flagCount ∧ (takeTestPositions f p b l s).lc.role = s.lc.role := by
  refine ⟨?_, ?_, ?_, ?_, ?_, ?_, ?_, ?_⟩
  · simp [takeTestPositions, apply_ite State.mp, apply_ite MP.rxTaken]
  · simp [takeTestPositions, apply_ite State.mp, apply_ite MP.tx]
  · simp [takeTestPositions, apply_ite State.mp, apply_ite MP.txBefore]
  · simp [takeTestPositions, apply_ite State.mp, apply_ite MP.loopback]
  · simp [takeTestPositions, apply_ite State.mc, apply_ite MC.restart]
  · simp [takeTestPositions, apply_ite State.mc, apply_ite MC.inbox]
  · simp [takeTestPositions, apply_ite State.mc, apply_ite MC.flagCount]
  · simp [takeTestPositions, apply_ite State.lc, apply_ite LC.role]

@[simp] theorem takeTestPositions_frame_3 (f : FrameNo) (p : Plan) (b : Bool) (l : List (Nat × List Byte))
    (s : State) :
    (takeTestPositions f p b l s).lc.identity = s.lc.identity ∧ (takeTestPositions f p b l s).lc.link = s.lc.link ∧
    (takeTestPositions f p b l s).lc.stop = s.lc.stop ∧ (takeTestPositions f p b l s).lc.history = s.lc.history ∧
    (takeTestPositions f p b l s).lc.hostMax = s.lc.hostMax ∧
    (takeTestPositions f p b l s).cb.snapshot = s.cb.snapshot ∧ (takeTestPositions f p b l s).cb.valid = s.cb.valid ∧
    (takeTestPositions f p b l s).cb.capture = s.cb.capture := by
  refine ⟨?_, ?_, ?_, ?_, ?_, ?_, ?_, ?_⟩
  · simp [takeTestPositions, apply_ite State.lc, apply_ite LC.identity]
  · simp [takeTestPositions, apply_ite State.lc, apply_ite LC.link]
  · simp [takeTestPositions, apply_ite State.lc, apply_ite LC.stop]
  · simp [takeTestPositions, apply_ite State.lc, apply_ite LC.history]
  · simp [takeTestPositions, apply_ite State.lc, apply_ite LC.hostMax]
  · simp [takeTestPositions, apply_ite State.cb, apply_ite CB.snapshot]
  · simp [takeTestPositions, apply_ite State.cb, apply_ite CB.valid]
  · simp [takeTestPositions, apply_ite State.cb, apply_ite CB.capture]

@[simp] theorem takeTestPositions_frame_4 (f : FrameNo) (p : Plan) (b : Bool) (l : List (Nat × List Byte))
    (s : State) :
    (takeTestPositions f p b l s).cb.pending = s.cb.pending ∧
    (takeTestPositions f p b l s).cb.captureDue = s.cb.captureDue ∧
    (takeTestPositions f p b l s).cb.live.tenants = s.cb.live.tenants ∧
    (takeTestPositions f p b l s).cb.live.timing = s.cb.live.timing ∧
    (takeTestPositions f p b l s).cb.live.test = s.cb.live.test ∧ (takeTestPositions f p b l s).cp.rate = s.cp.rate ∧
    (takeTestPositions f p b l s).cp.receiver = s.cp.receiver ∧ (takeTestPositions f p b l s).cp.buffer = s.cp.buffer := by
  refine ⟨?_, ?_, ?_, ?_, ?_, ?_, ?_, ?_⟩
  · simp [takeTestPositions, apply_ite State.cb, apply_ite CB.pending]
  · simp [takeTestPositions, apply_ite State.cb, apply_ite CB.captureDue]
  · simp [takeTestPositions, apply_ite State.cb, apply_ite CB.live, apply_ite Bank.tenants]
  · simp [takeTestPositions, apply_ite State.cb, apply_ite CB.live, apply_ite Bank.timing]
  · simp [takeTestPositions, apply_ite State.cb, apply_ite CB.live, apply_ite Bank.test]
  · simp [takeTestPositions, apply_ite State.cp, apply_ite CP.rate]
  · simp [takeTestPositions, apply_ite State.cp, apply_ite CP.receiver]
  · simp [takeTestPositions, apply_ite State.cp, apply_ite CP.buffer]

@[simp] theorem takeTestPositions_frame_5 (f : FrameNo) (p : Plan) (b : Bool) (l : List (Nat × List Byte))
    (s : State) :
    (takeTestPositions f p b l s).cp.service = s.cp.service ∧
    (takeTestPositions f p b l s).cp.attention = s.cp.attention ∧
    (takeTestPositions f p b l s).cp.resetDue = s.cp.resetDue := by
  refine ⟨?_, ?_, ?_⟩
  · simp [takeTestPositions, apply_ite State.cp, apply_ite CP.service]
  · simp [takeTestPositions, apply_ite State.cp, apply_ite CP.attention]
  · simp [takeTestPositions, apply_ite State.cp, apply_ite CP.resetDue]

/-! `testComposed` -/

@[simp] theorem testComposed_frame (p : Plan) (s : State) :
    (testComposed p s).sf = s.sf ∧ (testComposed p s).ps = s.ps ∧ (testComposed p s).tn = s.tn ∧
    (testComposed p s).ca = s.ca ∧ (testComposed p s).tm = s.tm ∧ (testComposed p s).pending = s.pending ∧
    (testComposed p s).mp.frame = s.mp.frame ∧ (testComposed p s).mp.composed = s.mp.composed := by
  refine ⟨?_, ?_, ?_, ?_, ?_, ?_, ?_, ?_⟩ <;>
    (simp only [testComposed]; (repeat' split) <;> simp_all)

@[simp] theorem testComposed_frame_2 (p : Plan) (s : State) :
    (testComposed p s).mp.rxTaken = s.mp.rxTaken ∧ (testComposed p s).mp.tx = s.mp.tx ∧
    (testComposed p s).mp.txBefore = s.mp.txBefore ∧ (testComposed p s).mp.loopback = s.mp.loopback ∧
    (testComposed p s).mc.restart = s.mc.restart ∧ (testComposed p s).mc.inbox = s.mc.inbox ∧
    (testComposed p s).mc.flagCount = s.mc.flagCount ∧ (testComposed p s).lc.role = s.lc.role := by
  refine ⟨?_, ?_, ?_, ?_, ?_, ?_, ?_, ?_⟩ <;>
    (simp only [testComposed]; (repeat' split) <;> simp_all)

@[simp] theorem testComposed_frame_3 (p : Plan) (s : State) :
    (testComposed p s).lc.identity = s.lc.identity ∧ (testComposed p s).lc.link = s.lc.link ∧
    (testComposed p s).lc.stop = s.lc.stop ∧ (testComposed p s).lc.history = s.lc.history ∧
    (testComposed p s).lc.hostMax = s.lc.hostMax ∧ (testComposed p s).cb.snapshot = s.cb.snapshot ∧
    (testComposed p s).cb.valid = s.cb.valid ∧ (testComposed p s).cb.capture = s.cb.capture := by
  refine ⟨?_, ?_, ?_, ?_, ?_, ?_, ?_, ?_⟩ <;>
    (simp only [testComposed]; (repeat' split) <;> simp_all)

@[simp] theorem testComposed_frame_4 (p : Plan) (s : State) :
    (testComposed p s).cb.pending = s.cb.pending ∧ (testComposed p s).cb.captureDue = s.cb.captureDue ∧
    (testComposed p s).cb.live.tenants = s.cb.live.tenants ∧ (testComposed p s).cb.live.timing = s.cb.live.timing ∧
    (testComposed p s).cb.live.test = s.cb.live.test ∧ (testComposed p s).cp.rate = s.cp.rate ∧
    (testComposed p s).cp.receiver = s.cp.receiver ∧ (testComposed p s).cp.buffer = s.cp.buffer := by
  refine ⟨?_, ?_, ?_, ?_, ?_, ?_, ?_, ?_⟩ <;>
    (simp only [testComposed]; (repeat' split) <;> simp_all)

@[simp] theorem testComposed_frame_5 (p : Plan) (s : State) :
    (testComposed p s).cp.service = s.cp.service ∧ (testComposed p s).cp.attention = s.cp.attention ∧
    (testComposed p s).cp.resetDue = s.cp.resetDue := by
  refine ⟨?_, ?_, ?_⟩ <;>
    (simp only [testComposed]; (repeat' split) <;> simp_all)

/-! `takeTestControl` -/

@[simp] theorem takeTestControl_frame (a k m t : Byte) (s : State) :
    (takeTestControl a k m t s).mp = s.mp ∧ (takeTestControl a k m t s).sf = s.sf ∧
    (takeTestControl a k m t s).ps = s.ps ∧ (takeTestControl a k m t s).tn = s.tn ∧
    (takeTestControl a k m t s).ca = s.ca ∧ (takeTestControl a k m t s).tm = s.tm ∧
    (takeTestControl a k m t s).cp = s.cp ∧ (takeTestControl a k m t s).pending = s.pending := by
  refine ⟨?_, ?_, ?_, ?_, ?_, ?_, ?_, ?_⟩ <;>
    (simp only [takeTestControl]; (repeat' split) <;> simp_all)

@[simp] theorem takeTestControl_frame_2 (a k m t : Byte) (s : State) :
    (takeTestControl a k m t s).mc.restart = s.mc.restart ∧ (takeTestControl a k m t s).mc.inbox = s.mc.inbox ∧
    (takeTestControl a k m t s).mc.flagCount = s.mc.flagCount ∧ (takeTestControl a k m t s).lc.role = s.lc.role ∧
    (takeTestControl a k m t s).lc.identity = s.lc.identity ∧ (takeTestControl a k m t s).lc.link = s.lc.link ∧
    (takeTestControl a k m t s).lc.stop = s.lc.stop ∧ (takeTestControl a k m t s).lc.history = s.lc.history := by
  refine ⟨?_, ?_, ?_, ?_, ?_, ?_, ?_, ?_⟩ <;>
    (simp only [takeTestControl]; (repeat' split) <;> simp_all)

@[simp] theorem takeTestControl_frame_3 (a k m t : Byte) (s : State) :
    (takeTestControl a k m t s).lc.hostMax = s.lc.hostMax ∧ (takeTestControl a k m t s).st.errored = s.st.errored ∧
    (takeTestControl a k m t s).st.bits = s.st.bits ∧
    (takeTestControl a k m t s).st.commissioned = s.st.commissioned ∧
    (takeTestControl a k m t s).st.kind = s.st.kind ∧ (takeTestControl a k m t s).st.frames = s.st.frames ∧
    (takeTestControl a k m t s).st.test = s.st.test ∧ (takeTestControl a k m t s).cb.snapshot = s.cb.snapshot := by
  refine ⟨?_, ?_, ?_, ?_, ?_, ?_, ?_, ?_⟩ <;>
    (simp only [takeTestControl]; (repeat' split) <;> simp_all)

@[simp] theorem takeTestControl_frame_4 (a k m t : Byte) (s : State) :
    (takeTestControl a k m t s).cb.valid = s.cb.valid ∧ (takeTestControl a k m t s).cb.capture = s.cb.capture ∧
    (takeTestControl a k m t s).cb.pending = s.cb.pending ∧
    (takeTestControl a k m t s).cb.captureDue = s.cb.captureDue ∧
    (takeTestControl a k m t s).cb.live.tenants = s.cb.live.tenants ∧
    (takeTestControl a k m t s).cb.live.timing = s.cb.live.timing := by
  refine ⟨?_, ?_, ?_, ?_, ?_, ?_⟩ <;>
    (simp only [takeTestControl]; (repeat' split) <;> simp_all)

end Sys2Proof.Machine
end

