-- ==== Sys2Proof/Laws/Tenants.lean ====
section
/-! SUPPORT. What the operations of the Tenant Gate leave alone, and what a refresh does to a tenant record. -/

set_option linter.unusedSimpArgs false

namespace Sys2Proof.Machine

/-! `modTenant` -/

@[simp] theorem modTenant_frame (t : Tenant) (f : TenantRec → TenantRec) (s : State) :
    (modTenant t f s).mp = s.mp ∧ (modTenant t f s).sf = s.sf ∧ (modTenant t f s).ps = s.ps ∧
    (modTenant t f s).mc = s.mc ∧ (modTenant t f s).lc = s.lc ∧ (modTenant t f s).ca = s.ca ∧
    (modTenant t f s).tm = s.tm ∧ (modTenant t f s).st = s.st ∧ (modTenant t f s).cb = s.cb ∧
    (modTenant t f s).cp = s.cp ∧ (modTenant t f s).pending = s.pending ∧ (modTenant t f s).tn.free = s.tn.free :=
  ⟨rfl, rfl, rfl, rfl, rfl, rfl, rfl, rfl, rfl, rfl, rfl, rfl⟩

theorem dropReady_get (a : Plan) (tn : TN) (t : Tenant) :
    ∃ r, (dropReady a tn).tenants.get t = { tn.tenants.get t with ready := r } := by
  unfold dropReady
  dsimp only
  rw [PerTenant.get_ofFn]
  split
  · exact ⟨none, rfl⟩
  · exact ⟨(tn.tenants.get t).ready, rfl⟩

theorem assertReady_get (a : Plan) (u : Tenant) (tn : TN) (t : Tenant) :
    ∃ r, (assertReady a u tn).tenants.get t = { tn.tenants.get t with ready := r } := by
  unfold assertReady
  dsimp only
  split
  · dsimp only
    rw [PerTenant.get_set]
    split
    · rename_i h; subst h; exact ⟨_, rfl⟩
    · exact ⟨(tn.tenants.get t).ready, rfl⟩
  · exact ⟨(tn.tenants.get t).ready, rfl⟩

theorem refreshReady_get (a : Plan) (tn : TN) (t : Tenant) :
    ∃ r, (refreshReady a tn).tenants.get t = { tn.tenants.get t with ready := r } := by
  obtain ⟨r4, h4⟩ := assertReady_get a .t4
    (assertReady a .t3 (assertReady a .t2 (assertReady a .t1 (dropReady a tn)))) t
  obtain ⟨r3, h3⟩ := assertReady_get a .t3 (assertReady a .t2 (assertReady a .t1 (dropReady a tn))) t
  obtain ⟨r2, h2⟩ := assertReady_get a .t2 (assertReady a .t1 (dropReady a tn)) t
  obtain ⟨r1, h1⟩ := assertReady_get a .t1 (dropReady a tn) t
  obtain ⟨r0, h0⟩ := dropReady_get a tn t
  exact ⟨r4, by rw [refreshReady, h4, h3, h2, h1, h0]⟩

@[simp] theorem refreshHold_get (a : Plan) (tn : TN) (t : Tenant) :
    (refreshHold a tn).tenants.get t =
      { tn.tenants.get t with
        hold := holdRule (occupancy (tn.tenants.get t)) (allowance a t (tn.tenants.get t)) (tn.tenants.get t).hold } := by
  unfold refreshHold
  dsimp only
  rw [PerTenant.get_ofFn]

theorem refreshTenants_get (s : State) (t : Tenant) :
    ∃ r, (refreshTenants s).tn.tenants.get t =
      { s.tn.tenants.get t with
        ready := r,
        hold := holdRule (occupancy (s.tn.tenants.get t)) (allowance s.ps.active t (s.tn.tenants.get t))
          (s.tn.tenants.get t).hold } := by
  obtain ⟨r, h⟩ := refreshReady_get s.ps.active (refreshHold s.ps.active s.tn) t
  refine ⟨r, ?_⟩
  rw [refreshTenants, State.modTN_tn, h, refreshHold_get]

@[simp] theorem refreshTenants_record (s : State) (t : Tenant) :
    ((refreshTenants s).tn.tenants.get t).state = (s.tn.tenants.get t).state ∧
      ((refreshTenants s).tn.tenants.get t).config = (s.tn.tenants.get t).config ∧
      ((refreshTenants s).tn.tenants.get t).syncOk = (s.tn.tenants.get t).syncOk ∧
      ((refreshTenants s).tn.tenants.get t).far = (s.tn.tenants.get t).far ∧
      ((refreshTenants s).tn.tenants.get t).queue = (s.tn.tenants.get t).queue ∧
      ((refreshTenants s).tn.tenants.get t).reassembly = (s.tn.tenants.get t).reassembly ∧
      ((refreshTenants s).tn.tenants.get t).drain = (s.tn.tenants.get t).drain := by
  obtain ⟨r, h⟩ := refreshTenants_get s t
  rw [h]
  exact ⟨rfl, rfl, rfl, rfl, rfl, rfl, rfl⟩

/-! `assertReady` -/

@[simp] theorem assertReady_frame (a : Plan) (t : Tenant) (tn : TN) :
    (assertReady a t tn).free = tn.free ∧
    (assertReady a t tn).unsent = tn.unsent ∧
      (assertReady a t tn).out = tn.out := by
  unfold assertReady
  dsimp only
  split <;> exact ⟨rfl, rfl, rfl⟩

/-! `refreshReady` -/

@[simp] theorem refreshReady_frame (a : Plan) (tn : TN) :
    (refreshReady a tn).free = tn.free ∧ (refreshReady a tn).unsent = tn.unsent ∧ (refreshReady a tn).out = tn.out := by
  simp [refreshReady, dropReady]

/-! `refreshHold` -/

@[simp] theorem refreshHold_frame (a : Plan) (tn : TN) :
    (refreshHold a tn).free = tn.free ∧ (refreshHold a tn).unsent = tn.unsent ∧ (refreshHold a tn).out = tn.out :=
  ⟨rfl, rfl, rfl⟩

/-! `refreshTenants` -/

@[simp] theorem refreshTenants_frame (s : State) :
    (refreshTenants s).mp = s.mp ∧ (refreshTenants s).sf = s.sf ∧ (refreshTenants s).ps = s.ps ∧
    (refreshTenants s).mc = s.mc ∧ (refreshTenants s).lc = s.lc ∧ (refreshTenants s).ca = s.ca ∧
    (refreshTenants s).tm = s.tm ∧ (refreshTenants s).st = s.st ∧ (refreshTenants s).cb = s.cb ∧
    (refreshTenants s).cp = s.cp ∧ (refreshTenants s).pending = s.pending := by
  refine ⟨?_, ?_, ?_, ?_, ?_, ?_, ?_, ?_, ?_, ?_, ?_⟩ <;>
    rfl

@[simp] theorem refreshTenants_frame_2 (s : State) :
    (refreshTenants s).tn.free = s.tn.free := by
  simp [refreshTenants]

/-! `reportTenant` -/

@[simp] theorem reportTenant_frame (t : Tenant) (o : TenantState) (c : TenantCause) (b : Bool) (s : State) :
    (reportTenant t o c b s).mp = s.mp ∧ (reportTenant t o c b s).sf = s.sf ∧ (reportTenant t o c b s).ps = s.ps ∧
    (reportTenant t o c b s).mc = s.mc ∧ (reportTenant t o c b s).lc = s.lc ∧ (reportTenant t o c b s).tn = s.tn ∧
    (reportTenant t o c b s).ca = s.ca ∧ (reportTenant t o c b s).tm = s.tm := by
  refine ⟨?_, ?_, ?_, ?_, ?_, ?_, ?_, ?_⟩ <;>
    simp [reportTenant]

@[simp] theorem reportTenant_frame_2 (t : Tenant) (o : TenantState) (c : TenantCause) (b : Bool) (s : State) :
    (reportTenant t o c b s).st = s.st ∧ (reportTenant t o c b s).pending = s.pending ∧
    (reportTenant t o c b s).cb.snapshot = s.cb.snapshot ∧ (reportTenant t o c b s).cb.valid = s.cb.valid ∧
    (reportTenant t o c b s).cb.capture = s.cb.capture ∧ (reportTenant t o c b s).cb.pending = s.cb.pending ∧
    (reportTenant t o c b s).cb.captureDue = s.cb.captureDue ∧
    (reportTenant t o c b s).cb.live.tenants = s.cb.live.tenants := by
  refine ⟨?_, ?_, ?_, ?_, ?_, ?_, ?_, ?_⟩ <;>
    simp [reportTenant]

@[simp] theorem reportTenant_frame_3 (t : Tenant) (o : TenantState) (c : TenantCause) (b : Bool) (s : State) :
    (reportTenant t o c b s).cb.live.timing = s.cb.live.timing ∧
    (reportTenant t o c b s).cb.live.test = s.cb.live.test ∧ (reportTenant t o c b s).cp.rate = s.cp.rate ∧
    (reportTenant t o c b s).cp.receiver = s.cp.receiver ∧ (reportTenant t o c b s).cp.buffer = s.cp.buffer ∧
    (reportTenant t o c b s).cp.service = s.cp.service ∧ (reportTenant t o c b s).cp.attention = s.cp.attention ∧
    (reportTenant t o c b s).cp.resetDue = s.cp.resetDue := by
  refine ⟨?_, ?_, ?_, ?_, ?_, ?_, ?_, ?_⟩ <;>
    simp [reportTenant]

/-! `closeTenant` -/

@[simp] theorem closeTenant_frame (t : Tenant) (s : State) :
    (closeTenant t s).mp = s.mp ∧ (closeTenant t s).sf = s.sf ∧ (closeTenant t s).ps = s.ps ∧
    (closeTenant t s).mc = s.mc ∧ (closeTenant t s).lc = s.lc ∧ (closeTenant t s).ca = s.ca ∧
    (closeTenant t s).tm = s.tm ∧ (closeTenant t s).st = s.st := by
  refine ⟨?_, ?_, ?_, ?_, ?_, ?_, ?_, ?_⟩
  · simp [closeTenant, apply_ite State.mp]
  · simp [closeTenant, apply_ite State.sf]
  · simp [closeTenant, apply_ite State.ps]
  · simp [closeTenant, apply_ite State.mc]
  · simp [closeTenant, apply_ite State.lc]
  · simp [closeTenant, apply_ite State.ca]
  · simp [closeTenant, apply_ite State.tm]
  · simp [closeTenant, apply_ite State.st]

@[simp] theorem closeTenant_frame_2 (t : Tenant) (s : State) :
    (closeTenant t s).pending = s.pending ∧ (closeTenant t s).tn.free = s.tn.free ∧
    (closeTenant t s).cb.snapshot = s.cb.snapshot ∧ (closeTenant t s).cb.valid = s.cb.valid ∧
    (closeTenant t s).cb.capture = s.cb.capture ∧ (closeTenant t s).cb.pending = s.cb.pending ∧
    (closeTenant t s).cb.captureDue = s.cb.captureDue ∧ (closeTenant t s).cb.live.tenants = s.cb.live.tenants := by
  refine ⟨?_, ?_, ?_, ?_, ?_, ?_, ?_, ?_⟩
  · simp [closeTenant, apply_ite State.pending]
  · simp [closeTenant, apply_ite State.tn, apply_ite TN.free]
  · simp [closeTenant, apply_ite State.cb, apply_ite CB.snapshot]
  · simp [closeTenant, apply_ite State.cb, apply_ite CB.valid]
  · simp [closeTenant, apply_ite State.cb, apply_ite CB.capture]
  · simp [closeTenant, apply_ite State.cb, apply_ite CB.pending]
  · simp [closeTenant, apply_ite State.cb, apply_ite CB.captureDue]
  · simp [closeTenant, apply_ite State.cb, apply_ite CB.live, apply_ite Bank.tenants]

@[simp] theorem closeTenant_frame_3 (t : Tenant) (s : State) :
    (closeTenant t s).cb.live.timing = s.cb.live.timing ∧ (closeTenant t s).cb.live.test = s.cb.live.test ∧
    (closeTenant t s).cp.rate = s.cp.rate ∧ (closeTenant t s).cp.receiver = s.cp.receiver ∧
    (closeTenant t s).cp.buffer = s.cp.buffer ∧ (closeTenant t s).cp.service = s.cp.service ∧
    (closeTenant t s).cp.attention = s.cp.attention ∧ (closeTenant t s).cp.resetDue = s.cp.resetDue := by
  refine ⟨?_, ?_, ?_, ?_, ?_, ?_, ?_, ?_⟩
  · simp [closeTenant, apply_ite State.cb, apply_ite CB.live, apply_ite Bank.timing]
  · simp [closeTenant, apply_ite State.cb, apply_ite CB.live, apply_ite Bank.test]
  · simp [closeTenant, apply_ite State.cp, apply_ite CP.rate]
  · simp [closeTenant, apply_ite State.cp, apply_ite CP.receiver]
  · simp [closeTenant, apply_ite State.cp, apply_ite CP.buffer]
  · simp [closeTenant, apply_ite State.cp, apply_ite CP.service]
  · simp [closeTenant, apply_ite State.cp, apply_ite CP.attention]
  · simp [closeTenant, apply_ite State.cp, apply_ite CP.resetDue]

/-! `closeEval` -/

@[simp] theorem closeEval_frame (s : State) :
    (closeEval s).mp = s.mp ∧ (closeEval s).sf = s.sf ∧ (closeEval s).ps = s.ps ∧ (closeEval s).mc = s.mc ∧
    (closeEval s).lc = s.lc ∧ (closeEval s).ca = s.ca ∧ (closeEval s).tm = s.tm ∧ (closeEval s).st = s.st := by
  refine ⟨?_, ?_, ?_, ?_, ?_, ?_, ?_, ?_⟩ <;>
    simp [closeEval]

@[simp] theorem closeEval_frame_2 (s : State) :
    (closeEval s).pending = s.pending ∧ (closeEval s).tn.free = s.tn.free ∧
    (closeEval s).cb.snapshot = s.cb.snapshot ∧ (closeEval s).cb.valid = s.cb.valid ∧
    (closeEval s).cb.capture = s.cb.capture ∧ (closeEval s).cb.pending = s.cb.pending ∧
    (closeEval s).cb.captureDue = s.cb.captureDue ∧ (closeEval s).cb.live.tenants = s.cb.live.tenants := by
  refine ⟨?_, ?_, ?_, ?_, ?_, ?_, ?_, ?_⟩ <;>
    simp [closeEval]

@[simp] theorem closeEval_frame_3 (s : State) :
    (closeEval s).cb.live.timing = s.cb.live.timing ∧ (closeEval s).cb.live.test = s.cb.live.test ∧
    (closeEval s).cp.rate = s.cp.rate ∧ (closeEval s).cp.receiver = s.cp.receiver ∧
    (closeEval s).cp.buffer = s.cp.buffer ∧ (closeEval s).cp.service = s.cp.service ∧
    (closeEval s).cp.attention = s.cp.attention ∧ (closeEval s).cp.resetDue = s.cp.resetDue := by
  refine ⟨?_, ?_, ?_, ?_, ?_, ?_, ?_, ?_⟩ <;>
    simp [closeEval]

/-! `partnerOpenOne` -/

@[simp] theorem partnerOpenOne_frame (p : Pending) (t : Tenant) (s : State) :
    (partnerOpenOne p t s).mp = s.mp ∧ (partnerOpenOne p t s).sf = s.sf ∧ (partnerOpenOne p t s).ps = s.ps ∧
    (partnerOpenOne p t s).mc = s.mc ∧ (partnerOpenOne p t s).lc = s.lc ∧ (partnerOpenOne p t s).ca = s.ca ∧
    (partnerOpenOne p t s).tm = s.tm ∧ (partnerOpenOne p t s).st = s.st := by
  refine ⟨?_, ?_, ?_, ?_, ?_, ?_, ?_, ?_⟩
  · simp [partnerOpenOne, apply_ite State.mp]
  · simp [partnerOpenOne, apply_ite State.sf]
  · simp [partnerOpenOne, apply_ite State.ps]
  · simp [partnerOpenOne, apply_ite State.mc]
  · simp [partnerOpenOne, apply_ite State.lc]
  · simp [partnerOpenOne, apply_ite State.ca]
  · simp [partnerOpenOne, apply_ite State.tm]
  · simp [partnerOpenOne, apply_ite State.st]

@[simp] theorem partnerOpenOne_frame_2 (p : Pending) (t : Tenant) (s : State) :
    (partnerOpenOne p t s).pending = s.pending ∧ (partnerOpenOne p t s).tn.free = s.tn.free ∧
    (partnerOpenOne p t s).cb.snapshot = s.cb.snapshot ∧ (partnerOpenOne p t s).cb.valid = s.cb.valid ∧
    (partnerOpenOne p t s).cb.capture = s.cb.capture ∧ (partnerOpenOne p t s).cb.pending = s.cb.pending ∧
    (partnerOpenOne p t s).cb.captureDue = s.cb.captureDue ∧
    (partnerOpenOne p t s).cb.live.tenants = s.cb.live.tenants := by
  refine ⟨?_, ?_, ?_, ?_, ?_, ?_, ?_, ?_⟩
  · simp [partnerOpenOne, apply_ite State.pending]
  · simp [partnerOpenOne, apply_ite State.tn, apply_ite TN.free]
  · simp [partnerOpenOne, apply_ite State.cb, apply_ite CB.snapshot]
  · simp [partnerOpenOne, apply_ite State.cb, apply_ite CB.valid]
  · simp [partnerOpenOne, apply_ite State.cb, apply_ite CB.capture]
  · simp [partnerOpenOne, apply_ite State.cb, apply_ite CB.pending]
  · simp [partnerOpenOne, apply_ite State.cb, apply_ite CB.captureDue]
  · simp [partnerOpenOne, apply_ite State.cb, apply_ite CB.live, apply_ite Bank.tenants]

@[simp] theorem partnerOpenOne_frame_3 (p : Pending) (t : Tenant) (s : State) :
    (partnerOpenOne p t s).cb.live.timing = s.cb.live.timing ∧ (partnerOpenOne p t s).cb.live.test = s.cb.live.test ∧
    (partnerOpenOne p t s).cp.rate = s.cp.rate ∧ (partnerOpenOne p t s).cp.receiver = s.cp.receiver ∧
    (partnerOpenOne p t s).cp.buffer = s.cp.buffer ∧ (partnerOpenOne p t s).cp.service = s.cp.service ∧
    (partnerOpenOne p t s).cp.attention = s.cp.attention ∧ (partnerOpenOne p t s).cp.resetDue = s.cp.resetDue := by
  refine ⟨?_, ?_, ?_, ?_, ?_, ?_, ?_, ?_⟩
  · simp [partnerOpenOne, apply_ite State.cb, apply_ite CB.live, apply_ite Bank.timing]
  · simp [partnerOpenOne, apply_ite State.cb, apply_ite CB.live, apply_ite Bank.test]
  · simp [partnerOpenOne, apply_ite State.cp, apply_ite CP.rate]
  · simp [partnerOpenOne, apply_ite State.cp, apply_ite CP.receiver]
  · simp [partnerOpenOne, apply_ite State.cp, apply_ite CP.buffer]
  · simp [partnerOpenOne, apply_ite State.cp, apply_ite CP.service]
  · simp [partnerOpenOne, apply_ite State.cp, apply_ite CP.attention]
  · simp [partnerOpenOne, apply_ite State.cp, apply_ite CP.resetDue]

/-! `partnerOpen` -/

@[simp] theorem partnerOpen_frame (p : Pending) (s : State) :
    (partnerOpen p s).mp = s.mp ∧ (partnerOpen p s).sf = s.sf ∧ (partnerOpen p s).ps = s.ps ∧
    (partnerOpen p s).mc = s.mc ∧ (partnerOpen p s).lc = s.lc ∧ (partnerOpen p s).ca = s.ca ∧
    (partnerOpen p s).tm = s.tm ∧ (partnerOpen p s).st = s.st := by
  refine ⟨?_, ?_, ?_, ?_, ?_, ?_, ?_, ?_⟩ <;>
    simp [partnerOpen]

@[simp] theorem partnerOpen_frame_2 (p : Pending) (s : State) :
    (partnerOpen p s).pending = s.pending ∧ (partnerOpen p s).tn.free = s.tn.free ∧
    (partnerOpen p s).cb.snapshot = s.cb.snapshot ∧ (partnerOpen p s).cb.valid = s.cb.valid ∧
    (partnerOpen p s).cb.capture = s.cb.capture ∧ (partnerOpen p s).cb.pending = s.cb.pending ∧
    (partnerOpen p s).cb.captureDue = s.cb.captureDue ∧ (partnerOpen p s).cb.live.tenants = s.cb.live.tenants := by
  refine ⟨?_, ?_, ?_, ?_, ?_, ?_, ?_, ?_⟩ <;>
    simp [partnerOpen]

@[simp] theorem partnerOpen_frame_3 (p : Pending) (s : State) :
    (partnerOpen p s).cb.live.timing = s.cb.live.timing ∧ (partnerOpen p s).cb.live.test = s.cb.live.test ∧
    (partnerOpen p s).cp.rate = s.cp.rate ∧ (partnerOpen p s).cp.receiver = s.cp.receiver ∧
    (partnerOpen p s).cp.buffer = s.cp.buffer ∧ (partnerOpen p s).cp.service = s.cp.service ∧
    (partnerOpen p s).cp.attention = s.cp.attention ∧ (partnerOpen p s).cp.resetDue = s.cp.resetDue := by
  refine ⟨?_, ?_, ?_, ?_, ?_, ?_, ?_, ?_⟩ <;>
    simp [partnerOpen]

theorem evalSync_eq (t : Tenant) (s : State) :
    evalSync t s =
      if syncRule s.lc.role s.tm (tenantRec s t).config.syncDependent = (tenantRec s t).syncOk then (s, false)
      else (reportTenant t (tenantRec s t).state .sync false
        (modTenant t (fun r => { r with syncOk := syncRule s.lc.role s.tm (tenantRec s t).config.syncDependent }) s),
        true) := rfl

/-! `evalSync` -/

@[simp] theorem evalSync_frame (t : Tenant) (s : State) :
    ((evalSync t s).1).mp = s.mp ∧ ((evalSync t s).1).sf = s.sf ∧ ((evalSync t s).1).ps = s.ps ∧
    ((evalSync t s).1).mc = s.mc ∧ ((evalSync t s).1).lc = s.lc ∧ ((evalSync t s).1).ca = s.ca ∧
    ((evalSync t s).1).tm = s.tm ∧ ((evalSync t s).1).st = s.st := by
  refine ⟨?_, ?_, ?_, ?_, ?_, ?_, ?_, ?_⟩ <;>
    (rw [evalSync_eq]; split <;> simp)

@[simp] theorem evalSync_frame_2 (t : Tenant) (s : State) :
    ((evalSync t s).1).pending = s.pending ∧ ((evalSync t s).1).tn.free = s.tn.free ∧
    ((evalSync t s).1).cb.snapshot = s.cb.snapshot ∧ ((evalSync t s).1).cb.valid = s.cb.valid ∧
    ((evalSync t s).1).cb.capture = s.cb.capture ∧ ((evalSync t s).1).cb.pending = s.cb.pending ∧
    ((evalSync t s).1).cb.captureDue = s.cb.captureDue ∧ ((evalSync t s).1).cb.live.tenants = s.cb.live.tenants := by
  refine ⟨?_, ?_, ?_, ?_, ?_, ?_, ?_, ?_⟩ <;>
    (rw [evalSync_eq]; split <;> simp)

@[simp] theorem evalSync_frame_3 (t : Tenant) (s : State) :
    ((evalSync t s).1).cb.live.timing = s.cb.live.timing ∧ ((evalSync t s).1).cb.live.test = s.cb.live.test ∧
    ((evalSync t s).1).cp.rate = s.cp.rate ∧ ((evalSync t s).1).cp.receiver = s.cp.receiver ∧
    ((evalSync t s).1).cp.buffer = s.cp.buffer ∧ ((evalSync t s).1).cp.service = s.cp.service ∧
    ((evalSync t s).1).cp.attention = s.cp.attention ∧ ((evalSync t s).1).cp.resetDue = s.cp.resetDue := by
  refine ⟨?_, ?_, ?_, ?_, ?_, ?_, ?_, ?_⟩ <;>
    (rw [evalSync_eq]; split <;> simp)

/-! `admitPacket` -/

@[simp] theorem admitPacket_frame (t : Tenant) (p : List Byte) (s : State) :
    (admitPacket t p s).mp = s.mp ∧ (admitPacket t p s).sf = s.sf ∧ (admitPacket t p s).ps = s.ps ∧
    (admitPacket t p s).mc = s.mc ∧ (admitPacket t p s).lc = s.lc ∧ (admitPacket t p s).tm = s.tm ∧
    (admitPacket t p s).st = s.st ∧ (admitPacket t p s).cp = s.cp := by
  refine ⟨?_, ?_, ?_, ?_, ?_, ?_, ?_, ?_⟩
  · simp [admitPacket, apply_ite State.mp]
  · simp [admitPacket, apply_ite State.sf]
  · simp [admitPacket, apply_ite State.ps]
  · simp [admitPacket, apply_ite State.mc]
  · simp [admitPacket, apply_ite State.lc]
  · simp [admitPacket, apply_ite State.tm]
  · simp [admitPacket, apply_ite State.st]
  · simp [admitPacket, apply_ite State.cp]

@[simp] theorem admitPacket_frame_2 (t : Tenant) (p : List Byte) (s : State) :
    (admitPacket t p s).pending = s.pending ∧ (admitPacket t p s).ca.fixed = s.ca.fixed ∧
    (admitPacket t p s).ca.fixedCounts = s.ca.fixedCounts ∧ (admitPacket t p s).cb.snapshot = s.cb.snapshot ∧
    (admitPacket t p s).cb.valid = s.cb.valid ∧ (admitPacket t p s).cb.capture = s.cb.capture ∧
    (admitPacket t p s).cb.pending = s.cb.pending ∧ (admitPacket t p s).cb.captureDue = s.cb.captureDue := by
  refine ⟨?_, ?_, ?_, ?_, ?_, ?_, ?_, ?_⟩
  · simp [admitPacket, apply_ite State.pending]
  · simp [admitPacket, apply_ite State.ca, apply_ite CA.fixed]
  · simp [admitPacket, apply_ite State.ca, apply_ite CA.fixedCounts]
  · simp [admitPacket, apply_ite State.cb, apply_ite CB.snapshot]
  · simp [admitPacket, apply_ite State.cb, apply_ite CB.valid]
  · simp [admitPacket, apply_ite State.cb, apply_ite CB.capture]
  · simp [admitPacket, apply_ite State.cb, apply_ite CB.pending]
  · simp [admitPacket, apply_ite State.cb, apply_ite CB.captureDue]

@[simp] theorem admitPacket_frame_3 (t : Tenant) (p : List Byte) (s : State) :
    (admitPacket t p s).cb.live.timing = s.cb.live.timing ∧ (admitPacket t p s).cb.live.test = s.cb.live.test := by
  refine ⟨?_, ?_⟩
  · simp [admitPacket, apply_ite State.cb, apply_ite CB.live, apply_ite Bank.timing]
  · simp [admitPacket, apply_ite State.cb, apply_ite CB.live, apply_ite Bank.test]

/-! `emptyQueue` -/

@[simp] theorem emptyQueue_frame (t : Tenant) (s : State) :
    (emptyQueue t s).mp = s.mp ∧ (emptyQueue t s).sf = s.sf ∧ (emptyQueue t s).ps = s.ps ∧
    (emptyQueue t s).mc = s.mc ∧ (emptyQueue t s).lc = s.lc ∧ (emptyQueue t s).ca = s.ca ∧
    (emptyQueue t s).tm = s.tm ∧ (emptyQueue t s).st = s.st ∧ (emptyQueue t s).cb = s.cb ∧
    (emptyQueue t s).cp = s.cp ∧ (emptyQueue t s).pending = s.pending :=
  ⟨rfl, rfl, rfl, rfl, rfl, rfl, rfl, rfl, rfl, rfl, rfl⟩

theorem composeTenant_fst (t : Tenant) (s : State) :
    (composeTenant t s).1 =
      countTimes (countTenant t .packetsSent)
        (fillPositions (tenantRec s t).config.fill (s.ps.active.counts.get t) (tenantRec s t).queue).sent
        (modTenant t
          (fun r => { r with queue :=
            (fillPositions (tenantRec s t).config.fill (s.ps.active.counts.get t) (tenantRec s t).queue).queue })
          (s.modTN fun tn => { tn with free := tn.free +
            (fillPositions (tenantRec s t).config.fill (s.ps.active.counts.get t) (tenantRec s t).queue).freed })) :=
  rfl

/-! `composeTenant` -/

@[simp] theorem composeTenant_frame (t : Tenant) (s : State) :
    ((composeTenant t s).1).mp = s.mp ∧ ((composeTenant t s).1).sf = s.sf ∧ ((composeTenant t s).1).ps = s.ps ∧
    ((composeTenant t s).1).mc = s.mc ∧ ((composeTenant t s).1).lc = s.lc ∧ ((composeTenant t s).1).ca = s.ca ∧
    ((composeTenant t s).1).tm = s.tm ∧ ((composeTenant t s).1).st = s.st := by
  refine ⟨?_, ?_, ?_, ?_, ?_, ?_, ?_, ?_⟩ <;>
    (rw [composeTenant_fst]; simp)

@[simp] theorem composeTenant_frame_2 (t : Tenant) (s : State) :
    ((composeTenant t s).1).cp = s.cp ∧ ((composeTenant t s).1).pending = s.pending ∧
    ((composeTenant t s).1).cb.snapshot = s.cb.snapshot ∧ ((composeTenant t s).1).cb.valid = s.cb.valid ∧
    ((composeTenant t s).1).cb.capture = s.cb.capture ∧ ((composeTenant t s).1).cb.pending = s.cb.pending ∧
    ((composeTenant t s).1).cb.captureDue = s.cb.captureDue ∧
    ((composeTenant t s).1).cb.live.timing = s.cb.live.timing := by
  refine ⟨?_, ?_, ?_, ?_, ?_, ?_, ?_, ?_⟩ <;>
    (rw [composeTenant_fst]; simp)

@[simp] theorem composeTenant_frame_3 (t : Tenant) (s : State) :
    ((composeTenant t s).1).cb.live.test = s.cb.live.test := by
  rw [composeTenant_fst]; simp

/-! `takeTenantPositions` -/

@[simp] theorem takeTenantPositions_frame (t : Tenant) (p : List (List Byte)) (s : State) :
    (takeTenantPositions t p s).mp = s.mp ∧ (takeTenantPositions t p s).sf = s.sf ∧
    (takeTenantPositions t p s).ps = s.ps ∧ (takeTenantPositions t p s).mc = s.mc ∧
    (takeTenantPositions t p s).lc = s.lc ∧ (takeTenantPositions t p s).ca = s.ca ∧
    (takeTenantPositions t p s).tm = s.tm ∧ (takeTenantPositions t p s).st = s.st := by
  refine ⟨?_, ?_, ?_, ?_, ?_, ?_, ?_, ?_⟩
  · simp [takeTenantPositions, apply_ite State.mp]
  · simp [takeTenantPositions, apply_ite State.sf]
  · simp [takeTenantPositions, apply_ite State.ps]
  · simp [takeTenantPositions, apply_ite State.mc]
  · simp [takeTenantPositions, apply_ite State.lc]
  · simp [takeTenantPositions, apply_ite State.ca]
  · simp [takeTenantPositions, apply_ite State.tm]
  · simp [takeTenantPositions, apply_ite State.st]

@[simp] theorem takeTenantPositions_frame_2 (t : Tenant) (p : List (List Byte)) (s : State) :
    (takeTenantPositions t p s).cp = s.cp ∧ (takeTenantPositions t p s).pending = s.pending ∧
    (takeTenantPositions t p s).tn.free = s.tn.free ∧ (takeTenantPositions t p s).cb.snapshot = s.cb.snapshot ∧
    (takeTenantPositions t p s).cb.valid = s.cb.valid ∧ (takeTenantPositions t p s).cb.capture = s.cb.capture ∧
    (takeTenantPositions t p s).cb.pending = s.cb.pending ∧
    (takeTenantPositions t p s).cb.captureDue = s.cb.captureDue := by
  refine ⟨?_, ?_, ?_, ?_, ?_, ?_, ?_, ?_⟩
  · simp [takeTenantPositions, apply_ite State.cp]
  · simp [takeTenantPositions, apply_ite State.pending]
  · simp [takeTenantPositions, apply_ite State.tn, apply_ite TN.free]
  · simp [takeTenantPositions, apply_ite State.cb, apply_ite CB.snapshot]
  · simp [takeTenantPositions, apply_ite State.cb, apply_ite CB.valid]
  · simp [takeTenantPositions, apply_ite State.cb, apply_ite CB.capture]
  · simp [takeTenantPositions, apply_ite State.cb, apply_ite CB.pending]
  · simp [takeTenantPositions, apply_ite State.cb, apply_ite CB.captureDue]

@[simp] theorem takeTenantPositions_frame_3 (t : Tenant) (p : List (List Byte)) (s : State) :
    (takeTenantPositions t p s).cb.live.timing = s.cb.live.timing ∧
    (takeTenantPositions t p s).cb.live.test = s.cb.live.test := by
  refine ⟨?_, ?_⟩
  · simp [takeTenantPositions, apply_ite State.cb, apply_ite CB.live, apply_ite Bank.timing]
  · simp [takeTenantPositions, apply_ite State.cb, apply_ite CB.live, apply_ite Bank.test]

/-! `gapTenant` -/

@[simp] theorem gapTenant_frame (t : Tenant) (s : State) :
    (gapTenant t s).mp = s.mp ∧ (gapTenant t s).sf = s.sf ∧ (gapTenant t s).ps = s.ps ∧ (gapTenant t s).mc = s.mc ∧
    (gapTenant t s).lc = s.lc ∧ (gapTenant t s).ca = s.ca ∧ (gapTenant t s).tm = s.tm ∧ (gapTenant t s).st = s.st := by
  refine ⟨?_, ?_, ?_, ?_, ?_, ?_, ?_, ?_⟩ <;>
    (unfold gapTenant; split <;> simp)

@[simp] theorem gapTenant_frame_2 (t : Tenant) (s : State) :
    (gapTenant t s).cp = s.cp ∧ (gapTenant t s).pending = s.pending ∧ (gapTenant t s).tn.free = s.tn.free ∧
    (gapTenant t s).cb.snapshot = s.cb.snapshot ∧ (gapTenant t s).cb.valid = s.cb.valid ∧
    (gapTenant t s).cb.capture = s.cb.capture ∧ (gapTenant t s).cb.pending = s.cb.pending ∧
    (gapTenant t s).cb.captureDue = s.cb.captureDue := by
  refine ⟨?_, ?_, ?_, ?_, ?_, ?_, ?_, ?_⟩ <;>
    (unfold gapTenant; split <;> simp)

@[simp] theorem gapTenant_frame_3 (t : Tenant) (s : State) :
    (gapTenant t s).cb.live.timing = s.cb.live.timing ∧ (gapTenant t s).cb.live.test = s.cb.live.test := by
  refine ⟨?_, ?_⟩ <;>
    (unfold gapTenant; split <;> simp)

/-! `gapAll` -/

@[simp] theorem gapAll_frame (s : State) :
    (gapAll s).mp = s.mp ∧ (gapAll s).sf = s.sf ∧ (gapAll s).ps = s.ps ∧ (gapAll s).mc = s.mc ∧ (gapAll s).lc = s.lc ∧
    (gapAll s).ca = s.ca ∧ (gapAll s).tm = s.tm ∧ (gapAll s).st = s.st := by
  refine ⟨?_, ?_, ?_, ?_, ?_, ?_, ?_, ?_⟩ <;>
    simp [gapAll]

@[simp] theorem gapAll_frame_2 (s : State) :
    (gapAll s).cp = s.cp ∧ (gapAll s).pending = s.pending ∧ (gapAll s).tn.free = s.tn.free ∧
    (gapAll s).cb.snapshot = s.cb.snapshot ∧ (gapAll s).cb.valid = s.cb.valid ∧ (gapAll s).cb.capture = s.cb.capture ∧
    (gapAll s).cb.pending = s.cb.pending ∧ (gapAll s).cb.captureDue = s.cb.captureDue := by
  refine ⟨?_, ?_, ?_, ?_, ?_, ?_, ?_, ?_⟩ <;>
    simp [gapAll]

@[simp] theorem gapAll_frame_3 (s : State) :
    (gapAll s).cb.live.timing = s.cb.live.timing ∧ (gapAll s).cb.live.test = s.cb.live.test := by
  refine ⟨?_, ?_⟩ <;>
    simp [gapAll]

/-! `takeFarNibble` -/

@[simp] theorem takeFarNibble_frame (t : Tenant) (n : Nibble) (s : State) :
    (takeFarNibble t n s).mp = s.mp ∧ (takeFarNibble t n s).sf = s.sf ∧ (takeFarNibble t n s).ps = s.ps ∧
    (takeFarNibble t n s).mc = s.mc ∧ (takeFarNibble t n s).lc = s.lc ∧ (takeFarNibble t n s).ca = s.ca ∧
    (takeFarNibble t n s).tm = s.tm ∧ (takeFarNibble t n s).st = s.st := by
  refine ⟨?_, ?_, ?_, ?_, ?_, ?_, ?_, ?_⟩
  · simp [takeFarNibble, apply_ite State.mp]
  · simp [takeFarNibble, apply_ite State.sf]
  · simp [takeFarNibble, apply_ite State.ps]
  · simp [takeFarNibble, apply_ite State.mc]
  · simp [takeFarNibble, apply_ite State.lc]
  · simp [takeFarNibble, apply_ite State.ca]
  · simp [takeFarNibble, apply_ite State.tm]
  · simp [takeFarNibble, apply_ite State.st]

@[simp] theorem takeFarNibble_frame_2 (t : Tenant) (n : Nibble) (s : State) :
    (takeFarNibble t n s).pending = s.pending ∧ (takeFarNibble t n s).tn.free = s.tn.free ∧
    (takeFarNibble t n s).cb.snapshot = s.cb.snapshot ∧ (takeFarNibble t n s).cb.valid = s.cb.valid ∧
    (takeFarNibble t n s).cb.capture = s.cb.capture ∧ (takeFarNibble t n s).cb.pending = s.cb.pending ∧
    (takeFarNibble t n s).cb.captureDue = s.cb.captureDue ∧ (takeFarNibble t n s).cb.live.tenants = s.cb.live.tenants := by
  refine ⟨?_, ?_, ?_, ?_, ?_, ?_, ?_, ?_⟩
  · simp [takeFarNibble, apply_ite State.pending]
  · simp [takeFarNibble, apply_ite State.tn, apply_ite TN.free]
  · simp [takeFarNibble, apply_ite State.cb, apply_ite CB.snapshot]
  · simp [takeFarNibble, apply_ite State.cb, apply_ite CB.valid]
  · simp [takeFarNibble, apply_ite State.cb, apply_ite CB.capture]
  · simp [takeFarNibble, apply_ite State.cb, apply_ite CB.pending]
  · simp [takeFarNibble, apply_ite State.cb, apply_ite CB.captureDue]
  · simp [takeFarNibble, apply_ite State.cb, apply_ite CB.live, apply_ite Bank.tenants]

@[simp] theorem takeFarNibble_frame_3 (t : Tenant) (n : Nibble) (s : State) :
    (takeFarNibble t n s).cb.live.timing = s.cb.live.timing ∧ (takeFarNibble t n s).cb.live.test = s.cb.live.test ∧
    (takeFarNibble t n s).cp.rate = s.cp.rate ∧ (takeFarNibble t n s).cp.receiver = s.cp.receiver ∧
    (takeFarNibble t n s).cp.buffer = s.cp.buffer ∧ (takeFarNibble t n s).cp.service = s.cp.service ∧
    (takeFarNibble t n s).cp.attention = s.cp.attention ∧ (takeFarNibble t n s).cp.resetDue = s.cp.resetDue := by
  refine ⟨?_, ?_, ?_, ?_, ?_, ?_, ?_, ?_⟩
  · simp [takeFarNibble, apply_ite State.cb, apply_ite CB.live, apply_ite Bank.timing]
  · simp [takeFarNibble, apply_ite State.cb, apply_ite CB.live, apply_ite Bank.test]
  · simp [takeFarNibble, apply_ite State.cp, apply_ite CP.rate]
  · simp [takeFarNibble, apply_ite State.cp, apply_ite CP.receiver]
  · simp [takeFarNibble, apply_ite State.cp, apply_ite CP.buffer]
  · simp [takeFarNibble, apply_ite State.cp, apply_ite CP.service]
  · simp [takeFarNibble, apply_ite State.cp, apply_ite CP.attention]
  · simp [takeFarNibble, apply_ite State.cp, apply_ite CP.resetDue]

/-! `takeFarNibbles` -/

@[simp] theorem takeFarNibbles_frame (n : PerTenant Nibble) (s : State) :
    (takeFarNibbles n s).mp = s.mp ∧ (takeFarNibbles n s).sf = s.sf ∧ (takeFarNibbles n s).ps = s.ps ∧
    (takeFarNibbles n s).mc = s.mc ∧ (takeFarNibbles n s).lc = s.lc ∧ (takeFarNibbles n s).ca = s.ca ∧
    (takeFarNibbles n s).tm = s.tm ∧ (takeFarNibbles n s).st = s.st := by
  refine ⟨?_, ?_, ?_, ?_, ?_, ?_, ?_, ?_⟩ <;>
    simp [takeFarNibbles]

@[simp] theorem takeFarNibbles_frame_2 (n : PerTenant Nibble) (s : State) :
    (takeFarNibbles n s).pending = s.pending ∧ (takeFarNibbles n s).tn.free = s.tn.free ∧
    (takeFarNibbles n s).cb.snapshot = s.cb.snapshot ∧ (takeFarNibbles n s).cb.valid = s.cb.valid ∧
    (takeFarNibbles n s).cb.capture = s.cb.capture ∧ (takeFarNibbles n s).cb.pending = s.cb.pending ∧
    (takeFarNibbles n s).cb.captureDue = s.cb.captureDue ∧ (takeFarNibbles n s).cb.live.tenants = s.cb.live.tenants := by
  refine ⟨?_, ?_, ?_, ?_, ?_, ?_, ?_, ?_⟩ <;>
    simp [takeFarNibbles]

@[simp] theorem takeFarNibbles_frame_3 (n : PerTenant Nibble) (s : State) :
    (takeFarNibbles n s).cb.live.timing = s.cb.live.timing ∧ (takeFarNibbles n s).cb.live.test = s.cb.live.test ∧
    (takeFarNibbles n s).cp.rate = s.cp.rate ∧ (takeFarNibbles n s).cp.receiver = s.cp.receiver ∧
    (takeFarNibbles n s).cp.buffer = s.cp.buffer ∧ (takeFarNibbles n s).cp.service = s.cp.service ∧
    (takeFarNibbles n s).cp.attention = s.cp.attention ∧ (takeFarNibbles n s).cp.resetDue = s.cp.resetDue := by
  refine ⟨?_, ?_, ?_, ?_, ?_, ?_, ?_, ?_⟩ <;>
    simp [takeFarNibbles]

end Sys2Proof.Machine
end

