-- ==== Sys2Proof/Laws/Allocate.lean ====
section
/-! SUPPORT. What the operations of the Plan Store and of the Capacity Allocator leave alone. -/

set_option linter.unusedSimpArgs false

namespace Sys2Proof.Machine

/-! `installPending` -/

@[simp] theorem installPending_frame (p : Pending) (s : State) :
    (installPending p s).mp = s.mp ∧ (installPending p s).sf = s.sf ∧ (installPending p s).mc = s.mc ∧
    (installPending p s).lc = s.lc ∧ (installPending p s).ca = s.ca ∧ (installPending p s).tm = s.tm ∧
    (installPending p s).st = s.st ∧ (installPending p s).pending = s.pending := by
  refine ⟨?_, ?_, ?_, ?_, ?_, ?_, ?_, ?_⟩
  iterate 3
    · simp only [installPending]; (repeat' split) <;> simp_all
  · simp [installPending, apply_ite State.lc]
  iterate 4
    · simp only [installPending]; (repeat' split) <;> simp_all

@[simp] theorem installPending_frame_2 (p : Pending) (s : State) :
    (installPending p s).ps.active = s.ps.active ∧ (installPending p s).ps.fallback = s.ps.fallback ∧
    (installPending p s).ps.previous = s.ps.previous ∧ (installPending p s).ps.idleDue = s.ps.idleDue ∧
    (installPending p s).tn.free = s.tn.free ∧ (installPending p s).cb.snapshot = s.cb.snapshot ∧
    (installPending p s).cb.valid = s.cb.valid ∧ (installPending p s).cb.capture = s.cb.capture := by
  refine ⟨?_, ?_, ?_, ?_, ?_, ?_, ?_, ?_⟩ <;>
    (simp only [installPending]; (repeat' split) <;> simp_all)

@[simp] theorem installPending_frame_3 (p : Pending) (s : State) :
    (installPending p s).cb.pending = s.cb.pending ∧ (installPending p s).cb.captureDue = s.cb.captureDue ∧
    (installPending p s).cb.live.tenants = s.cb.live.tenants ∧
    (installPending p s).cb.live.timing = s.cb.live.timing ∧ (installPending p s).cb.live.test = s.cb.live.test ∧
    (installPending p s).cp.rate = s.cp.rate ∧ (installPending p s).cp.receiver = s.cp.receiver ∧
    (installPending p s).cp.buffer = s.cp.buffer := by
  refine ⟨?_, ?_, ?_, ?_, ?_, ?_, ?_, ?_⟩ <;>
    (simp only [installPending]; (repeat' split) <;> simp_all)

@[simp] theorem installPending_frame_4 (p : Pending) (s : State) :
    (installPending p s).cp.service = s.cp.service ∧ (installPending p s).cp.attention = s.cp.attention ∧
    (installPending p s).cp.resetDue = s.cp.resetDue := by
  refine ⟨?_, ?_, ?_⟩ <;>
    (simp only [installPending]; (repeat' split) <;> simp_all)

theorem offerPlan_eq (p : Pending) (s : State) :
    offerPlan p s =
      ((if judgeOffer s.ps s.mp.frame p = none then installPending p s else s), judgeOffer s.ps s.mp.frame p) := by
  unfold offerPlan
  cases judgeOffer s.ps s.mp.frame p <;> rfl

/-! `offerPlan` -/

@[simp] theorem offerPlan_frame (p : Pending) (s : State) :
    ((offerPlan p s).1).mp = s.mp ∧ ((offerPlan p s).1).sf = s.sf ∧ ((offerPlan p s).1).mc = s.mc ∧
    ((offerPlan p s).1).lc = s.lc ∧ ((offerPlan p s).1).ca = s.ca ∧ ((offerPlan p s).1).tm = s.tm ∧
    ((offerPlan p s).1).st = s.st ∧ ((offerPlan p s).1).pending = s.pending := by
  refine ⟨?_, ?_, ?_, ?_, ?_, ?_, ?_, ?_⟩ <;>
    (rw [offerPlan_eq]; dsimp only; split <;> simp)

@[simp] theorem offerPlan_frame_2 (p : Pending) (s : State) :
    ((offerPlan p s).1).ps.active = s.ps.active ∧ ((offerPlan p s).1).ps.fallback = s.ps.fallback ∧
    ((offerPlan p s).1).ps.previous = s.ps.previous ∧ ((offerPlan p s).1).ps.idleDue = s.ps.idleDue ∧
    ((offerPlan p s).1).tn.free = s.tn.free ∧ ((offerPlan p s).1).cb.snapshot = s.cb.snapshot ∧
    ((offerPlan p s).1).cb.valid = s.cb.valid ∧ ((offerPlan p s).1).cb.capture = s.cb.capture := by
  refine ⟨?_, ?_, ?_, ?_, ?_, ?_, ?_, ?_⟩ <;>
    (rw [offerPlan_eq]; dsimp only; split <;> simp)

@[simp] theorem offerPlan_frame_3 (p : Pending) (s : State) :
    ((offerPlan p s).1).cb.pending = s.cb.pending ∧ ((offerPlan p s).1).cb.captureDue = s.cb.captureDue ∧
    ((offerPlan p s).1).cb.live.tenants = s.cb.live.tenants ∧ ((offerPlan p s).1).cb.live.timing = s.cb.live.timing ∧
    ((offerPlan p s).1).cb.live.test = s.cb.live.test ∧ ((offerPlan p s).1).cp.rate = s.cp.rate ∧
    ((offerPlan p s).1).cp.receiver = s.cp.receiver ∧ ((offerPlan p s).1).cp.buffer = s.cp.buffer := by
  refine ⟨?_, ?_, ?_, ?_, ?_, ?_, ?_, ?_⟩ <;>
    (rw [offerPlan_eq]; dsimp only; split <;> simp)

@[simp] theorem offerPlan_frame_4 (p : Pending) (s : State) :
    ((offerPlan p s).1).cp.service = s.cp.service ∧ ((offerPlan p s).1).cp.attention = s.cp.attention ∧
    ((offerPlan p s).1).cp.resetDue = s.cp.resetDue := by
  refine ⟨?_, ?_, ?_⟩ <;>
    (rw [offerPlan_eq]; dsimp only; split <;> simp)

/-! `dropPending` -/

@[simp] theorem dropPending_frame (s : State) :
    (dropPending s).mp = s.mp ∧ (dropPending s).sf = s.sf ∧ (dropPending s).mc = s.mc ∧ (dropPending s).lc = s.lc ∧
    (dropPending s).ca = s.ca ∧ (dropPending s).tm = s.tm ∧ (dropPending s).st = s.st ∧
    (dropPending s).pending = s.pending := by
  refine ⟨?_, ?_, ?_, ?_, ?_, ?_, ?_, ?_⟩
  · simp [dropPending, apply_ite State.mp]
  · simp [dropPending, apply_ite State.sf]
  · simp [dropPending, apply_ite State.mc]
  · simp [dropPending, apply_ite State.lc]
  · simp [dropPending, apply_ite State.ca]
  · simp [dropPending, apply_ite State.tm]
  · simp [dropPending, apply_ite State.st]
  · simp [dropPending, apply_ite State.pending]

@[simp] theorem dropPending_frame_2 (s : State) :
    (dropPending s).ps.active = s.ps.active ∧ (dropPending s).ps.fallback = s.ps.fallback ∧
    (dropPending s).ps.previous = s.ps.previous ∧ (dropPending s).ps.idleDue = s.ps.idleDue ∧
    (dropPending s).tn.free = s.tn.free ∧ (dropPending s).cb.snapshot = s.cb.snapshot ∧
    (dropPending s).cb.valid = s.cb.valid ∧ (dropPending s).cb.capture = s.cb.capture := by
  refine ⟨?_, ?_, ?_, ?_, ?_, ?_, ?_, ?_⟩
  · simp [dropPending, apply_ite State.ps, apply_ite PS.active]
  · simp [dropPending, apply_ite State.ps, apply_ite PS.fallback]
  · simp [dropPending, apply_ite State.ps, apply_ite PS.previous]
  · simp [dropPending, apply_ite State.ps, apply_ite PS.idleDue]
  · simp [dropPending, apply_ite State.tn, apply_ite TN.free]
  · simp [dropPending, apply_ite State.cb, apply_ite CB.snapshot]
  · simp [dropPending, apply_ite State.cb, apply_ite CB.valid]
  · simp [dropPending, apply_ite State.cb, apply_ite CB.capture]

@[simp] theorem dropPending_frame_3 (s : State) :
    (dropPending s).cb.pending = s.cb.pending ∧ (dropPending s).cb.captureDue = s.cb.captureDue ∧
    (dropPending s).cb.live.tenants = s.cb.live.tenants ∧ (dropPending s).cb.live.timing = s.cb.live.timing ∧
    (dropPending s).cb.live.test = s.cb.live.test ∧ (dropPending s).cp.rate = s.cp.rate ∧
    (dropPending s).cp.receiver = s.cp.receiver ∧ (dropPending s).cp.buffer = s.cp.buffer := by
  refine ⟨?_, ?_, ?_, ?_, ?_, ?_, ?_, ?_⟩
  · simp [dropPending, apply_ite State.cb, apply_ite CB.pending]
  · simp [dropPending, apply_ite State.cb, apply_ite CB.captureDue]
  · simp [dropPending, apply_ite State.cb, apply_ite CB.live, apply_ite Bank.tenants]
  · simp [dropPending, apply_ite State.cb, apply_ite CB.live, apply_ite Bank.timing]
  · simp [dropPending, apply_ite State.cb, apply_ite CB.live, apply_ite Bank.test]
  · simp [dropPending, apply_ite State.cp, apply_ite CP.rate]
  · simp [dropPending, apply_ite State.cp, apply_ite CP.receiver]
  · simp [dropPending, apply_ite State.cp, apply_ite CP.buffer]

@[simp] theorem dropPending_frame_4 (s : State) :
    (dropPending s).cp.service = s.cp.service ∧ (dropPending s).cp.attention = s.cp.attention ∧
    (dropPending s).cp.resetDue = s.cp.resetDue := by
  refine ⟨?_, ?_, ?_⟩
  · simp [dropPending, apply_ite State.cp, apply_ite CP.service]
  · simp [dropPending, apply_ite State.cp, apply_ite CP.attention]
  · simp [dropPending, apply_ite State.cp, apply_ite CP.resetDue]

/-! `confirmPending` -/

@[simp] theorem confirmPending_frame (s : State) :
    (confirmPending s).mp = s.mp ∧ (confirmPending s).sf = s.sf ∧ (confirmPending s).mc = s.mc ∧
    (confirmPending s).lc = s.lc ∧ (confirmPending s).tn = s.tn ∧ (confirmPending s).ca = s.ca ∧
    (confirmPending s).tm = s.tm ∧ (confirmPending s).st = s.st ∧ (confirmPending s).cb = s.cb ∧
    (confirmPending s).cp = s.cp ∧ (confirmPending s).pending = s.pending ∧
    (confirmPending s).ps.active = s.ps.active ∧ (confirmPending s).ps.fallback = s.ps.fallback ∧
    (confirmPending s).ps.previous = s.ps.previous ∧ (confirmPending s).ps.idleDue = s.ps.idleDue :=
  ⟨rfl, rfl, rfl, rfl, rfl, rfl, rfl, rfl, rfl, rfl, rfl, rfl, rfl, rfl, rfl⟩

/-! `markPending` -/

@[simp] theorem markPending_frame (s : State) :
    (markPending s).mp = s.mp ∧ (markPending s).sf = s.sf ∧ (markPending s).mc = s.mc ∧ (markPending s).lc = s.lc ∧
    (markPending s).tn = s.tn ∧ (markPending s).ca = s.ca ∧ (markPending s).tm = s.tm ∧ (markPending s).st = s.st ∧
    (markPending s).cb = s.cb ∧ (markPending s).cp = s.cp ∧ (markPending s).pending = s.pending ∧
    (markPending s).ps.active = s.ps.active ∧ (markPending s).ps.fallback = s.ps.fallback ∧
    (markPending s).ps.previous = s.ps.previous ∧ (markPending s).ps.idleDue = s.ps.idleDue :=
  ⟨rfl, rfl, rfl, rfl, rfl, rfl, rfl, rfl, rfl, rfl, rfl, rfl, rfl, rfl, rfl⟩

/-! `reportLink` -/

@[simp] theorem reportLink_frame (o : LinkState) (c : LinkCause) (e : Byte) (s : State) :
    (reportLink o c e s).mp = s.mp ∧ (reportLink o c e s).sf = s.sf ∧ (reportLink o c e s).ps = s.ps ∧
    (reportLink o c e s).mc = s.mc ∧ (reportLink o c e s).lc = s.lc ∧ (reportLink o c e s).tn = s.tn ∧
    (reportLink o c e s).ca = s.ca ∧ (reportLink o c e s).tm = s.tm := by
  refine ⟨?_, ?_, ?_, ?_, ?_, ?_, ?_, ?_⟩ <;>
    simp [reportLink]

@[simp] theorem reportLink_frame_2 (o : LinkState) (c : LinkCause) (e : Byte) (s : State) :
    (reportLink o c e s).st = s.st ∧ (reportLink o c e s).pending = s.pending ∧
    (reportLink o c e s).cb.snapshot = s.cb.snapshot ∧ (reportLink o c e s).cb.valid = s.cb.valid ∧
    (reportLink o c e s).cb.capture = s.cb.capture ∧ (reportLink o c e s).cb.pending = s.cb.pending ∧
    (reportLink o c e s).cb.captureDue = s.cb.captureDue ∧ (reportLink o c e s).cb.live.tenants = s.cb.live.tenants := by
  refine ⟨?_, ?_, ?_, ?_, ?_, ?_, ?_, ?_⟩ <;>
    simp [reportLink]

@[simp] theorem reportLink_frame_3 (o : LinkState) (c : LinkCause) (e : Byte) (s : State) :
    (reportLink o c e s).cb.live.timing = s.cb.live.timing ∧ (reportLink o c e s).cb.live.test = s.cb.live.test ∧
    (reportLink o c e s).cp.rate = s.cp.rate ∧ (reportLink o c e s).cp.receiver = s.cp.receiver ∧
    (reportLink o c e s).cp.buffer = s.cp.buffer ∧ (reportLink o c e s).cp.service = s.cp.service ∧
    (reportLink o c e s).cp.attention = s.cp.attention ∧ (reportLink o c e s).cp.resetDue = s.cp.resetDue := by
  refine ⟨?_, ?_, ?_, ?_, ?_, ?_, ?_, ?_⟩ <;>
    simp [reportLink]

theorem propose_eq (c : Candidate) (s : State) :
    propose c s =
      if s.lc.role = .site ∧ lcFree s then
        if (offerPlan (proposalOf c s) s).2 = none then
          (reportLink .up .shiftBegin 0
            ((countLink .shiftsProposed (send .linkController (shiftMessage (proposalOf c s))
              ((offerPlan (proposalOf c s) s).1.modLC fun lc =>
                { lc with proposal := some (Proposal.mk (proposalOf c s).plan.number (proposalOf c s).effective false) }))).modLC
              fun lc => { lc with link := .shift }), true)
        else
          (countLink .proposalsRefused
            ((offerPlan (proposalOf c s) s).1.modLC fun lc => { lc with freeNotice := .next }), false)
      else (s, false) := by
  unfold propose
  split
  · dsimp only
    rcases offerPlan (proposalOf c s) s with ⟨s', r⟩
    cases r <;> rfl
  · rfl

/-! `propose` -/

@[simp] theorem propose_frame (c : Candidate) (s : State) :
    ((propose c s).1).mp = s.mp ∧ ((propose c s).1).sf = s.sf ∧ ((propose c s).1).ca = s.ca ∧
    ((propose c s).1).tm = s.tm ∧ ((propose c s).1).pending = s.pending ∧ ((propose c s).1).ps.active = s.ps.active ∧
    ((propose c s).1).ps.fallback = s.ps.fallback ∧ ((propose c s).1).ps.previous = s.ps.previous := by
  refine ⟨?_, ?_, ?_, ?_, ?_, ?_, ?_, ?_⟩ <;>
    (rw [propose_eq]; (repeat' split) <;> simp)

@[simp] theorem propose_frame_2 (c : Candidate) (s : State) :
    ((propose c s).1).ps.idleDue = s.ps.idleDue ∧ ((propose c s).1).mc.restart = s.mc.restart ∧
    ((propose c s).1).mc.inbox = s.mc.inbox ∧ ((propose c s).1).mc.flagCount = s.mc.flagCount ∧
    ((propose c s).1).lc.role = s.lc.role ∧ ((propose c s).1).lc.identity = s.lc.identity ∧
    ((propose c s).1).lc.stop = s.lc.stop ∧ ((propose c s).1).lc.history = s.lc.history := by
  refine ⟨?_, ?_, ?_, ?_, ?_, ?_, ?_, ?_⟩ <;>
    (rw [propose_eq]; (repeat' split) <;> simp)

@[simp] theorem propose_frame_3 (c : Candidate) (s : State) :
    ((propose c s).1).lc.hostMax = s.lc.hostMax ∧ ((propose c s).1).tn.free = s.tn.free ∧
    ((propose c s).1).st.errored = s.st.errored ∧ ((propose c s).1).st.bits = s.st.bits ∧
    ((propose c s).1).st.commissioned = s.st.commissioned ∧ ((propose c s).1).st.kind = s.st.kind ∧
    ((propose c s).1).st.frames = s.st.frames ∧ ((propose c s).1).st.test = s.st.test := by
  refine ⟨?_, ?_, ?_, ?_, ?_, ?_, ?_, ?_⟩ <;>
    (rw [propose_eq]; (repeat' split) <;> simp)

@[simp] theorem propose_frame_4 (c : Candidate) (s : State) :
    ((propose c s).1).cb.snapshot = s.cb.snapshot ∧ ((propose c s).1).cb.valid = s.cb.valid ∧
    ((propose c s).1).cb.capture = s.cb.capture ∧ ((propose c s).1).cb.pending = s.cb.pending ∧
    ((propose c s).1).cb.captureDue = s.cb.captureDue ∧ ((propose c s).1).cb.live.tenants = s.cb.live.tenants ∧
    ((propose c s).1).cb.live.timing = s.cb.live.timing ∧ ((propose c s).1).cb.live.test = s.cb.live.test := by
  refine ⟨?_, ?_, ?_, ?_, ?_, ?_, ?_, ?_⟩ <;>
    (rw [propose_eq]; (repeat' split) <;> simp)

@[simp] theorem propose_frame_5 (c : Candidate) (s : State) :
    ((propose c s).1).cp.rate = s.cp.rate ∧ ((propose c s).1).cp.receiver = s.cp.receiver ∧
    ((propose c s).1).cp.buffer = s.cp.buffer ∧ ((propose c s).1).cp.service = s.cp.service ∧
    ((propose c s).1).cp.attention = s.cp.attention ∧ ((propose c s).1).cp.resetDue = s.cp.resetDue := by
  refine ⟨?_, ?_, ?_, ?_, ?_, ?_⟩ <;>
    (rw [propose_eq]; (repeat' split) <;> simp)

/-! `roomAbort` -/

@[simp] theorem roomAbort_frame (s : State) :
    (roomAbort s).sf = s.sf ∧ (roomAbort s).ps = s.ps ∧ (roomAbort s).tn = s.tn ∧ (roomAbort s).ca = s.ca ∧
    (roomAbort s).tm = s.tm ∧ (roomAbort s).pending = s.pending ∧ (roomAbort s).mp.frame = s.mp.frame ∧
    (roomAbort s).mp.composed = s.mp.composed := by
  refine ⟨?_, ?_, ?_, ?_, ?_, ?_, ?_, ?_⟩
  · simp [roomAbort, apply_ite State.sf]
  · simp [roomAbort, apply_ite State.ps]
  · simp [roomAbort, apply_ite State.tn]
  · simp [roomAbort, apply_ite State.ca]
  · simp [roomAbort, apply_ite State.tm]
  · simp [roomAbort, apply_ite State.pending]
  · simp [roomAbort, apply_ite State.mp, apply_ite MP.frame]
  · simp [roomAbort, apply_ite State.mp, apply_ite MP.composed]

@[simp] theorem roomAbort_frame_2 (s : State) :
    (roomAbort s).mp.rxTaken = s.mp.rxTaken ∧ (roomAbort s).mp.tx = s.mp.tx ∧
    (roomAbort s).mp.txBefore = s.mp.txBefore ∧ (roomAbort s).mp.loopback = s.mp.loopback ∧
    (roomAbort s).mc.restart = s.mc.restart ∧ (roomAbort s).mc.inbox = s.mc.inbox ∧
    (roomAbort s).mc.flagCount = s.mc.flagCount ∧ (roomAbort s).lc.role = s.lc.role := by
  refine ⟨?_, ?_, ?_, ?_, ?_, ?_, ?_, ?_⟩
  · simp [roomAbort, apply_ite State.mp, apply_ite MP.rxTaken]
  · simp [roomAbort, apply_ite State.mp, apply_ite MP.tx]
  · simp [roomAbort, apply_ite State.mp, apply_ite MP.txBefore]
  · simp [roomAbort, apply_ite State.mp, apply_ite MP.loopback]
  · simp [roomAbort, apply_ite State.mc, apply_ite MC.restart]
  · simp [roomAbort, apply_ite State.mc, apply_ite MC.inbox]
  · simp [roomAbort, apply_ite State.mc, apply_ite MC.flagCount]
  · simp [roomAbort, apply_ite State.lc, apply_ite LC.role]

@[simp] theorem roomAbort_frame_3 (s : State) :
    (roomAbort s).lc.identity = s.lc.identity ∧ (roomAbort s).lc.link = s.lc.link ∧
    (roomAbort s).lc.stop = s.lc.stop ∧ (roomAbort s).lc.history = s.lc.history ∧
    (roomAbort s).lc.hostMax = s.lc.hostMax ∧ (roomAbort s).st.errored = s.st.errored ∧
    (roomAbort s).st.bits = s.st.bits ∧ (roomAbort s).st.kind = s.st.kind := by
  refine ⟨?_, ?_, ?_, ?_, ?_, ?_, ?_, ?_⟩
  · simp [roomAbort, apply_ite State.lc, apply_ite LC.identity]
  · simp [roomAbort, apply_ite State.lc, apply_ite LC.link]
  · simp [roomAbort, apply_ite State.lc, apply_ite LC.stop]
  · simp [roomAbort, apply_ite State.lc, apply_ite LC.history]
  · simp [roomAbort, apply_ite State.lc, apply_ite LC.hostMax]
  · simp [roomAbort, apply_ite State.st, apply_ite ST.errored]
  · simp [roomAbort, apply_ite State.st, apply_ite ST.bits]
  · simp [roomAbort, apply_ite State.st, apply_ite ST.kind]

@[simp] theorem roomAbort_frame_4 (s : State) :
    (roomAbort s).st.frames = s.st.frames ∧ (roomAbort s).st.test = s.st.test ∧
    (roomAbort s).cb.snapshot = s.cb.snapshot ∧ (roomAbort s).cb.valid = s.cb.valid ∧
    (roomAbort s).cb.capture = s.cb.capture ∧ (roomAbort s).cb.pending = s.cb.pending ∧
    (roomAbort s).cb.captureDue = s.cb.captureDue ∧ (roomAbort s).cb.live.tenants = s.cb.live.tenants := by
  refine ⟨?_, ?_, ?_, ?_, ?_, ?_, ?_, ?_⟩
  · simp [roomAbort, apply_ite State.st, apply_ite ST.frames]
  · simp [roomAbort, apply_ite State.st, apply_ite ST.test]
  · simp [roomAbort, apply_ite State.cb, apply_ite CB.snapshot]
  · simp [roomAbort, apply_ite State.cb, apply_ite CB.valid]
  · simp [roomAbort, apply_ite State.cb, apply_ite CB.capture]
  · simp [roomAbort, apply_ite State.cb, apply_ite CB.pending]
  · simp [roomAbort, apply_ite State.cb, apply_ite CB.captureDue]
  · simp [roomAbort, apply_ite State.cb, apply_ite CB.live, apply_ite Bank.tenants]

@[simp] theorem roomAbort_frame_5 (s : State) :
    (roomAbort s).cb.live.timing = s.cb.live.timing ∧ (roomAbort s).cb.live.test = s.cb.live.test ∧
    (roomAbort s).cp.rate = s.cp.rate ∧ (roomAbort s).cp.receiver = s.cp.receiver ∧
    (roomAbort s).cp.buffer = s.cp.buffer ∧ (roomAbort s).cp.service = s.cp.service ∧
    (roomAbort s).cp.attention = s.cp.attention ∧ (roomAbort s).cp.resetDue = s.cp.resetDue := by
  refine ⟨?_, ?_, ?_, ?_, ?_, ?_, ?_, ?_⟩
  · simp [roomAbort, apply_ite State.cb, apply_ite CB.live, apply_ite Bank.timing]
  · simp [roomAbort, apply_ite State.cb, apply_ite CB.live, apply_ite Bank.test]
  · simp [roomAbort, apply_ite State.cp, apply_ite CP.rate]
  · simp [roomAbort, apply_ite State.cp, apply_ite CP.receiver]
  · simp [roomAbort, apply_ite State.cp, apply_ite CP.buffer]
  · simp [roomAbort, apply_ite State.cp, apply_ite CP.service]
  · simp [roomAbort, apply_ite State.cp, apply_ite CP.attention]
  · simp [roomAbort, apply_ite State.cp, apply_ite CP.resetDue]

theorem allocateOnce_eq (cause : AllocCause) (target : Nat) (s : State) :
    allocateOnce cause target s =
      if (candidateFor s cause (min target (ceiling s)) s.st.reqTest).worth then
        if (propose (candidateFor s cause (min target (ceiling s)) s.st.reqTest)
            (countLink .allocationsProposed
              ((if roomFails (allocInput s) (min target (ceiling s)) s.st.reqTest then roomAbort s else s).modCA
                fun ca => { ca with last := some (candidateFor s cause (min target (ceiling s)) s.st.reqTest),
                                    waiting := false }))).2
        then (propose (candidateFor s cause (min target (ceiling s)) s.st.reqTest)
            (countLink .allocationsProposed
              ((if roomFails (allocInput s) (min target (ceiling s)) s.st.reqTest then roomAbort s else s).modCA
                fun ca => { ca with last := some (candidateFor s cause (min target (ceiling s)) s.st.reqTest),
                                    waiting := false }))).1
        else (propose (candidateFor s cause (min target (ceiling s)) s.st.reqTest)
            (countLink .allocationsProposed
              ((if roomFails (allocInput s) (min target (ceiling s)) s.st.reqTest then roomAbort s else s).modCA
                fun ca => { ca with last := some (candidateFor s cause (min target (ceiling s)) s.st.reqTest),
                                    waiting := false }))).1.modCA fun ca => { ca with waiting := true }
      else
        countLink .allocationsRecorded
          ((if roomFails (allocInput s) (min target (ceiling s)) s.st.reqTest then roomAbort s else s).modCA
            fun ca => { ca with last := some (candidateFor s cause (min target (ceiling s)) s.st.reqTest),
                                waiting := false }) := by
  unfold allocateOnce
  dsimp only
  split
  · generalize propose _ _ = q
    rcases q with ⟨s', b⟩
    cases b <;> rfl
  · rfl

/-! `allocateOnce` -/

@[simp] theorem allocateOnce_frame (c : AllocCause) (n : Nat) (s : State) :
    (allocateOnce c n s).sf = s.sf ∧ (allocateOnce c n s).tm = s.tm ∧ (allocateOnce c n s).pending = s.pending ∧
    (allocateOnce c n s).mp.frame = s.mp.frame ∧ (allocateOnce c n s).mp.composed = s.mp.composed ∧
    (allocateOnce c n s).mp.rxTaken = s.mp.rxTaken ∧ (allocateOnce c n s).mp.tx = s.mp.tx ∧
    (allocateOnce c n s).mp.txBefore = s.mp.txBefore := by
  refine ⟨?_, ?_, ?_, ?_, ?_, ?_, ?_, ?_⟩ <;>
    (rw [allocateOnce_eq]; (repeat' split) <;> simp)

@[simp] theorem allocateOnce_frame_2 (c : AllocCause) (n : Nat) (s : State) :
    (allocateOnce c n s).mp.loopback = s.mp.loopback ∧ (allocateOnce c n s).ps.active = s.ps.active ∧
    (allocateOnce c n s).ps.fallback = s.ps.fallback ∧ (allocateOnce c n s).ps.previous = s.ps.previous ∧
    (allocateOnce c n s).ps.idleDue = s.ps.idleDue ∧ (allocateOnce c n s).mc.restart = s.mc.restart ∧
    (allocateOnce c n s).mc.inbox = s.mc.inbox ∧ (allocateOnce c n s).mc.flagCount = s.mc.flagCount := by
  refine ⟨?_, ?_, ?_, ?_, ?_, ?_, ?_, ?_⟩ <;>
    (rw [allocateOnce_eq]; (repeat' split) <;> simp)

@[simp] theorem allocateOnce_frame_3 (c : AllocCause) (n : Nat) (s : State) :
    (allocateOnce c n s).lc.role = s.lc.role ∧ (allocateOnce c n s).lc.identity = s.lc.identity ∧
    (allocateOnce c n s).lc.stop = s.lc.stop ∧ (allocateOnce c n s).lc.history = s.lc.history ∧
    (allocateOnce c n s).lc.hostMax = s.lc.hostMax ∧ (allocateOnce c n s).tn.free = s.tn.free ∧
    (allocateOnce c n s).ca.fixed = s.ca.fixed ∧ (allocateOnce c n s).ca.fixedCounts = s.ca.fixedCounts := by
  refine ⟨?_, ?_, ?_, ?_, ?_, ?_, ?_, ?_⟩ <;>
    (rw [allocateOnce_eq]; (repeat' split) <;> simp)

@[simp] theorem allocateOnce_frame_4 (c : AllocCause) (n : Nat) (s : State) :
    (allocateOnce c n s).st.errored = s.st.errored ∧ (allocateOnce c n s).st.bits = s.st.bits ∧
    (allocateOnce c n s).st.kind = s.st.kind ∧ (allocateOnce c n s).st.frames = s.st.frames ∧
    (allocateOnce c n s).st.test = s.st.test ∧ (allocateOnce c n s).cb.snapshot = s.cb.snapshot ∧
    (allocateOnce c n s).cb.valid = s.cb.valid ∧ (allocateOnce c n s).cb.capture = s.cb.capture := by
  refine ⟨?_, ?_, ?_, ?_, ?_, ?_, ?_, ?_⟩ <;>
    (rw [allocateOnce_eq]; (repeat' split) <;> simp)

@[simp] theorem allocateOnce_frame_5 (c : AllocCause) (n : Nat) (s : State) :
    (allocateOnce c n s).cb.pending = s.cb.pending ∧ (allocateOnce c n s).cb.captureDue = s.cb.captureDue ∧
    (allocateOnce c n s).cb.live.tenants = s.cb.live.tenants ∧
    (allocateOnce c n s).cb.live.timing = s.cb.live.timing ∧ (allocateOnce c n s).cb.live.test = s.cb.live.test ∧
    (allocateOnce c n s).cp.rate = s.cp.rate ∧ (allocateOnce c n s).cp.receiver = s.cp.receiver ∧
    (allocateOnce c n s).cp.buffer = s.cp.buffer := by
  refine ⟨?_, ?_, ?_, ?_, ?_, ?_, ?_, ?_⟩ <;>
    (rw [allocateOnce_eq]; (repeat' split) <;> simp)

@[simp] theorem allocateOnce_frame_6 (c : AllocCause) (n : Nat) (s : State) :
    (allocateOnce c n s).cp.service = s.cp.service ∧ (allocateOnce c n s).cp.attention = s.cp.attention ∧
    (allocateOnce c n s).cp.resetDue = s.cp.resetDue := by
  refine ⟨?_, ?_, ?_⟩ <;>
    (rw [allocateOnce_eq]; (repeat' split) <;> simp)

/-! `deferTrigger` -/

@[simp] theorem deferTrigger_frame (s : State) :
    (deferTrigger s).mp = s.mp ∧ (deferTrigger s).sf = s.sf ∧ (deferTrigger s).ps = s.ps ∧
    (deferTrigger s).mc = s.mc ∧ (deferTrigger s).lc = s.lc ∧ (deferTrigger s).tn = s.tn ∧
    (deferTrigger s).tm = s.tm ∧ (deferTrigger s).st = s.st ∧ (deferTrigger s).cp = s.cp ∧
    (deferTrigger s).pending = s.pending ∧ (deferTrigger s).ca.fixed = s.ca.fixed ∧
    (deferTrigger s).ca.fixedCounts = s.ca.fixedCounts ∧ (deferTrigger s).cb.snapshot = s.cb.snapshot ∧
    (deferTrigger s).cb.valid = s.cb.valid ∧ (deferTrigger s).cb.capture = s.cb.capture ∧
    (deferTrigger s).cb.pending = s.cb.pending ∧ (deferTrigger s).cb.captureDue = s.cb.captureDue ∧
    (deferTrigger s).cb.live.tenants = s.cb.live.tenants ∧ (deferTrigger s).cb.live.timing = s.cb.live.timing ∧
    (deferTrigger s).cb.live.test = s.cb.live.test :=
  ⟨rfl, rfl, rfl, rfl, rfl, rfl, rfl, rfl, rfl, rfl, rfl, rfl, rfl, rfl, rfl, rfl, rfl, rfl, rfl, rfl⟩

/-! `allocate` -/

@[simp] theorem allocate_frame (c : AllocCause) (n : Nat) (s : State) :
    (allocate c n s).sf = s.sf ∧ (allocate c n s).tm = s.tm ∧ (allocate c n s).pending = s.pending ∧
    (allocate c n s).mp.frame = s.mp.frame ∧ (allocate c n s).mp.composed = s.mp.composed ∧
    (allocate c n s).mp.rxTaken = s.mp.rxTaken ∧ (allocate c n s).mp.tx = s.mp.tx ∧
    (allocate c n s).mp.txBefore = s.mp.txBefore := by
  refine ⟨?_, ?_, ?_, ?_, ?_, ?_, ?_, ?_⟩
  · simp [allocate, apply_ite State.sf]
  · simp [allocate, apply_ite State.tm]
  · simp [allocate, apply_ite State.pending]
  · simp [allocate, apply_ite State.mp, apply_ite MP.frame]
  · simp [allocate, apply_ite State.mp, apply_ite MP.composed]
  · simp [allocate, apply_ite State.mp, apply_ite MP.rxTaken]
  · simp [allocate, apply_ite State.mp, apply_ite MP.tx]
  · simp [allocate, apply_ite State.mp, apply_ite MP.txBefore]

@[simp] theorem allocate_frame_2 (c : AllocCause) (n : Nat) (s : State) :
    (allocate c n s).mp.loopback = s.mp.loopback ∧ (allocate c n s).ps.active = s.ps.active ∧
    (allocate c n s).ps.fallback = s.ps.fallback ∧ (allocate c n s).ps.previous = s.ps.previous ∧
    (allocate c n s).ps.idleDue = s.ps.idleDue ∧ (allocate c n s).mc.restart = s.mc.restart ∧
    (allocate c n s).mc.inbox = s.mc.inbox ∧ (allocate c n s).mc.flagCount = s.mc.flagCount := by
  refine ⟨?_, ?_, ?_, ?_, ?_, ?_, ?_, ?_⟩
  · simp [allocate, apply_ite State.mp, apply_ite MP.loopback]
  · simp [allocate, apply_ite State.ps, apply_ite PS.active]
  · simp [allocate, apply_ite State.ps, apply_ite PS.fallback]
  · simp [allocate, apply_ite State.ps, apply_ite PS.previous]
  · simp [allocate, apply_ite State.ps, apply_ite PS.idleDue]
  · simp [allocate, apply_ite State.mc, apply_ite MC.restart]
  · simp [allocate, apply_ite State.mc, apply_ite MC.inbox]
  · simp [allocate, apply_ite State.mc, apply_ite MC.flagCount]

@[simp] theorem allocate_frame_3 (c : AllocCause) (n : Nat) (s : State) :
    (allocate c n s).lc.role = s.lc.role ∧ (allocate c n s).lc.identity = s.lc.identity ∧
    (allocate c n s).lc.stop = s.lc.stop ∧ (allocate c n s).lc.history = s.lc.history ∧
    (allocate c n s).lc.hostMax = s.lc.hostMax ∧ (allocate c n s).tn.free = s.tn.free ∧
    (allocate c n s).ca.fixed = s.ca.fixed ∧ (allocate c n s).ca.fixedCounts = s.ca.fixedCounts := by
  refine ⟨?_, ?_, ?_, ?_, ?_, ?_, ?_, ?_⟩
  · simp [allocate, apply_ite State.lc, apply_ite LC.role]
  · simp [allocate, apply_ite State.lc, apply_ite LC.identity]
  · simp [allocate, apply_ite State.lc, apply_ite LC.stop]
  · simp [allocate, apply_ite State.lc, apply_ite LC.history]
  · simp [allocate, apply_ite State.lc, apply_ite LC.hostMax]
  · simp [allocate, apply_ite State.tn, apply_ite TN.free]
  · simp [allocate, apply_ite State.ca, apply_ite CA.fixed]
  · simp [allocate, apply_ite State.ca, apply_ite CA.fixedCounts]

@[simp] theorem allocate_frame_4 (c : AllocCause) (n : Nat) (s : State) :
    (allocate c n s).st.errored = s.st.errored ∧ (allocate c n s).st.bits = s.st.bits ∧
    (allocate c n s).st.kind = s.st.kind ∧ (allocate c n s).st.frames = s.st.frames ∧
    (allocate c n s).st.test = s.st.test ∧ (allocate c n s).cb.snapshot = s.cb.snapshot ∧
    (allocate c n s).cb.valid = s.cb.valid ∧ (allocate c n s).cb.capture = s.cb.capture := by
  refine ⟨?_, ?_, ?_, ?_, ?_, ?_, ?_, ?_⟩
  · simp [allocate, apply_ite State.st, apply_ite ST.errored]
  · simp [allocate, apply_ite State.st, apply_ite ST.bits]
  · simp [allocate, apply_ite State.st, apply_ite ST.kind]
  · simp [allocate, apply_ite State.st, apply_ite ST.frames]
  · simp [allocate, apply_ite State.st, apply_ite ST.test]
  · simp [allocate, apply_ite State.cb, apply_ite CB.snapshot]
  · simp [allocate, apply_ite State.cb, apply_ite CB.valid]
  · simp [allocate, apply_ite State.cb, apply_ite CB.capture]

@[simp] theorem allocate_frame_5 (c : AllocCause) (n : Nat) (s : State) :
    (allocate c n s).cb.pending = s.cb.pending ∧ (allocate c n s).cb.captureDue = s.cb.captureDue ∧
    (allocate c n s).cb.live.tenants = s.cb.live.tenants ∧ (allocate c n s).cb.live.timing = s.cb.live.timing ∧
    (allocate c n s).cb.live.test = s.cb.live.test ∧ (allocate c n s).cp.rate = s.cp.rate ∧
    (allocate c n s).cp.receiver = s.cp.receiver ∧ (allocate c n s).cp.buffer = s.cp.buffer := by
  refine ⟨?_, ?_, ?_, ?_, ?_, ?_, ?_, ?_⟩
  · simp [allocate, apply_ite State.cb, apply_ite CB.pending]
  · simp [allocate, apply_ite State.cb, apply_ite CB.captureDue]
  · simp [allocate, apply_ite State.cb, apply_ite CB.live, apply_ite Bank.tenants]
  · simp [allocate, apply_ite State.cb, apply_ite CB.live, apply_ite Bank.timing]
  · simp [allocate, apply_ite State.cb, apply_ite CB.live, apply_ite Bank.test]
  · simp [allocate, apply_ite State.cp, apply_ite CP.rate]
  · simp [allocate, apply_ite State.cp, apply_ite CP.receiver]
  · simp [allocate, apply_ite State.cp, apply_ite CP.buffer]

@[simp] theorem allocate_frame_6 (c : AllocCause) (n : Nat) (s : State) :
    (allocate c n s).cp.service = s.cp.service ∧ (allocate c n s).cp.attention = s.cp.attention ∧
    (allocate c n s).cp.resetDue = s.cp.resetDue := by
  refine ⟨?_, ?_, ?_⟩
  · simp [allocate, apply_ite State.cp, apply_ite CP.service]
  · simp [allocate, apply_ite State.cp, apply_ite CP.attention]
  · simp [allocate, apply_ite State.cp, apply_ite CP.resetDue]

/-! `trigger` -/

@[simp] theorem trigger_frame (c : AllocCause) (s : State) :
    (trigger c s).sf = s.sf ∧ (trigger c s).tm = s.tm ∧ (trigger c s).pending = s.pending ∧
    (trigger c s).mp.frame = s.mp.frame ∧ (trigger c s).mp.composed = s.mp.composed ∧
    (trigger c s).mp.rxTaken = s.mp.rxTaken ∧ (trigger c s).mp.tx = s.mp.tx ∧
    (trigger c s).mp.txBefore = s.mp.txBefore := by
  refine ⟨?_, ?_, ?_, ?_, ?_, ?_, ?_, ?_⟩ <;>
    (unfold trigger; (repeat' split) <;> simp)

@[simp] theorem trigger_frame_2 (c : AllocCause) (s : State) :
    (trigger c s).mp.loopback = s.mp.loopback ∧ (trigger c s).ps.active = s.ps.active ∧
    (trigger c s).ps.fallback = s.ps.fallback ∧ (trigger c s).ps.previous = s.ps.previous ∧
    (trigger c s).ps.idleDue = s.ps.idleDue ∧ (trigger c s).mc.restart = s.mc.restart ∧
    (trigger c s).mc.inbox = s.mc.inbox ∧ (trigger c s).mc.flagCount = s.mc.flagCount := by
  refine ⟨?_, ?_, ?_, ?_, ?_, ?_, ?_, ?_⟩ <;>
    (unfold trigger; (repeat' split) <;> simp)

@[simp] theorem trigger_frame_3 (c : AllocCause) (s : State) :
    (trigger c s).lc.role = s.lc.role ∧ (trigger c s).lc.identity = s.lc.identity ∧
    (trigger c s).lc.stop = s.lc.stop ∧ (trigger c s).lc.history = s.lc.history ∧
    (trigger c s).lc.hostMax = s.lc.hostMax ∧ (trigger c s).tn.free = s.tn.free ∧
    (trigger c s).ca.fixed = s.ca.fixed ∧ (trigger c s).ca.fixedCounts = s.ca.fixedCounts := by
  refine ⟨?_, ?_, ?_, ?_, ?_, ?_, ?_, ?_⟩ <;>
    (unfold trigger; (repeat' split) <;> simp)

@[simp] theorem trigger_frame_4 (c : AllocCause) (s : State) :
    (trigger c s).st.errored = s.st.errored ∧ (trigger c s).st.bits = s.st.bits ∧ (trigger c s).st.kind = s.st.kind ∧
    (trigger c s).st.frames = s.st.frames ∧ (trigger c s).st.test = s.st.test ∧
    (trigger c s).cb.snapshot = s.cb.snapshot ∧ (trigger c s).cb.valid = s.cb.valid ∧
    (trigger c s).cb.capture = s.cb.capture := by
  refine ⟨?_, ?_, ?_, ?_, ?_, ?_, ?_, ?_⟩ <;>
    (unfold trigger; (repeat' split) <;> simp)

@[simp] theorem trigger_frame_5 (c : AllocCause) (s : State) :
    (trigger c s).cb.pending = s.cb.pending ∧ (trigger c s).cb.captureDue = s.cb.captureDue ∧
    (trigger c s).cb.live.tenants = s.cb.live.tenants ∧ (trigger c s).cb.live.timing = s.cb.live.timing ∧
    (trigger c s).cb.live.test = s.cb.live.test ∧ (trigger c s).cp.rate = s.cp.rate ∧
    (trigger c s).cp.receiver = s.cp.receiver ∧ (trigger c s).cp.buffer = s.cp.buffer := by
  refine ⟨?_, ?_, ?_, ?_, ?_, ?_, ?_, ?_⟩ <;>
    (unfold trigger; (repeat' split) <;> simp)

@[simp] theorem trigger_frame_6 (c : AllocCause) (s : State) :
    (trigger c s).cp.service = s.cp.service ∧ (trigger c s).cp.attention = s.cp.attention ∧
    (trigger c s).cp.resetDue = s.cp.resetDue := by
  refine ⟨?_, ?_, ?_⟩ <;>
    (unfold trigger; (repeat' split) <;> simp)

/-! `serveWaiting` -/

@[simp] theorem serveWaiting_frame (s : State) :
    (serveWaiting s).sf = s.sf ∧ (serveWaiting s).tm = s.tm ∧ (serveWaiting s).pending = s.pending ∧
    (serveWaiting s).mp.frame = s.mp.frame ∧ (serveWaiting s).mp.composed = s.mp.composed ∧
    (serveWaiting s).mp.rxTaken = s.mp.rxTaken ∧ (serveWaiting s).mp.tx = s.mp.tx ∧
    (serveWaiting s).mp.txBefore = s.mp.txBefore := by
  refine ⟨?_, ?_, ?_, ?_, ?_, ?_, ?_, ?_⟩
  · simp [serveWaiting, apply_ite State.sf]
  · simp [serveWaiting, apply_ite State.tm]
  · simp [serveWaiting, apply_ite State.pending]
  · simp [serveWaiting, apply_ite State.mp, apply_ite MP.frame]
  · simp [serveWaiting, apply_ite State.mp, apply_ite MP.composed]
  · simp [serveWaiting, apply_ite State.mp, apply_ite MP.rxTaken]
  · simp [serveWaiting, apply_ite State.mp, apply_ite MP.tx]
  · simp [serveWaiting, apply_ite State.mp, apply_ite MP.txBefore]

@[simp] theorem serveWaiting_frame_2 (s : State) :
    (serveWaiting s).mp.loopback = s.mp.loopback ∧ (serveWaiting s).ps.active = s.ps.active ∧
    (serveWaiting s).ps.fallback = s.ps.fallback ∧ (serveWaiting s).ps.previous = s.ps.previous ∧
    (serveWaiting s).ps.idleDue = s.ps.idleDue ∧ (serveWaiting s).mc.restart = s.mc.restart ∧
    (serveWaiting s).mc.inbox = s.mc.inbox ∧ (serveWaiting s).mc.flagCount = s.mc.flagCount := by
  refine ⟨?_, ?_, ?_, ?_, ?_, ?_, ?_, ?_⟩
  · simp [serveWaiting, apply_ite State.mp, apply_ite MP.loopback]
  · simp [serveWaiting, apply_ite State.ps, apply_ite PS.active]
  · simp [serveWaiting, apply_ite State.ps, apply_ite PS.fallback]
  · simp [serveWaiting, apply_ite State.ps, apply_ite PS.previous]
  · simp [serveWaiting, apply_ite State.ps, apply_ite PS.idleDue]
  · simp [serveWaiting, apply_ite State.mc, apply_ite MC.restart]
  · simp [serveWaiting, apply_ite State.mc, apply_ite MC.inbox]
  · simp [serveWaiting, apply_ite State.mc, apply_ite MC.flagCount]

@[simp] theorem serveWaiting_frame_3 (s : State) :
    (serveWaiting s).lc.role = s.lc.role ∧ (serveWaiting s).lc.identity = s.lc.identity ∧
    (serveWaiting s).lc.stop = s.lc.stop ∧ (serveWaiting s).lc.history = s.lc.history ∧
    (serveWaiting s).lc.hostMax = s.lc.hostMax ∧ (serveWaiting s).tn.free = s.tn.free ∧
    (serveWaiting s).ca.fixed = s.ca.fixed ∧ (serveWaiting s).ca.fixedCounts = s.ca.fixedCounts := by
  refine ⟨?_, ?_, ?_, ?_, ?_, ?_, ?_, ?_⟩
  · simp [serveWaiting, apply_ite State.lc, apply_ite LC.role]
  · simp [serveWaiting, apply_ite State.lc, apply_ite LC.identity]
  · simp [serveWaiting, apply_ite State.lc, apply_ite LC.stop]
  · simp [serveWaiting, apply_ite State.lc, apply_ite LC.history]
  · simp [serveWaiting, apply_ite State.lc, apply_ite LC.hostMax]
  · simp [serveWaiting, apply_ite State.tn, apply_ite TN.free]
  · simp [serveWaiting, apply_ite State.ca, apply_ite CA.fixed]
  · simp [serveWaiting, apply_ite State.ca, apply_ite CA.fixedCounts]

@[simp] theorem serveWaiting_frame_4 (s : State) :
    (serveWaiting s).st.errored = s.st.errored ∧ (serveWaiting s).st.bits = s.st.bits ∧
    (serveWaiting s).st.kind = s.st.kind ∧ (serveWaiting s).st.frames = s.st.frames ∧
    (serveWaiting s).st.test = s.st.test ∧ (serveWaiting s).cb.snapshot = s.cb.snapshot ∧
    (serveWaiting s).cb.valid = s.cb.valid ∧ (serveWaiting s).cb.capture = s.cb.capture := by
  refine ⟨?_, ?_, ?_, ?_, ?_, ?_, ?_, ?_⟩
  · simp [serveWaiting, apply_ite State.st, apply_ite ST.errored]
  · simp [serveWaiting, apply_ite State.st, apply_ite ST.bits]
  · simp [serveWaiting, apply_ite State.st, apply_ite ST.kind]
  · simp [serveWaiting, apply_ite State.st, apply_ite ST.frames]
  · simp [serveWaiting, apply_ite State.st, apply_ite ST.test]
  · simp [serveWaiting, apply_ite State.cb, apply_ite CB.snapshot]
  · simp [serveWaiting, apply_ite State.cb, apply_ite CB.valid]
  · simp [serveWaiting, apply_ite State.cb, apply_ite CB.capture]

@[simp] theorem serveWaiting_frame_5 (s : State) :
    (serveWaiting s).cb.pending = s.cb.pending ∧ (serveWaiting s).cb.captureDue = s.cb.captureDue ∧
    (serveWaiting s).cb.live.tenants = s.cb.live.tenants ∧ (serveWaiting s).cb.live.timing = s.cb.live.timing ∧
    (serveWaiting s).cb.live.test = s.cb.live.test ∧ (serveWaiting s).cp.rate = s.cp.rate ∧
    (serveWaiting s).cp.receiver = s.cp.receiver ∧ (serveWaiting s).cp.buffer = s.cp.buffer := by
  refine ⟨?_, ?_, ?_, ?_, ?_, ?_, ?_, ?_⟩
  · simp [serveWaiting, apply_ite State.cb, apply_ite CB.pending]
  · simp [serveWaiting, apply_ite State.cb, apply_ite CB.captureDue]
  · simp [serveWaiting, apply_ite State.cb, apply_ite CB.live, apply_ite Bank.tenants]
  · simp [serveWaiting, apply_ite State.cb, apply_ite CB.live, apply_ite Bank.timing]
  · simp [serveWaiting, apply_ite State.cb, apply_ite CB.live, apply_ite Bank.test]
  · simp [serveWaiting, apply_ite State.cp, apply_ite CP.rate]
  · simp [serveWaiting, apply_ite State.cp, apply_ite CP.receiver]
  · simp [serveWaiting, apply_ite State.cp, apply_ite CP.buffer]

@[simp] theorem serveWaiting_frame_6 (s : State) :
    (serveWaiting s).cp.service = s.cp.service ∧ (serveWaiting s).cp.attention = s.cp.attention ∧
    (serveWaiting s).cp.resetDue = s.cp.resetDue := by
  refine ⟨?_, ?_, ?_⟩
  · simp [serveWaiting, apply_ite State.cp, apply_ite CP.service]
  · simp [serveWaiting, apply_ite State.cp, apply_ite CP.attention]
  · simp [serveWaiting, apply_ite State.cp, apply_ite CP.resetDue]

theorem withTestTrigger_of {α : Type} (g : State → α) (f : State → State) (s : State)
    (ht : ∀ s, g (trigger .test s) = g s) : g (withTestTrigger f s) = g (f s) := by
  unfold withTestTrigger
  dsimp only
  split
  · exact ht _
  · rfl

/-! `withTestTrigger` -/

@[simp] theorem withTestTrigger_frame (f : State → State) (s : State) :
    (withTestTrigger f s).sf = (f s).sf ∧ (withTestTrigger f s).tm = (f s).tm ∧
    (withTestTrigger f s).pending = (f s).pending ∧ (withTestTrigger f s).mp.frame = (f s).mp.frame ∧
    (withTestTrigger f s).mp.composed = (f s).mp.composed ∧ (withTestTrigger f s).mp.rxTaken = (f s).mp.rxTaken ∧
    (withTestTrigger f s).mp.tx = (f s).mp.tx ∧ (withTestTrigger f s).mp.txBefore = (f s).mp.txBefore := by
  refine ⟨?_, ?_, ?_, ?_, ?_, ?_, ?_, ?_⟩
  · exact withTestTrigger_of (fun x => x.sf) f s (fun s => by simp)
  · exact withTestTrigger_of (fun x => x.tm) f s (fun s => by simp)
  · exact withTestTrigger_of (fun x => x.pending) f s (fun s => by simp)
  · exact withTestTrigger_of (fun x => x.mp.frame) f s (fun s => by simp)
  · exact withTestTrigger_of (fun x => x.mp.composed) f s (fun s => by simp)
  · exact withTestTrigger_of (fun x => x.mp.rxTaken) f s (fun s => by simp)
  · exact withTestTrigger_of (fun x => x.mp.tx) f s (fun s => by simp)
  · exact withTestTrigger_of (fun x => x.mp.txBefore) f s (fun s => by simp)

@[simp] theorem withTestTrigger_frame_2 (f : State → State) (s : State) :
    (withTestTrigger f s).mp.loopback = (f s).mp.loopback ∧ (withTestTrigger f s).ps.active = (f s).ps.active ∧
    (withTestTrigger f s).ps.fallback = (f s).ps.fallback ∧ (withTestTrigger f s).ps.previous = (f s).ps.previous ∧
    (withTestTrigger f s).ps.idleDue = (f s).ps.idleDue ∧ (withTestTrigger f s).mc.restart = (f s).mc.restart ∧
    (withTestTrigger f s).mc.inbox = (f s).mc.inbox ∧ (withTestTrigger f s).mc.flagCount = (f s).mc.flagCount := by
  refine ⟨?_, ?_, ?_, ?_, ?_, ?_, ?_, ?_⟩
  · exact withTestTrigger_of (fun x => x.mp.loopback) f s (fun s => by simp)
  · exact withTestTrigger_of (fun x => x.ps.active) f s (fun s => by simp)
  · exact withTestTrigger_of (fun x => x.ps.fallback) f s (fun s => by simp)
  · exact withTestTrigger_of (fun x => x.ps.previous) f s (fun s => by simp)
  · exact withTestTrigger_of (fun x => x.ps.idleDue) f s (fun s => by simp)
  · exact withTestTrigger_of (fun x => x.mc.restart) f s (fun s => by simp)
  · exact withTestTrigger_of (fun x => x.mc.inbox) f s (fun s => by simp)
  · exact withTestTrigger_of (fun x => x.mc.flagCount) f s (fun s => by simp)

@[simp] theorem withTestTrigger_frame_3 (f : State → State) (s : State) :
    (withTestTrigger f s).lc.role = (f s).lc.role ∧ (withTestTrigger f s).lc.identity = (f s).lc.identity ∧
    (withTestTrigger f s).lc.stop = (f s).lc.stop ∧ (withTestTrigger f s).lc.history = (f s).lc.history ∧
    (withTestTrigger f s).lc.hostMax = (f s).lc.hostMax ∧ (withTestTrigger f s).tn.free = (f s).tn.free ∧
    (withTestTrigger f s).ca.fixed = (f s).ca.fixed ∧ (withTestTrigger f s).ca.fixedCounts = (f s).ca.fixedCounts := by
  refine ⟨?_, ?_, ?_, ?_, ?_, ?_, ?_, ?_⟩
  · exact withTestTrigger_of (fun x => x.lc.role) f s (fun s => by simp)
  · exact withTestTrigger_of (fun x => x.lc.identity) f s (fun s => by simp)
  · exact withTestTrigger_of (fun x => x.lc.stop) f s (fun s => by simp)
  · exact withTestTrigger_of (fun x => x.lc.history) f s (fun s => by simp)
  · exact withTestTrigger_of (fun x => x.lc.hostMax) f s (fun s => by simp)
  · exact withTestTrigger_of (fun x => x.tn.free) f s (fun s => by simp)
  · exact withTestTrigger_of (fun x => x.ca.fixed) f s (fun s => by simp)
  · exact withTestTrigger_of (fun x => x.ca.fixedCounts) f s (fun s => by simp)

@[simp] theorem withTestTrigger_frame_4 (f : State → State) (s : State) :
    (withTestTrigger f s).st.errored = (f s).st.errored ∧ (withTestTrigger f s).st.bits = (f s).st.bits ∧
    (withTestTrigger f s).st.kind = (f s).st.kind ∧ (withTestTrigger f s).st.frames = (f s).st.frames ∧
    (withTestTrigger f s).st.test = (f s).st.test ∧ (withTestTrigger f s).cb.snapshot = (f s).cb.snapshot ∧
    (withTestTrigger f s).cb.valid = (f s).cb.valid ∧ (withTestTrigger f s).cb.capture = (f s).cb.capture := by
  refine ⟨?_, ?_, ?_, ?_, ?_, ?_, ?_, ?_⟩
  · exact withTestTrigger_of (fun x => x.st.errored) f s (fun s => by simp)
  · exact withTestTrigger_of (fun x => x.st.bits) f s (fun s => by simp)
  · exact withTestTrigger_of (fun x => x.st.kind) f s (fun s => by simp)
  · exact withTestTrigger_of (fun x => x.st.frames) f s (fun s => by simp)
  · exact withTestTrigger_of (fun x => x.st.test) f s (fun s => by simp)
  · exact withTestTrigger_of (fun x => x.cb.snapshot) f s (fun s => by simp)
  · exact withTestTrigger_of (fun x => x.cb.valid) f s (fun s => by simp)
  · exact withTestTrigger_of (fun x => x.cb.capture) f s (fun s => by simp)

@[simp] theorem withTestTrigger_frame_5 (f : State → State) (s : State) :
    (withTestTrigger f s).cb.pending = (f s).cb.pending ∧ (withTestTrigger f s).cb.captureDue = (f s).cb.captureDue ∧
    (withTestTrigger f s).cb.live.tenants = (f s).cb.live.tenants ∧
    (withTestTrigger f s).cb.live.timing = (f s).cb.live.timing ∧
    (withTestTrigger f s).cb.live.test = (f s).cb.live.test ∧ (withTestTrigger f s).cp.rate = (f s).cp.rate ∧
    (withTestTrigger f s).cp.receiver = (f s).cp.receiver ∧ (withTestTrigger f s).cp.buffer = (f s).cp.buffer := by
  refine ⟨?_, ?_, ?_, ?_, ?_, ?_, ?_, ?_⟩
  · exact withTestTrigger_of (fun x => x.cb.pending) f s (fun s => by simp)
  · exact withTestTrigger_of (fun x => x.cb.captureDue) f s (fun s => by simp)
  · exact withTestTrigger_of (fun x => x.cb.live.tenants) f s (fun s => by simp)
  · exact withTestTrigger_of (fun x => x.cb.live.timing) f s (fun s => by simp)
  · exact withTestTrigger_of (fun x => x.cb.live.test) f s (fun s => by simp)
  · exact withTestTrigger_of (fun x => x.cp.rate) f s (fun s => by simp)
  · exact withTestTrigger_of (fun x => x.cp.receiver) f s (fun s => by simp)
  · exact withTestTrigger_of (fun x => x.cp.buffer) f s (fun s => by simp)

@[simp] theorem withTestTrigger_frame_6 (f : State → State) (s : State) :
    (withTestTrigger f s).cp.service = (f s).cp.service ∧ (withTestTrigger f s).cp.attention = (f s).cp.attention ∧
    (withTestTrigger f s).cp.resetDue = (f s).cp.resetDue := by
  refine ⟨?_, ?_, ?_⟩
  · exact withTestTrigger_of (fun x => x.cp.service) f s (fun s => by simp)
  · exact withTestTrigger_of (fun x => x.cp.attention) f s (fun s => by simp)
  · exact withTestTrigger_of (fun x => x.cp.resetDue) f s (fun s => by simp)

/-! `discardPending` -/

@[simp] theorem discardPending_frame (s : State) :
    (discardPending s).sf = s.sf ∧ (discardPending s).tm = s.tm ∧ (discardPending s).pending = s.pending ∧
    (discardPending s).mp.frame = s.mp.frame ∧ (discardPending s).mp.composed = s.mp.composed ∧
    (discardPending s).mp.rxTaken = s.mp.rxTaken ∧ (discardPending s).mp.tx = s.mp.tx ∧
    (discardPending s).mp.txBefore = s.mp.txBefore := by
  refine ⟨?_, ?_, ?_, ?_, ?_, ?_, ?_, ?_⟩
  · simp [discardPending, apply_ite State.sf]
  · simp [discardPending, apply_ite State.tm]
  · simp [discardPending, apply_ite State.pending]
  · simp [discardPending, apply_ite State.mp, apply_ite MP.frame]
  · simp [discardPending, apply_ite State.mp, apply_ite MP.composed]
  · simp [discardPending, apply_ite State.mp, apply_ite MP.rxTaken]
  · simp [discardPending, apply_ite State.mp, apply_ite MP.tx]
  · simp [discardPending, apply_ite State.mp, apply_ite MP.txBefore]

@[simp] theorem discardPending_frame_2 (s : State) :
    (discardPending s).mp.loopback = s.mp.loopback ∧ (discardPending s).ps.active = s.ps.active ∧
    (discardPending s).ps.fallback = s.ps.fallback ∧ (discardPending s).ps.previous = s.ps.previous ∧
    (discardPending s).ps.idleDue = s.ps.idleDue ∧ (discardPending s).mc.restart = s.mc.restart ∧
    (discardPending s).mc.inbox = s.mc.inbox ∧ (discardPending s).mc.flagCount = s.mc.flagCount := by
  refine ⟨?_, ?_, ?_, ?_, ?_, ?_, ?_, ?_⟩
  · simp [discardPending, apply_ite State.mp, apply_ite MP.loopback]
  · simp [discardPending, apply_ite State.ps, apply_ite PS.active]
  · simp [discardPending, apply_ite State.ps, apply_ite PS.fallback]
  · simp [discardPending, apply_ite State.ps, apply_ite PS.previous]
  · simp [discardPending, apply_ite State.ps, apply_ite PS.idleDue]
  · simp [discardPending, apply_ite State.mc, apply_ite MC.restart]
  · simp [discardPending, apply_ite State.mc, apply_ite MC.inbox]
  · simp [discardPending, apply_ite State.mc, apply_ite MC.flagCount]

@[simp] theorem discardPending_frame_3 (s : State) :
    (discardPending s).lc.role = s.lc.role ∧ (discardPending s).lc.identity = s.lc.identity ∧
    (discardPending s).lc.stop = s.lc.stop ∧ (discardPending s).lc.history = s.lc.history ∧
    (discardPending s).lc.hostMax = s.lc.hostMax ∧ (discardPending s).tn.free = s.tn.free ∧
    (discardPending s).ca.fixed = s.ca.fixed ∧ (discardPending s).ca.fixedCounts = s.ca.fixedCounts := by
  refine ⟨?_, ?_, ?_, ?_, ?_, ?_, ?_, ?_⟩
  · simp [discardPending, apply_ite State.lc, apply_ite LC.role]
  · simp [discardPending, apply_ite State.lc, apply_ite LC.identity]
  · simp [discardPending, apply_ite State.lc, apply_ite LC.stop]
  · simp [discardPending, apply_ite State.lc, apply_ite LC.history]
  · simp [discardPending, apply_ite State.lc, apply_ite LC.hostMax]
  · simp [discardPending, apply_ite State.tn, apply_ite TN.free]
  · simp [discardPending, apply_ite State.ca, apply_ite CA.fixed]
  · simp [discardPending, apply_ite State.ca, apply_ite CA.fixedCounts]

@[simp] theorem discardPending_frame_4 (s : State) :
    (discardPending s).st.errored = s.st.errored ∧ (discardPending s).st.bits = s.st.bits ∧
    (discardPending s).st.kind = s.st.kind ∧ (discardPending s).st.frames = s.st.frames ∧
    (discardPending s).st.test = s.st.test ∧ (discardPending s).cb.snapshot = s.cb.snapshot ∧
    (discardPending s).cb.valid = s.cb.valid ∧ (discardPending s).cb.capture = s.cb.capture := by
  refine ⟨?_, ?_, ?_, ?_, ?_, ?_, ?_, ?_⟩
  · simp [discardPending, apply_ite State.st, apply_ite ST.errored]
  · simp [discardPending, apply_ite State.st, apply_ite ST.bits]
  · simp [discardPending, apply_ite State.st, apply_ite ST.kind]
  · simp [discardPending, apply_ite State.st, apply_ite ST.frames]
  · simp [discardPending, apply_ite State.st, apply_ite ST.test]
  · simp [discardPending, apply_ite State.cb, apply_ite CB.snapshot]
  · simp [discardPending, apply_ite State.cb, apply_ite CB.valid]
  · simp [discardPending, apply_ite State.cb, apply_ite CB.capture]

@[simp] theorem discardPending_frame_5 (s : State) :
    (discardPending s).cb.pending = s.cb.pending ∧ (discardPending s).cb.captureDue = s.cb.captureDue ∧
    (discardPending s).cb.live.tenants = s.cb.live.tenants ∧ (discardPending s).cb.live.timing = s.cb.live.timing ∧
    (discardPending s).cb.live.test = s.cb.live.test ∧ (discardPending s).cp.rate = s.cp.rate ∧
    (discardPending s).cp.receiver = s.cp.receiver ∧ (discardPending s).cp.buffer = s.cp.buffer := by
  refine ⟨?_, ?_, ?_, ?_, ?_, ?_, ?_, ?_⟩
  · simp [discardPending, apply_ite State.cb, apply_ite CB.pending]
  · simp [discardPending, apply_ite State.cb, apply_ite CB.captureDue]
  · simp [discardPending, apply_ite State.cb, apply_ite CB.live, apply_ite Bank.tenants]
  · simp [discardPending, apply_ite State.cb, apply_ite CB.live, apply_ite Bank.timing]
  · simp [discardPending, apply_ite State.cb, apply_ite CB.live, apply_ite Bank.test]
  · simp [discardPending, apply_ite State.cp, apply_ite CP.rate]
  · simp [discardPending, apply_ite State.cp, apply_ite CP.receiver]
  · simp [discardPending, apply_ite State.cp, apply_ite CP.buffer]

@[simp] theorem discardPending_frame_6 (s : State) :
    (discardPending s).cp.service = s.cp.service ∧ (discardPending s).cp.attention = s.cp.attention ∧
    (discardPending s).cp.resetDue = s.cp.resetDue := by
  refine ⟨?_, ?_, ?_⟩
  · simp [discardPending, apply_ite State.cp, apply_ite CP.service]
  · simp [discardPending, apply_ite State.cp, apply_ite CP.attention]
  · simp [discardPending, apply_ite State.cp, apply_ite CP.resetDue]

/-! `triggerIf` -/

@[simp] theorem triggerIf_frame (c : AllocCause) (b : Bool) (s : State) :
    (triggerIf c b s).sf = s.sf ∧ (triggerIf c b s).tm = s.tm ∧ (triggerIf c b s).pending = s.pending ∧
    (triggerIf c b s).mp.frame = s.mp.frame ∧ (triggerIf c b s).mp.composed = s.mp.composed ∧
    (triggerIf c b s).mp.rxTaken = s.mp.rxTaken ∧ (triggerIf c b s).mp.tx = s.mp.tx ∧
    (triggerIf c b s).mp.txBefore = s.mp.txBefore := by
  refine ⟨?_, ?_, ?_, ?_, ?_, ?_, ?_, ?_⟩
  · simp [triggerIf, apply_ite State.sf]
  · simp [triggerIf, apply_ite State.tm]
  · simp [triggerIf, apply_ite State.pending]
  · simp [triggerIf, apply_ite State.mp, apply_ite MP.frame]
  · simp [triggerIf, apply_ite State.mp, apply_ite MP.composed]
  · simp [triggerIf, apply_ite State.mp, apply_ite MP.rxTaken]
  · simp [triggerIf, apply_ite State.mp, apply_ite MP.tx]
  · simp [triggerIf, apply_ite State.mp, apply_ite MP.txBefore]

@[simp] theorem triggerIf_frame_2 (c : AllocCause) (b : Bool) (s : State) :
    (triggerIf c b s).mp.loopback = s.mp.loopback ∧ (triggerIf c b s).ps.active = s.ps.active ∧
    (triggerIf c b s).ps.fallback = s.ps.fallback ∧ (triggerIf c b s).ps.previous = s.ps.previous ∧
    (triggerIf c b s).ps.idleDue = s.ps.idleDue ∧ (triggerIf c b s).mc.restart = s.mc.restart ∧
    (triggerIf c b s).mc.inbox = s.mc.inbox ∧ (triggerIf c b s).mc.flagCount = s.mc.flagCount := by
  refine ⟨?_, ?_, ?_, ?_, ?_, ?_, ?_, ?_⟩
  · simp [triggerIf, apply_ite State.mp, apply_ite MP.loopback]
  · simp [triggerIf, apply_ite State.ps, apply_ite PS.active]
  · simp [triggerIf, apply_ite State.ps, apply_ite PS.fallback]
  · simp [triggerIf, apply_ite State.ps, apply_ite PS.previous]
  · simp [triggerIf, apply_ite State.ps, apply_ite PS.idleDue]
  · simp [triggerIf, apply_ite State.mc, apply_ite MC.restart]
  · simp [triggerIf, apply_ite State.mc, apply_ite MC.inbox]
  · simp [triggerIf, apply_ite State.mc, apply_ite MC.flagCount]

@[simp] theorem triggerIf_frame_3 (c : AllocCause) (b : Bool) (s : State) :
    (triggerIf c b s).lc.role = s.lc.role ∧ (triggerIf c b s).lc.identity = s.lc.identity ∧
    (triggerIf c b s).lc.stop = s.lc.stop ∧ (triggerIf c b s).lc.history = s.lc.history ∧
    (triggerIf c b s).lc.hostMax = s.lc.hostMax ∧ (triggerIf c b s).tn.free = s.tn.free ∧
    (triggerIf c b s).ca.fixed = s.ca.fixed ∧ (triggerIf c b s).ca.fixedCounts = s.ca.fixedCounts := by
  refine ⟨?_, ?_, ?_, ?_, ?_, ?_, ?_, ?_⟩
  · simp [triggerIf, apply_ite State.lc, apply_ite LC.role]
  · simp [triggerIf, apply_ite State.lc, apply_ite LC.identity]
  · simp [triggerIf, apply_ite State.lc, apply_ite LC.stop]
  · simp [triggerIf, apply_ite State.lc, apply_ite LC.history]
  · simp [triggerIf, apply_ite State.lc, apply_ite LC.hostMax]
  · simp [triggerIf, apply_ite State.tn, apply_ite TN.free]
  · simp [triggerIf, apply_ite State.ca, apply_ite CA.fixed]
  · simp [triggerIf, apply_ite State.ca, apply_ite CA.fixedCounts]

@[simp] theorem triggerIf_frame_4 (c : AllocCause) (b : Bool) (s : State) :
    (triggerIf c b s).st.errored = s.st.errored ∧ (triggerIf c b s).st.bits = s.st.bits ∧
    (triggerIf c b s).st.kind = s.st.kind ∧ (triggerIf c b s).st.frames = s.st.frames ∧
    (triggerIf c b s).st.test = s.st.test ∧ (triggerIf c b s).cb.snapshot = s.cb.snapshot ∧
    (triggerIf c b s).cb.valid = s.cb.valid ∧ (triggerIf c b s).cb.capture = s.cb.capture := by
  refine ⟨?_, ?_, ?_, ?_, ?_, ?_, ?_, ?_⟩
  · simp [triggerIf, apply_ite State.st, apply_ite ST.errored]
  · simp [triggerIf, apply_ite State.st, apply_ite ST.bits]
  · simp [triggerIf, apply_ite State.st, apply_ite ST.kind]
  · simp [triggerIf, apply_ite State.st, apply_ite ST.frames]
  · simp [triggerIf, apply_ite State.st, apply_ite ST.test]
  · simp [triggerIf, apply_ite State.cb, apply_ite CB.snapshot]
  · simp [triggerIf, apply_ite State.cb, apply_ite CB.valid]
  · simp [triggerIf, apply_ite State.cb, apply_ite CB.capture]

@[simp] theorem triggerIf_frame_5 (c : AllocCause) (b : Bool) (s : State) :
    (triggerIf c b s).cb.pending = s.cb.pending ∧ (triggerIf c b s).cb.captureDue = s.cb.captureDue ∧
    (triggerIf c b s).cb.live.tenants = s.cb.live.tenants ∧ (triggerIf c b s).cb.live.timing = s.cb.live.timing ∧
    (triggerIf c b s).cb.live.test = s.cb.live.test ∧ (triggerIf c b s).cp.rate = s.cp.rate ∧
    (triggerIf c b s).cp.receiver = s.cp.receiver ∧ (triggerIf c b s).cp.buffer = s.cp.buffer := by
  refine ⟨?_, ?_, ?_, ?_, ?_, ?_, ?_, ?_⟩
  · simp [triggerIf, apply_ite State.cb, apply_ite CB.pending]
  · simp [triggerIf, apply_ite State.cb, apply_ite CB.captureDue]
  · simp [triggerIf, apply_ite State.cb, apply_ite CB.live, apply_ite Bank.tenants]
  · simp [triggerIf, apply_ite State.cb, apply_ite CB.live, apply_ite Bank.timing]
  · simp [triggerIf, apply_ite State.cb, apply_ite CB.live, apply_ite Bank.test]
  · simp [triggerIf, apply_ite State.cp, apply_ite CP.rate]
  · simp [triggerIf, apply_ite State.cp, apply_ite CP.receiver]
  · simp [triggerIf, apply_ite State.cp, apply_ite CP.buffer]

@[simp] theorem triggerIf_frame_6 (c : AllocCause) (b : Bool) (s : State) :
    (triggerIf c b s).cp.service = s.cp.service ∧ (triggerIf c b s).cp.attention = s.cp.attention ∧
    (triggerIf c b s).cp.resetDue = s.cp.resetDue := by
  refine ⟨?_, ?_, ?_⟩
  · simp [triggerIf, apply_ite State.cp, apply_ite CP.service]
  · simp [triggerIf, apply_ite State.cp, apply_ite CP.attention]
  · simp [triggerIf, apply_ite State.cp, apply_ite CP.resetDue]

theorem syncAll_eq (s : State) :
    syncAll s =
      triggerIf .tenant (evalSync .t4 (evalSync .t3 (evalSync .t2 (evalSync .t1 s).1).1).1).2
        (triggerIf .tenant (evalSync .t3 (evalSync .t2 (evalSync .t1 s).1).1).2
          (triggerIf .tenant (evalSync .t2 (evalSync .t1 s).1).2
            (triggerIf .tenant (evalSync .t1 s).2
              (evalSync .t4 (evalSync .t3 (evalSync .t2 (evalSync .t1 s).1).1).1).1))) := rfl

/-! `syncAll` -/

@[simp] theorem syncAll_frame (s : State) :
    (syncAll s).sf = s.sf ∧ (syncAll s).tm = s.tm ∧ (syncAll s).pending = s.pending ∧
    (syncAll s).mp.frame = s.mp.frame ∧ (syncAll s).mp.composed = s.mp.composed ∧
    (syncAll s).mp.rxTaken = s.mp.rxTaken ∧ (syncAll s).mp.tx = s.mp.tx ∧ (syncAll s).mp.txBefore = s.mp.txBefore := by
  refine ⟨?_, ?_, ?_, ?_, ?_, ?_, ?_, ?_⟩ <;>
    (rw [syncAll_eq]; simp)

@[simp] theorem syncAll_frame_2 (s : State) :
    (syncAll s).mp.loopback = s.mp.loopback ∧ (syncAll s).ps.active = s.ps.active ∧
    (syncAll s).ps.fallback = s.ps.fallback ∧ (syncAll s).ps.previous = s.ps.previous ∧
    (syncAll s).ps.idleDue = s.ps.idleDue ∧ (syncAll s).mc.restart = s.mc.restart ∧
    (syncAll s).mc.inbox = s.mc.inbox ∧ (syncAll s).mc.flagCount = s.mc.flagCount := by
  refine ⟨?_, ?_, ?_, ?_, ?_, ?_, ?_, ?_⟩ <;>
    (rw [syncAll_eq]; simp)

@[simp] theorem syncAll_frame_3 (s : State) :
    (syncAll s).lc.role = s.lc.role ∧ (syncAll s).lc.identity = s.lc.identity ∧ (syncAll s).lc.stop = s.lc.stop ∧
    (syncAll s).lc.history = s.lc.history ∧ (syncAll s).lc.hostMax = s.lc.hostMax ∧ (syncAll s).tn.free = s.tn.free ∧
    (syncAll s).ca.fixed = s.ca.fixed ∧ (syncAll s).ca.fixedCounts = s.ca.fixedCounts := by
  refine ⟨?_, ?_, ?_, ?_, ?_, ?_, ?_, ?_⟩ <;>
    (rw [syncAll_eq]; simp)

@[simp] theorem syncAll_frame_4 (s : State) :
    (syncAll s).st.errored = s.st.errored ∧ (syncAll s).st.bits = s.st.bits ∧ (syncAll s).st.kind = s.st.kind ∧
    (syncAll s).st.frames = s.st.frames ∧ (syncAll s).st.test = s.st.test ∧ (syncAll s).cb.snapshot = s.cb.snapshot ∧
    (syncAll s).cb.valid = s.cb.valid ∧ (syncAll s).cb.capture = s.cb.capture := by
  refine ⟨?_, ?_, ?_, ?_, ?_, ?_, ?_, ?_⟩ <;>
    (rw [syncAll_eq]; simp)

@[simp] theorem syncAll_frame_5 (s : State) :
    (syncAll s).cb.pending = s.cb.pending ∧ (syncAll s).cb.captureDue = s.cb.captureDue ∧
    (syncAll s).cb.live.tenants = s.cb.live.tenants ∧ (syncAll s).cb.live.timing = s.cb.live.timing ∧
    (syncAll s).cb.live.test = s.cb.live.test ∧ (syncAll s).cp.rate = s.cp.rate ∧
    (syncAll s).cp.receiver = s.cp.receiver ∧ (syncAll s).cp.buffer = s.cp.buffer := by
  refine ⟨?_, ?_, ?_, ?_, ?_, ?_, ?_, ?_⟩ <;>
    (rw [syncAll_eq]; simp)

@[simp] theorem syncAll_frame_6 (s : State) :
    (syncAll s).cp.service = s.cp.service ∧ (syncAll s).cp.attention = s.cp.attention ∧
    (syncAll s).cp.resetDue = s.cp.resetDue := by
  refine ⟨?_, ?_, ?_⟩ <;>
    (rw [syncAll_eq]; simp)

/-! `drainCompletion` -/

@[simp] theorem drainCompletion_frame (t : Tenant) (r : TenantRec) (s : State) :
    (drainCompletion t r s).sf = s.sf ∧ (drainCompletion t r s).tm = s.tm ∧
    (drainCompletion t r s).pending = s.pending ∧ (drainCompletion t r s).mp.frame = s.mp.frame ∧
    (drainCompletion t r s).mp.composed = s.mp.composed ∧ (drainCompletion t r s).mp.rxTaken = s.mp.rxTaken ∧
    (drainCompletion t r s).mp.tx = s.mp.tx ∧ (drainCompletion t r s).mp.txBefore = s.mp.txBefore := by
  refine ⟨?_, ?_, ?_, ?_, ?_, ?_, ?_, ?_⟩ <;>
    simp [drainCompletion]

@[simp] theorem drainCompletion_frame_2 (t : Tenant) (r : TenantRec) (s : State) :
    (drainCompletion t r s).mp.loopback = s.mp.loopback ∧ (drainCompletion t r s).ps.active = s.ps.active ∧
    (drainCompletion t r s).ps.fallback = s.ps.fallback ∧ (drainCompletion t r s).ps.previous = s.ps.previous ∧
    (drainCompletion t r s).ps.idleDue = s.ps.idleDue ∧ (drainCompletion t r s).mc.restart = s.mc.restart ∧
    (drainCompletion t r s).mc.inbox = s.mc.inbox ∧ (drainCompletion t r s).mc.flagCount = s.mc.flagCount := by
  refine ⟨?_, ?_, ?_, ?_, ?_, ?_, ?_, ?_⟩ <;>
    simp [drainCompletion]

@[simp] theorem drainCompletion_frame_3 (t : Tenant) (r : TenantRec) (s : State) :
    (drainCompletion t r s).lc.role = s.lc.role ∧ (drainCompletion t r s).lc.identity = s.lc.identity ∧
    (drainCompletion t r s).lc.stop = s.lc.stop ∧ (drainCompletion t r s).lc.history = s.lc.history ∧
    (drainCompletion t r s).lc.hostMax = s.lc.hostMax ∧ (drainCompletion t r s).tn.free = s.tn.free ∧
    (drainCompletion t r s).ca.fixed = s.ca.fixed ∧ (drainCompletion t r s).ca.fixedCounts = s.ca.fixedCounts := by
  refine ⟨?_, ?_, ?_, ?_, ?_, ?_, ?_, ?_⟩ <;>
    simp [drainCompletion]

@[simp] theorem drainCompletion_frame_4 (t : Tenant) (r : TenantRec) (s : State) :
    (drainCompletion t r s).st.errored = s.st.errored ∧ (drainCompletion t r s).st.bits = s.st.bits ∧
    (drainCompletion t r s).st.kind = s.st.kind ∧ (drainCompletion t r s).st.frames = s.st.frames ∧
    (drainCompletion t r s).st.test = s.st.test ∧ (drainCompletion t r s).cb.snapshot = s.cb.snapshot ∧
    (drainCompletion t r s).cb.valid = s.cb.valid ∧ (drainCompletion t r s).cb.capture = s.cb.capture := by
  refine ⟨?_, ?_, ?_, ?_, ?_, ?_, ?_, ?_⟩ <;>
    simp [drainCompletion]

@[simp] theorem drainCompletion_frame_5 (t : Tenant) (r : TenantRec) (s : State) :
    (drainCompletion t r s).cb.pending = s.cb.pending ∧ (drainCompletion t r s).cb.captureDue = s.cb.captureDue ∧
    (drainCompletion t r s).cb.live.tenants = s.cb.live.tenants ∧
    (drainCompletion t r s).cb.live.timing = s.cb.live.timing ∧
    (drainCompletion t r s).cb.live.test = s.cb.live.test ∧ (drainCompletion t r s).cp.rate = s.cp.rate ∧
    (drainCompletion t r s).cp.receiver = s.cp.receiver ∧ (drainCompletion t r s).cp.buffer = s.cp.buffer := by
  refine ⟨?_, ?_, ?_, ?_, ?_, ?_, ?_, ?_⟩ <;>
    simp [drainCompletion]

@[simp] theorem drainCompletion_frame_6 (t : Tenant) (r : TenantRec) (s : State) :
    (drainCompletion t r s).cp.service = s.cp.service ∧ (drainCompletion t r s).cp.attention = s.cp.attention ∧
    (drainCompletion t r s).cp.resetDue = s.cp.resetDue := by
  refine ⟨?_, ?_, ?_⟩ <;>
    simp [drainCompletion]

end Sys2Proof.Machine
end

