-- ==== Sys2Proof/Laws/Timing.lean ====
section
/-! SUPPORT. What the operations of the Timing Unit leave alone. -/

set_option linter.unusedSimpArgs false

namespace Sys2Proof.Machine

/-! `advanceCounter` -/

@[simp] theorem advanceCounter_frame (n : Nat) (s : State) :
    (advanceCounter n s).mp = s.mp ∧ (advanceCounter n s).sf = s.sf ∧ (advanceCounter n s).ps = s.ps ∧
    (advanceCounter n s).mc = s.mc ∧ (advanceCounter n s).lc = s.lc ∧ (advanceCounter n s).tn = s.tn ∧
    (advanceCounter n s).ca = s.ca ∧ (advanceCounter n s).st = s.st ∧ (advanceCounter n s).cb = s.cb ∧
    (advanceCounter n s).cp = s.cp ∧ (advanceCounter n s).pending = s.pending ∧
    (advanceCounter n s).tm.state = s.tm.state ∧ (advanceCounter n s).tm.expired = s.tm.expired ∧
    (advanceCounter n s).tm.config = s.tm.config ∧ (advanceCounter n s).tm.steer = s.tm.steer ∧
    (advanceCounter n s).tm.current = s.tm.current ∧ (advanceCounter n s).tm.before = s.tm.before ∧
    (advanceCounter n s).tm.window = s.tm.window ∧ (advanceCounter n s).tm.integrator = s.tm.integrator ∧
    (advanceCounter n s).tm.sequence = s.tm.sequence :=
  ⟨rfl, rfl, rfl, rfl, rfl, rfl, rfl, rfl, rfl, rfl, rfl, rfl, rfl, rfl, rfl, rfl, rfl, rfl, rfl, rfl⟩

/-! `announceTiming` -/

@[simp] theorem announceTiming_frame (o : TimingState) (c : TimingCause) (s : State) :
    (announceTiming o c s).sf = s.sf ∧ (announceTiming o c s).pending = s.pending ∧
    (announceTiming o c s).mp.frame = s.mp.frame ∧ (announceTiming o c s).mp.composed = s.mp.composed ∧
    (announceTiming o c s).mp.rxTaken = s.mp.rxTaken ∧ (announceTiming o c s).mp.tx = s.mp.tx ∧
    (announceTiming o c s).mp.txBefore = s.mp.txBefore ∧ (announceTiming o c s).mp.loopback = s.mp.loopback := by
  refine ⟨?_, ?_, ?_, ?_, ?_, ?_, ?_, ?_⟩ <;>
    simp [announceTiming]

@[simp] theorem announceTiming_frame_2 (o : TimingState) (c : TimingCause) (s : State) :
    (announceTiming o c s).ps.active = s.ps.active ∧ (announceTiming o c s).ps.fallback = s.ps.fallback ∧
    (announceTiming o c s).ps.previous = s.ps.previous ∧ (announceTiming o c s).ps.idleDue = s.ps.idleDue ∧
    (announceTiming o c s).mc.restart = s.mc.restart ∧ (announceTiming o c s).mc.inbox = s.mc.inbox ∧
    (announceTiming o c s).mc.flagCount = s.mc.flagCount ∧ (announceTiming o c s).lc.role = s.lc.role := by
  refine ⟨?_, ?_, ?_, ?_, ?_, ?_, ?_, ?_⟩ <;>
    simp [announceTiming]

@[simp] theorem announceTiming_frame_3 (o : TimingState) (c : TimingCause) (s : State) :
    (announceTiming o c s).lc.identity = s.lc.identity ∧ (announceTiming o c s).lc.stop = s.lc.stop ∧
    (announceTiming o c s).lc.history = s.lc.history ∧ (announceTiming o c s).lc.hostMax = s.lc.hostMax ∧
    (announceTiming o c s).tn.free = s.tn.free ∧ (announceTiming o c s).ca.fixed = s.ca.fixed ∧
    (announceTiming o c s).ca.fixedCounts = s.ca.fixedCounts ∧ (announceTiming o c s).tm.time = s.tm.time := by
  refine ⟨?_, ?_, ?_, ?_, ?_, ?_, ?_, ?_⟩ <;>
    simp [announceTiming]

@[simp] theorem announceTiming_frame_4 (o : TimingState) (c : TimingCause) (s : State) :
    (announceTiming o c s).tm.state = s.tm.state ∧ (announceTiming o c s).tm.expired = s.tm.expired ∧
    (announceTiming o c s).tm.config = s.tm.config ∧ (announceTiming o c s).tm.steer = s.tm.steer ∧
    (announceTiming o c s).tm.current = s.tm.current ∧ (announceTiming o c s).tm.before = s.tm.before ∧
    (announceTiming o c s).tm.window = s.tm.window ∧ (announceTiming o c s).tm.integrator = s.tm.integrator := by
  refine ⟨?_, ?_, ?_, ?_, ?_, ?_, ?_, ?_⟩ <;>
    simp [announceTiming]

@[simp] theorem announceTiming_frame_5 (o : TimingState) (c : TimingCause) (s : State) :
    (announceTiming o c s).tm.sequence = s.tm.sequence ∧ (announceTiming o c s).st.errored = s.st.errored ∧
    (announceTiming o c s).st.bits = s.st.bits ∧ (announceTiming o c s).st.kind = s.st.kind ∧
    (announceTiming o c s).st.frames = s.st.frames ∧ (announceTiming o c s).st.test = s.st.test ∧
    (announceTiming o c s).cb.snapshot = s.cb.snapshot ∧ (announceTiming o c s).cb.valid = s.cb.valid := by
  refine ⟨?_, ?_, ?_, ?_, ?_, ?_, ?_, ?_⟩ <;>
    simp [announceTiming]

@[simp] theorem announceTiming_frame_6 (o : TimingState) (c : TimingCause) (s : State) :
    (announceTiming o c s).cb.capture = s.cb.capture ∧ (announceTiming o c s).cb.pending = s.cb.pending ∧
    (announceTiming o c s).cb.captureDue = s.cb.captureDue ∧
    (announceTiming o c s).cb.live.tenants = s.cb.live.tenants ∧
    (announceTiming o c s).cb.live.timing = s.cb.live.timing ∧ (announceTiming o c s).cb.live.test = s.cb.live.test ∧
    (announceTiming o c s).cp.rate = s.cp.rate ∧ (announceTiming o c s).cp.receiver = s.cp.receiver := by
  refine ⟨?_, ?_, ?_, ?_, ?_, ?_, ?_, ?_⟩ <;>
    simp [announceTiming]

@[simp] theorem announceTiming_frame_7 (o : TimingState) (c : TimingCause) (s : State) :
    (announceTiming o c s).cp.buffer = s.cp.buffer ∧ (announceTiming o c s).cp.service = s.cp.service ∧
    (announceTiming o c s).cp.attention = s.cp.attention ∧ (announceTiming o c s).cp.resetDue = s.cp.resetDue := by
  refine ⟨?_, ?_, ?_, ?_⟩ <;>
    simp [announceTiming]

/-! `setTiming` -/

@[simp] theorem setTiming_frame (n : TimingState) (c : TimingCause) (s : State) :
    (setTiming n c s).sf = s.sf ∧ (setTiming n c s).pending = s.pending ∧ (setTiming n c s).mp.frame = s.mp.frame ∧
    (setTiming n c s).mp.composed = s.mp.composed ∧ (setTiming n c s).mp.rxTaken = s.mp.rxTaken ∧
    (setTiming n c s).mp.tx = s.mp.tx ∧ (setTiming n c s).mp.txBefore = s.mp.txBefore ∧
    (setTiming n c s).mp.loopback = s.mp.loopback := by
  refine ⟨?_, ?_, ?_, ?_, ?_, ?_, ?_, ?_⟩ <;>
    simp [setTiming]

@[simp] theorem setTiming_frame_2 (n : TimingState) (c : TimingCause) (s : State) :
    (setTiming n c s).ps.active = s.ps.active ∧ (setTiming n c s).ps.fallback = s.ps.fallback ∧
    (setTiming n c s).ps.previous = s.ps.previous ∧ (setTiming n c s).ps.idleDue = s.ps.idleDue ∧
    (setTiming n c s).mc.restart = s.mc.restart ∧ (setTiming n c s).mc.inbox = s.mc.inbox ∧
    (setTiming n c s).mc.flagCount = s.mc.flagCount ∧ (setTiming n c s).lc.role = s.lc.role := by
  refine ⟨?_, ?_, ?_, ?_, ?_, ?_, ?_, ?_⟩ <;>
    simp [setTiming]

@[simp] theorem setTiming_frame_3 (n : TimingState) (c : TimingCause) (s : State) :
    (setTiming n c s).lc.identity = s.lc.identity ∧ (setTiming n c s).lc.stop = s.lc.stop ∧
    (setTiming n c s).lc.history = s.lc.history ∧ (setTiming n c s).lc.hostMax = s.lc.hostMax ∧
    (setTiming n c s).tn.free = s.tn.free ∧ (setTiming n c s).ca.fixed = s.ca.fixed ∧
    (setTiming n c s).ca.fixedCounts = s.ca.fixedCounts ∧ (setTiming n c s).tm.time = s.tm.time := by
  refine ⟨?_, ?_, ?_, ?_, ?_, ?_, ?_, ?_⟩ <;>
    simp [setTiming]

@[simp] theorem setTiming_frame_4 (n : TimingState) (c : TimingCause) (s : State) :
    (setTiming n c s).tm.expired = s.tm.expired ∧ (setTiming n c s).tm.config = s.tm.config ∧
    (setTiming n c s).tm.steer = s.tm.steer ∧ (setTiming n c s).tm.current = s.tm.current ∧
    (setTiming n c s).tm.before = s.tm.before ∧ (setTiming n c s).tm.window = s.tm.window ∧
    (setTiming n c s).tm.integrator = s.tm.integrator ∧ (setTiming n c s).tm.sequence = s.tm.sequence := by
  refine ⟨?_, ?_, ?_, ?_, ?_, ?_, ?_, ?_⟩ <;>
    simp [setTiming]

@[simp] theorem setTiming_frame_5 (n : TimingState) (c : TimingCause) (s : State) :
    (setTiming n c s).st.errored = s.st.errored ∧ (setTiming n c s).st.bits = s.st.bits ∧
    (setTiming n c s).st.kind = s.st.kind ∧ (setTiming n c s).st.frames = s.st.frames ∧
    (setTiming n c s).st.test = s.st.test ∧ (setTiming n c s).cb.snapshot = s.cb.snapshot ∧
    (setTiming n c s).cb.valid = s.cb.valid ∧ (setTiming n c s).cb.capture = s.cb.capture := by
  refine ⟨?_, ?_, ?_, ?_, ?_, ?_, ?_, ?_⟩ <;>
    simp [setTiming]

@[simp] theorem setTiming_frame_6 (n : TimingState) (c : TimingCause) (s : State) :
    (setTiming n c s).cb.pending = s.cb.pending ∧ (setTiming n c s).cb.captureDue = s.cb.captureDue ∧
    (setTiming n c s).cb.live.tenants = s.cb.live.tenants ∧ (setTiming n c s).cb.live.timing = s.cb.live.timing ∧
    (setTiming n c s).cb.live.test = s.cb.live.test ∧ (setTiming n c s).cp.rate = s.cp.rate ∧
    (setTiming n c s).cp.receiver = s.cp.receiver ∧ (setTiming n c s).cp.buffer = s.cp.buffer := by
  refine ⟨?_, ?_, ?_, ?_, ?_, ?_, ?_, ?_⟩ <;>
    simp [setTiming]

@[simp] theorem setTiming_frame_7 (n : TimingState) (c : TimingCause) (s : State) :
    (setTiming n c s).cp.service = s.cp.service ∧ (setTiming n c s).cp.attention = s.cp.attention ∧
    (setTiming n c s).cp.resetDue = s.cp.resetDue := by
  refine ⟨?_, ?_, ?_⟩ <;>
    simp [setTiming]

/-! `enterHoldover` -/

@[simp] theorem enterHoldover_frame (c : TimingCause) (s : State) :
    (enterHoldover c s).sf = s.sf ∧ (enterHoldover c s).pending = s.pending ∧
    (enterHoldover c s).mp.frame = s.mp.frame ∧ (enterHoldover c s).mp.composed = s.mp.composed ∧
    (enterHoldover c s).mp.rxTaken = s.mp.rxTaken ∧ (enterHoldover c s).mp.tx = s.mp.tx ∧
    (enterHoldover c s).mp.txBefore = s.mp.txBefore ∧ (enterHoldover c s).mp.loopback = s.mp.loopback := by
  refine ⟨?_, ?_, ?_, ?_, ?_, ?_, ?_, ?_⟩ <;>
    simp [enterHoldover]

@[simp] theorem enterHoldover_frame_2 (c : TimingCause) (s : State) :
    (enterHoldover c s).ps.active = s.ps.active ∧ (enterHoldover c s).ps.fallback = s.ps.fallback ∧
    (enterHoldover c s).ps.previous = s.ps.previous ∧ (enterHoldover c s).ps.idleDue = s.ps.idleDue ∧
    (enterHoldover c s).mc.restart = s.mc.restart ∧ (enterHoldover c s).mc.inbox = s.mc.inbox ∧
    (enterHoldover c s).mc.flagCount = s.mc.flagCount ∧ (enterHoldover c s).lc.role = s.lc.role := by
  refine ⟨?_, ?_, ?_, ?_, ?_, ?_, ?_, ?_⟩ <;>
    simp [enterHoldover]

@[simp] theorem enterHoldover_frame_3 (c : TimingCause) (s : State) :
    (enterHoldover c s).lc.identity = s.lc.identity ∧ (enterHoldover c s).lc.stop = s.lc.stop ∧
    (enterHoldover c s).lc.history = s.lc.history ∧ (enterHoldover c s).lc.hostMax = s.lc.hostMax ∧
    (enterHoldover c s).tn.free = s.tn.free ∧ (enterHoldover c s).ca.fixed = s.ca.fixed ∧
    (enterHoldover c s).ca.fixedCounts = s.ca.fixedCounts ∧ (enterHoldover c s).tm.time = s.tm.time := by
  refine ⟨?_, ?_, ?_, ?_, ?_, ?_, ?_, ?_⟩ <;>
    simp [enterHoldover]

@[simp] theorem enterHoldover_frame_4 (c : TimingCause) (s : State) :
    (enterHoldover c s).tm.config = s.tm.config ∧ (enterHoldover c s).tm.current = s.tm.current ∧
    (enterHoldover c s).tm.before = s.tm.before ∧ (enterHoldover c s).tm.window = s.tm.window ∧
    (enterHoldover c s).tm.integrator = s.tm.integrator ∧ (enterHoldover c s).tm.sequence = s.tm.sequence ∧
    (enterHoldover c s).st.errored = s.st.errored ∧ (enterHoldover c s).st.bits = s.st.bits := by
  refine ⟨?_, ?_, ?_, ?_, ?_, ?_, ?_, ?_⟩ <;>
    simp [enterHoldover]

@[simp] theorem enterHoldover_frame_5 (c : TimingCause) (s : State) :
    (enterHoldover c s).st.kind = s.st.kind ∧ (enterHoldover c s).st.frames = s.st.frames ∧
    (enterHoldover c s).st.test = s.st.test ∧ (enterHoldover c s).cb.snapshot = s.cb.snapshot ∧
    (enterHoldover c s).cb.valid = s.cb.valid ∧ (enterHoldover c s).cb.capture = s.cb.capture ∧
    (enterHoldover c s).cb.pending = s.cb.pending ∧ (enterHoldover c s).cb.captureDue = s.cb.captureDue := by
  refine ⟨?_, ?_, ?_, ?_, ?_, ?_, ?_, ?_⟩ <;>
    simp [enterHoldover]

@[simp] theorem enterHoldover_frame_6 (c : TimingCause) (s : State) :
    (enterHoldover c s).cb.live.tenants = s.cb.live.tenants ∧ (enterHoldover c s).cb.live.timing = s.cb.live.timing ∧
    (enterHoldover c s).cb.live.test = s.cb.live.test ∧ (enterHoldover c s).cp.rate = s.cp.rate ∧
    (enterHoldover c s).cp.receiver = s.cp.receiver ∧ (enterHoldover c s).cp.buffer = s.cp.buffer ∧
    (enterHoldover c s).cp.service = s.cp.service ∧ (enterHoldover c s).cp.attention = s.cp.attention := by
  refine ⟨?_, ?_, ?_, ?_, ?_, ?_, ?_, ?_⟩ <;>
    simp [enterHoldover]

@[simp] theorem enterHoldover_frame_7 (c : TimingCause) (s : State) :
    (enterHoldover c s).cp.resetDue = s.cp.resetDue := by
  simp [enterHoldover]

/-! `timingLinkUp` -/

@[simp] theorem timingLinkUp_frame (s : State) :
    (timingLinkUp s).sf = s.sf ∧ (timingLinkUp s).pending = s.pending ∧ (timingLinkUp s).mp.frame = s.mp.frame ∧
    (timingLinkUp s).mp.composed = s.mp.composed ∧ (timingLinkUp s).mp.rxTaken = s.mp.rxTaken ∧
    (timingLinkUp s).mp.tx = s.mp.tx ∧ (timingLinkUp s).mp.txBefore = s.mp.txBefore ∧
    (timingLinkUp s).mp.loopback = s.mp.loopback := by
  refine ⟨?_, ?_, ?_, ?_, ?_, ?_, ?_, ?_⟩ <;>
    (simp only [timingLinkUp]; (repeat' split) <;> simp_all)

@[simp] theorem timingLinkUp_frame_2 (s : State) :
    (timingLinkUp s).ps.active = s.ps.active ∧ (timingLinkUp s).ps.fallback = s.ps.fallback ∧
    (timingLinkUp s).ps.previous = s.ps.previous ∧ (timingLinkUp s).ps.idleDue = s.ps.idleDue ∧
    (timingLinkUp s).mc.restart = s.mc.restart ∧ (timingLinkUp s).mc.inbox = s.mc.inbox ∧
    (timingLinkUp s).mc.flagCount = s.mc.flagCount ∧ (timingLinkUp s).lc.role = s.lc.role := by
  refine ⟨?_, ?_, ?_, ?_, ?_, ?_, ?_, ?_⟩ <;>
    (simp only [timingLinkUp]; (repeat' split) <;> simp_all)

@[simp] theorem timingLinkUp_frame_3 (s : State) :
    (timingLinkUp s).lc.identity = s.lc.identity ∧ (timingLinkUp s).lc.stop = s.lc.stop ∧
    (timingLinkUp s).lc.history = s.lc.history ∧ (timingLinkUp s).lc.hostMax = s.lc.hostMax ∧
    (timingLinkUp s).tn.free = s.tn.free ∧ (timingLinkUp s).ca.fixed = s.ca.fixed ∧
    (timingLinkUp s).ca.fixedCounts = s.ca.fixedCounts ∧ (timingLinkUp s).tm.time = s.tm.time := by
  refine ⟨?_, ?_, ?_, ?_, ?_, ?_, ?_, ?_⟩ <;>
    (simp only [timingLinkUp]; (repeat' split) <;> simp_all)

@[simp] theorem timingLinkUp_frame_4 (s : State) :
    (timingLinkUp s).tm.expired = s.tm.expired ∧ (timingLinkUp s).tm.config = s.tm.config ∧
    (timingLinkUp s).tm.steer = s.tm.steer ∧ (timingLinkUp s).tm.current = s.tm.current ∧
    (timingLinkUp s).tm.before = s.tm.before ∧ (timingLinkUp s).tm.window = s.tm.window ∧
    (timingLinkUp s).tm.integrator = s.tm.integrator ∧ (timingLinkUp s).tm.sequence = s.tm.sequence := by
  refine ⟨?_, ?_, ?_, ?_, ?_, ?_, ?_, ?_⟩ <;>
    (simp only [timingLinkUp]; (repeat' split) <;> simp_all)

@[simp] theorem timingLinkUp_frame_5 (s : State) :
    (timingLinkUp s).st.errored = s.st.errored ∧ (timingLinkUp s).st.bits = s.st.bits ∧
    (timingLinkUp s).st.kind = s.st.kind ∧ (timingLinkUp s).st.frames = s.st.frames ∧
    (timingLinkUp s).st.test = s.st.test ∧ (timingLinkUp s).cb.snapshot = s.cb.snapshot ∧
    (timingLinkUp s).cb.valid = s.cb.valid ∧ (timingLinkUp s).cb.capture = s.cb.capture := by
  refine ⟨?_, ?_, ?_, ?_, ?_, ?_, ?_, ?_⟩ <;>
    (simp only [timingLinkUp]; (repeat' split) <;> simp_all)

@[simp] theorem timingLinkUp_frame_6 (s : State) :
    (timingLinkUp s).cb.pending = s.cb.pending ∧ (timingLinkUp s).cb.captureDue = s.cb.captureDue ∧
    (timingLinkUp s).cb.live.tenants = s.cb.live.tenants ∧ (timingLinkUp s).cb.live.timing = s.cb.live.timing ∧
    (timingLinkUp s).cb.live.test = s.cb.live.test ∧ (timingLinkUp s).cp.rate = s.cp.rate ∧
    (timingLinkUp s).cp.receiver = s.cp.receiver ∧ (timingLinkUp s).cp.buffer = s.cp.buffer := by
  refine ⟨?_, ?_, ?_, ?_, ?_, ?_, ?_, ?_⟩ <;>
    (simp only [timingLinkUp]; (repeat' split) <;> simp_all)

@[simp] theorem timingLinkUp_frame_7 (s : State) :
    (timingLinkUp s).cp.service = s.cp.service ∧ (timingLinkUp s).cp.attention = s.cp.attention ∧
    (timingLinkUp s).cp.resetDue = s.cp.resetDue := by
  refine ⟨?_, ?_, ?_⟩ <;>
    (simp only [timingLinkUp]; (repeat' split) <;> simp_all)

/-! `timingLinkDown` -/

@[simp] theorem timingLinkDown_frame (s : State) :
    (timingLinkDown s).sf = s.sf ∧ (timingLinkDown s).pending = s.pending ∧ (timingLinkDown s).mp.frame = s.mp.frame ∧
    (timingLinkDown s).mp.composed = s.mp.composed ∧ (timingLinkDown s).mp.rxTaken = s.mp.rxTaken ∧
    (timingLinkDown s).mp.tx = s.mp.tx ∧ (timingLinkDown s).mp.txBefore = s.mp.txBefore ∧
    (timingLinkDown s).mp.loopback = s.mp.loopback := by
  refine ⟨?_, ?_, ?_, ?_, ?_, ?_, ?_, ?_⟩ <;>
    (simp only [timingLinkDown]; (repeat' split) <;> simp_all)

@[simp] theorem timingLinkDown_frame_2 (s : State) :
    (timingLinkDown s).ps.active = s.ps.active ∧ (timingLinkDown s).ps.fallback = s.ps.fallback ∧
    (timingLinkDown s).ps.previous = s.ps.previous ∧ (timingLinkDown s).ps.idleDue = s.ps.idleDue ∧
    (timingLinkDown s).mc.restart = s.mc.restart ∧ (timingLinkDown s).mc.inbox = s.mc.inbox ∧
    (timingLinkDown s).mc.flagCount = s.mc.flagCount ∧ (timingLinkDown s).lc.role = s.lc.role := by
  refine ⟨?_, ?_, ?_, ?_, ?_, ?_, ?_, ?_⟩ <;>
    (simp only [timingLinkDown]; (repeat' split) <;> simp_all)

@[simp] theorem timingLinkDown_frame_3 (s : State) :
    (timingLinkDown s).lc.identity = s.lc.identity ∧ (timingLinkDown s).lc.stop = s.lc.stop ∧
    (timingLinkDown s).lc.history = s.lc.history ∧ (timingLinkDown s).lc.hostMax = s.lc.hostMax ∧
    (timingLinkDown s).tn.free = s.tn.free ∧ (timingLinkDown s).ca.fixed = s.ca.fixed ∧
    (timingLinkDown s).ca.fixedCounts = s.ca.fixedCounts ∧ (timingLinkDown s).tm.time = s.tm.time := by
  refine ⟨?_, ?_, ?_, ?_, ?_, ?_, ?_, ?_⟩ <;>
    (simp only [timingLinkDown]; (repeat' split) <;> simp_all)

@[simp] theorem timingLinkDown_frame_4 (s : State) :
    (timingLinkDown s).tm.config = s.tm.config ∧ (timingLinkDown s).tm.current = s.tm.current ∧
    (timingLinkDown s).tm.before = s.tm.before ∧ (timingLinkDown s).tm.integrator = s.tm.integrator ∧
    (timingLinkDown s).tm.sequence = s.tm.sequence ∧ (timingLinkDown s).st.errored = s.st.errored ∧
    (timingLinkDown s).st.bits = s.st.bits ∧ (timingLinkDown s).st.kind = s.st.kind := by
  refine ⟨?_, ?_, ?_, ?_, ?_, ?_, ?_, ?_⟩ <;>
    (simp only [timingLinkDown]; (repeat' split) <;> simp_all)

@[simp] theorem timingLinkDown_frame_5 (s : State) :
    (timingLinkDown s).st.frames = s.st.frames ∧ (timingLinkDown s).st.test = s.st.test ∧
    (timingLinkDown s).cb.snapshot = s.cb.snapshot ∧ (timingLinkDown s).cb.valid = s.cb.valid ∧
    (timingLinkDown s).cb.capture = s.cb.capture ∧ (timingLinkDown s).cb.pending = s.cb.pending ∧
    (timingLinkDown s).cb.captureDue = s.cb.captureDue ∧ (timingLinkDown s).cb.live.tenants = s.cb.live.tenants := by
  refine ⟨?_, ?_, ?_, ?_, ?_, ?_, ?_, ?_⟩ <;>
    (simp only [timingLinkDown]; (repeat' split) <;> simp_all)

@[simp] theorem timingLinkDown_frame_6 (s : State) :
    (timingLinkDown s).cb.live.timing = s.cb.live.timing ∧ (timingLinkDown s).cb.live.test = s.cb.live.test ∧
    (timingLinkDown s).cp.rate = s.cp.rate ∧ (timingLinkDown s).cp.receiver = s.cp.receiver ∧
    (timingLinkDown s).cp.buffer = s.cp.buffer ∧ (timingLinkDown s).cp.service = s.cp.service ∧
    (timingLinkDown s).cp.attention = s.cp.attention ∧ (timingLinkDown s).cp.resetDue = s.cp.resetDue := by
  refine ⟨?_, ?_, ?_, ?_, ?_, ?_, ?_, ?_⟩ <;>
    (simp only [timingLinkDown]; (repeat' split) <;> simp_all)

/-! `applyServo` -/

@[simp] theorem applyServo_frame (v : Servo) (r : Bool) (s : State) :
    (applyServo v r s).mp = s.mp ∧ (applyServo v r s).sf = s.sf ∧ (applyServo v r s).ps = s.ps ∧
    (applyServo v r s).mc = s.mc ∧ (applyServo v r s).lc = s.lc ∧ (applyServo v r s).tn = s.tn ∧
    (applyServo v r s).ca = s.ca ∧ (applyServo v r s).st = s.st := by
  refine ⟨?_, ?_, ?_, ?_, ?_, ?_, ?_, ?_⟩
  · simp [applyServo, apply_ite State.mp]
  · simp [applyServo, apply_ite State.sf]
  · simp [applyServo, apply_ite State.ps]
  · simp [applyServo, apply_ite State.mc]
  · simp [applyServo, apply_ite State.lc]
  · simp [applyServo, apply_ite State.tn]
  · simp [applyServo, apply_ite State.ca]
  · simp [applyServo, apply_ite State.st]

@[simp] theorem applyServo_frame_2 (v : Servo) (r : Bool) (s : State) :
    (applyServo v r s).cp = s.cp ∧ (applyServo v r s).pending = s.pending ∧ (applyServo v r s).tm.time = s.tm.time ∧
    (applyServo v r s).tm.state = s.tm.state ∧ (applyServo v r s).tm.expired = s.tm.expired ∧
    (applyServo v r s).tm.config = s.tm.config ∧ (applyServo v r s).tm.pps = s.tm.pps ∧
    (applyServo v r s).tm.current = s.tm.current := by
  refine ⟨?_, ?_, ?_, ?_, ?_, ?_, ?_, ?_⟩
  · simp [applyServo, apply_ite State.cp]
  · simp [applyServo, apply_ite State.pending]
  · simp [applyServo, apply_ite State.tm, apply_ite TM.time]
  · simp [applyServo, apply_ite State.tm, apply_ite TM.state]
  · simp [applyServo, apply_ite State.tm, apply_ite TM.expired]
  · simp [applyServo, apply_ite State.tm, apply_ite TM.config]
  · simp [applyServo, apply_ite State.tm, apply_ite TM.pps]
  · simp [applyServo, apply_ite State.tm, apply_ite TM.current]

@[simp] theorem applyServo_frame_3 (v : Servo) (r : Bool) (s : State) :
    (applyServo v r s).tm.before = s.tm.before ∧ (applyServo v r s).tm.window = s.tm.window ∧
    (applyServo v r s).tm.sequence = s.tm.sequence ∧ (applyServo v r s).cb.snapshot = s.cb.snapshot ∧
    (applyServo v r s).cb.valid = s.cb.valid ∧ (applyServo v r s).cb.capture = s.cb.capture ∧
    (applyServo v r s).cb.pending = s.cb.pending ∧ (applyServo v r s).cb.captureDue = s.cb.captureDue := by
  refine ⟨?_, ?_, ?_, ?_, ?_, ?_, ?_, ?_⟩
  · simp [applyServo, apply_ite State.tm, apply_ite TM.before]
  · simp [applyServo, apply_ite State.tm, apply_ite TM.window]
  · simp [applyServo, apply_ite State.tm, apply_ite TM.sequence]
  · simp [applyServo, apply_ite State.cb, apply_ite CB.snapshot]
  · simp [applyServo, apply_ite State.cb, apply_ite CB.valid]
  · simp [applyServo, apply_ite State.cb, apply_ite CB.capture]
  · simp [applyServo, apply_ite State.cb, apply_ite CB.pending]
  · simp [applyServo, apply_ite State.cb, apply_ite CB.captureDue]

@[simp] theorem applyServo_frame_4 (v : Servo) (r : Bool) (s : State) :
    (applyServo v r s).cb.live.tenants = s.cb.live.tenants ∧ (applyServo v r s).cb.live.test = s.cb.live.test := by
  refine ⟨?_, ?_⟩
  · simp [applyServo, apply_ite State.cb, apply_ite CB.live, apply_ite Bank.tenants]
  · simp [applyServo, apply_ite State.cb, apply_ite CB.live, apply_ite Bank.test]

/-! `servoUpdate` -/

@[simp] theorem servoUpdate_frame (o : Int) (s : State) :
    (servoUpdate o s).sf = s.sf ∧ (servoUpdate o s).pending = s.pending ∧ (servoUpdate o s).mp.frame = s.mp.frame ∧
    (servoUpdate o s).mp.composed = s.mp.composed ∧ (servoUpdate o s).mp.rxTaken = s.mp.rxTaken ∧
    (servoUpdate o s).mp.tx = s.mp.tx ∧ (servoUpdate o s).mp.txBefore = s.mp.txBefore ∧
    (servoUpdate o s).mp.loopback = s.mp.loopback := by
  refine ⟨?_, ?_, ?_, ?_, ?_, ?_, ?_, ?_⟩ <;>
    (simp only [servoUpdate]; (repeat' split) <;> simp_all)

@[simp] theorem servoUpdate_frame_2 (o : Int) (s : State) :
    (servoUpdate o s).ps.active = s.ps.active ∧ (servoUpdate o s).ps.fallback = s.ps.fallback ∧
    (servoUpdate o s).ps.previous = s.ps.previous ∧ (servoUpdate o s).ps.idleDue = s.ps.idleDue ∧
    (servoUpdate o s).mc.restart = s.mc.restart ∧ (servoUpdate o s).mc.inbox = s.mc.inbox ∧
    (servoUpdate o s).mc.flagCount = s.mc.flagCount ∧ (servoUpdate o s).lc.role = s.lc.role := by
  refine ⟨?_, ?_, ?_, ?_, ?_, ?_, ?_, ?_⟩ <;>
    (simp only [servoUpdate]; (repeat' split) <;> simp_all)

@[simp] theorem servoUpdate_frame_3 (o : Int) (s : State) :
    (servoUpdate o s).lc.identity = s.lc.identity ∧ (servoUpdate o s).lc.stop = s.lc.stop ∧
    (servoUpdate o s).lc.history = s.lc.history ∧ (servoUpdate o s).lc.hostMax = s.lc.hostMax ∧
    (servoUpdate o s).tn.free = s.tn.free ∧ (servoUpdate o s).ca.fixed = s.ca.fixed ∧
    (servoUpdate o s).ca.fixedCounts = s.ca.fixedCounts ∧ (servoUpdate o s).tm.time = s.tm.time := by
  refine ⟨?_, ?_, ?_, ?_, ?_, ?_, ?_, ?_⟩ <;>
    (simp only [servoUpdate]; (repeat' split) <;> simp_all)

@[simp] theorem servoUpdate_frame_4 (o : Int) (s : State) :
    (servoUpdate o s).tm.config = s.tm.config ∧ (servoUpdate o s).tm.current = s.tm.current ∧
    (servoUpdate o s).tm.before = s.tm.before ∧ (servoUpdate o s).tm.window = s.tm.window ∧
    (servoUpdate o s).tm.sequence = s.tm.sequence ∧ (servoUpdate o s).st.errored = s.st.errored ∧
    (servoUpdate o s).st.bits = s.st.bits ∧ (servoUpdate o s).st.kind = s.st.kind := by
  refine ⟨?_, ?_, ?_, ?_, ?_, ?_, ?_, ?_⟩ <;>
    (simp only [servoUpdate]; (repeat' split) <;> simp_all)

@[simp] theorem servoUpdate_frame_5 (o : Int) (s : State) :
    (servoUpdate o s).st.frames = s.st.frames ∧ (servoUpdate o s).st.test = s.st.test ∧
    (servoUpdate o s).cb.snapshot = s.cb.snapshot ∧ (servoUpdate o s).cb.valid = s.cb.valid ∧
    (servoUpdate o s).cb.capture = s.cb.capture ∧ (servoUpdate o s).cb.pending = s.cb.pending ∧
    (servoUpdate o s).cb.captureDue = s.cb.captureDue ∧ (servoUpdate o s).cb.live.tenants = s.cb.live.tenants := by
  refine ⟨?_, ?_, ?_, ?_, ?_, ?_, ?_, ?_⟩ <;>
    (simp only [servoUpdate]; (repeat' split) <;> simp_all)

@[simp] theorem servoUpdate_frame_6 (o : Int) (s : State) :
    (servoUpdate o s).cb.live.test = s.cb.live.test ∧ (servoUpdate o s).cp.rate = s.cp.rate ∧
    (servoUpdate o s).cp.receiver = s.cp.receiver ∧ (servoUpdate o s).cp.buffer = s.cp.buffer ∧
    (servoUpdate o s).cp.service = s.cp.service ∧ (servoUpdate o s).cp.attention = s.cp.attention ∧
    (servoUpdate o s).cp.resetDue = s.cp.resetDue := by
  refine ⟨?_, ?_, ?_, ?_, ?_, ?_, ?_⟩ <;>
    (simp only [servoUpdate]; (repeat' split) <;> simp_all)

/-! `timeStep` -/

@[simp] theorem timeStep_frame (o : Int) (s : State) :
    (timeStep o s).mp = s.mp ∧ (timeStep o s).sf = s.sf ∧ (timeStep o s).ps = s.ps ∧ (timeStep o s).mc = s.mc ∧
    (timeStep o s).lc = s.lc ∧ (timeStep o s).tn = s.tn ∧ (timeStep o s).ca = s.ca ∧ (timeStep o s).st = s.st ∧
    (timeStep o s).cp = s.cp ∧ (timeStep o s).pending = s.pending ∧ (timeStep o s).tm.state = s.tm.state ∧
    (timeStep o s).tm.expired = s.tm.expired ∧ (timeStep o s).tm.config = s.tm.config ∧
    (timeStep o s).tm.steer = s.tm.steer ∧ (timeStep o s).tm.pps = s.tm.pps ∧
    (timeStep o s).tm.current = s.tm.current ∧ (timeStep o s).tm.before = s.tm.before ∧
    (timeStep o s).tm.window = s.tm.window ∧ (timeStep o s).tm.integrator = s.tm.integrator ∧
    (timeStep o s).tm.sequence = s.tm.sequence ∧ (timeStep o s).cb.snapshot = s.cb.snapshot ∧
    (timeStep o s).cb.valid = s.cb.valid ∧ (timeStep o s).cb.capture = s.cb.capture ∧
    (timeStep o s).cb.pending = s.cb.pending ∧ (timeStep o s).cb.captureDue = s.cb.captureDue ∧
    (timeStep o s).cb.live.tenants = s.cb.live.tenants ∧ (timeStep o s).cb.live.test = s.cb.live.test :=
  ⟨rfl, rfl, rfl, rfl, rfl, rfl, rfl, rfl, rfl, rfl, rfl, rfl, rfl, rfl, rfl, rfl, rfl, rfl, rfl, rfl, rfl, rfl, rfl,
  rfl, rfl, rfl, rfl⟩

/-! `windowUpdate` -/

@[simp] theorem windowUpdate_frame (s : State) :
    (windowUpdate s).sf = s.sf ∧ (windowUpdate s).pending = s.pending ∧ (windowUpdate s).mp.frame = s.mp.frame ∧
    (windowUpdate s).mp.composed = s.mp.composed ∧ (windowUpdate s).mp.rxTaken = s.mp.rxTaken ∧
    (windowUpdate s).mp.tx = s.mp.tx ∧ (windowUpdate s).mp.txBefore = s.mp.txBefore ∧
    (windowUpdate s).mp.loopback = s.mp.loopback := by
  refine ⟨?_, ?_, ?_, ?_, ?_, ?_, ?_, ?_⟩ <;>
    (simp only [windowUpdate]; (repeat' split) <;> simp_all)

@[simp] theorem windowUpdate_frame_2 (s : State) :
    (windowUpdate s).ps.active = s.ps.active ∧ (windowUpdate s).ps.fallback = s.ps.fallback ∧
    (windowUpdate s).ps.previous = s.ps.previous ∧ (windowUpdate s).ps.idleDue = s.ps.idleDue ∧
    (windowUpdate s).mc.restart = s.mc.restart ∧ (windowUpdate s).mc.inbox = s.mc.inbox ∧
    (windowUpdate s).mc.flagCount = s.mc.flagCount ∧ (windowUpdate s).lc.role = s.lc.role := by
  refine ⟨?_, ?_, ?_, ?_, ?_, ?_, ?_, ?_⟩ <;>
    (simp only [windowUpdate]; (repeat' split) <;> simp_all)

@[simp] theorem windowUpdate_frame_3 (s : State) :
    (windowUpdate s).lc.identity = s.lc.identity ∧ (windowUpdate s).lc.stop = s.lc.stop ∧
    (windowUpdate s).lc.history = s.lc.history ∧ (windowUpdate s).lc.hostMax = s.lc.hostMax ∧
    (windowUpdate s).tn.free = s.tn.free ∧ (windowUpdate s).ca.fixed = s.ca.fixed ∧
    (windowUpdate s).ca.fixedCounts = s.ca.fixedCounts ∧ (windowUpdate s).tm.config = s.tm.config := by
  refine ⟨?_, ?_, ?_, ?_, ?_, ?_, ?_, ?_⟩ <;>
    (simp only [windowUpdate]; (repeat' split) <;> simp_all)

@[simp] theorem windowUpdate_frame_4 (s : State) :
    (windowUpdate s).tm.current = s.tm.current ∧ (windowUpdate s).tm.before = s.tm.before ∧
    (windowUpdate s).tm.sequence = s.tm.sequence ∧ (windowUpdate s).st.errored = s.st.errored ∧
    (windowUpdate s).st.bits = s.st.bits ∧ (windowUpdate s).st.kind = s.st.kind ∧
    (windowUpdate s).st.frames = s.st.frames ∧ (windowUpdate s).st.test = s.st.test := by
  refine ⟨?_, ?_, ?_, ?_, ?_, ?_, ?_, ?_⟩ <;>
    (simp only [windowUpdate]; (repeat' split) <;> simp_all)

@[simp] theorem windowUpdate_frame_5 (s : State) :
    (windowUpdate s).cb.snapshot = s.cb.snapshot ∧ (windowUpdate s).cb.valid = s.cb.valid ∧
    (windowUpdate s).cb.capture = s.cb.capture ∧ (windowUpdate s).cb.pending = s.cb.pending ∧
    (windowUpdate s).cb.captureDue = s.cb.captureDue ∧ (windowUpdate s).cb.live.tenants = s.cb.live.tenants ∧
    (windowUpdate s).cb.live.test = s.cb.live.test ∧ (windowUpdate s).cp.rate = s.cp.rate := by
  refine ⟨?_, ?_, ?_, ?_, ?_, ?_, ?_, ?_⟩ <;>
    (simp only [windowUpdate]; (repeat' split) <;> simp_all)

@[simp] theorem windowUpdate_frame_6 (s : State) :
    (windowUpdate s).cp.receiver = s.cp.receiver ∧ (windowUpdate s).cp.buffer = s.cp.buffer ∧
    (windowUpdate s).cp.service = s.cp.service ∧ (windowUpdate s).cp.attention = s.cp.attention ∧
    (windowUpdate s).cp.resetDue = s.cp.resetDue := by
  refine ⟨?_, ?_, ?_, ?_, ?_⟩ <;>
    (simp only [windowUpdate]; (repeat' split) <;> simp_all)

/-! `loseExchange` -/

@[simp] theorem loseExchange_frame (s : State) :
    (loseExchange s).sf = s.sf ∧ (loseExchange s).pending = s.pending ∧ (loseExchange s).mp.frame = s.mp.frame ∧
    (loseExchange s).mp.composed = s.mp.composed ∧ (loseExchange s).mp.rxTaken = s.mp.rxTaken ∧
    (loseExchange s).mp.tx = s.mp.tx ∧ (loseExchange s).mp.txBefore = s.mp.txBefore ∧
    (loseExchange s).mp.loopback = s.mp.loopback := by
  refine ⟨?_, ?_, ?_, ?_, ?_, ?_, ?_, ?_⟩
  · simp [loseExchange, apply_ite State.sf]
  · simp [loseExchange, apply_ite State.pending]
  · simp [loseExchange, apply_ite State.mp, apply_ite MP.frame]
  · simp [loseExchange, apply_ite State.mp, apply_ite MP.composed]
  · simp [loseExchange, apply_ite State.mp, apply_ite MP.rxTaken]
  · simp [loseExchange, apply_ite State.mp, apply_ite MP.tx]
  · simp [loseExchange, apply_ite State.mp, apply_ite MP.txBefore]
  · simp [loseExchange, apply_ite State.mp, apply_ite MP.loopback]

@[simp] theorem loseExchange_frame_2 (s : State) :
    (loseExchange s).ps.active = s.ps.active ∧ (loseExchange s).ps.fallback = s.ps.fallback ∧
    (loseExchange s).ps.previous = s.ps.previous ∧ (loseExchange s).ps.idleDue = s.ps.idleDue ∧
    (loseExchange s).mc.restart = s.mc.restart ∧ (loseExchange s).mc.inbox = s.mc.inbox ∧
    (loseExchange s).mc.flagCount = s.mc.flagCount ∧ (loseExchange s).lc.role = s.lc.role := by
  refine ⟨?_, ?_, ?_, ?_, ?_, ?_, ?_, ?_⟩
  · simp [loseExchange, apply_ite State.ps, apply_ite PS.active]
  · simp [loseExchange, apply_ite State.ps, apply_ite PS.fallback]
  · simp [loseExchange, apply_ite State.ps, apply_ite PS.previous]
  · simp [loseExchange, apply_ite State.ps, apply_ite PS.idleDue]
  · simp [loseExchange, apply_ite State.mc, apply_ite MC.restart]
  · simp [loseExchange, apply_ite State.mc, apply_ite MC.inbox]
  · simp [loseExchange, apply_ite State.mc, apply_ite MC.flagCount]
  · simp [loseExchange, apply_ite State.lc, apply_ite LC.role]

@[simp] theorem loseExchange_frame_3 (s : State) :
    (loseExchange s).lc.identity = s.lc.identity ∧ (loseExchange s).lc.stop = s.lc.stop ∧
    (loseExchange s).lc.history = s.lc.history ∧ (loseExchange s).lc.hostMax = s.lc.hostMax ∧
    (loseExchange s).tn.free = s.tn.free ∧ (loseExchange s).ca.fixed = s.ca.fixed ∧
    (loseExchange s).ca.fixedCounts = s.ca.fixedCounts ∧ (loseExchange s).tm.time = s.tm.time := by
  refine ⟨?_, ?_, ?_, ?_, ?_, ?_, ?_, ?_⟩
  · simp [loseExchange, apply_ite State.lc, apply_ite LC.identity]
  · simp [loseExchange, apply_ite State.lc, apply_ite LC.stop]
  · simp [loseExchange, apply_ite State.lc, apply_ite LC.history]
  · simp [loseExchange, apply_ite State.lc, apply_ite LC.hostMax]
  · simp [loseExchange, apply_ite State.tn, apply_ite TN.free]
  · simp [loseExchange, apply_ite State.ca, apply_ite CA.fixed]
  · simp [loseExchange, apply_ite State.ca, apply_ite CA.fixedCounts]
  · simp [loseExchange, apply_ite State.tm, apply_ite TM.time]

@[simp] theorem loseExchange_frame_4 (s : State) :
    (loseExchange s).tm.config = s.tm.config ∧ (loseExchange s).tm.current = s.tm.current ∧
    (loseExchange s).tm.before = s.tm.before ∧ (loseExchange s).tm.window = s.tm.window ∧
    (loseExchange s).tm.integrator = s.tm.integrator ∧ (loseExchange s).tm.sequence = s.tm.sequence ∧
    (loseExchange s).st.errored = s.st.errored ∧ (loseExchange s).st.bits = s.st.bits := by
  refine ⟨?_, ?_, ?_, ?_, ?_, ?_, ?_, ?_⟩
  · simp [loseExchange, apply_ite State.tm, apply_ite TM.config]
  · simp [loseExchange, apply_ite State.tm, apply_ite TM.current]
  · simp [loseExchange, apply_ite State.tm, apply_ite TM.before]
  · simp [loseExchange, apply_ite State.tm, apply_ite TM.window]
  · simp [loseExchange, apply_ite State.tm, apply_ite TM.integrator]
  · simp [loseExchange, apply_ite State.tm, apply_ite TM.sequence]
  · simp [loseExchange, apply_ite State.st, apply_ite ST.errored]
  · simp [loseExchange, apply_ite State.st, apply_ite ST.bits]

@[simp] theorem loseExchange_frame_5 (s : State) :
    (loseExchange s).st.kind = s.st.kind ∧ (loseExchange s).st.frames = s.st.frames ∧
    (loseExchange s).st.test = s.st.test ∧ (loseExchange s).cb.snapshot = s.cb.snapshot ∧
    (loseExchange s).cb.valid = s.cb.valid ∧ (loseExchange s).cb.capture = s.cb.capture ∧
    (loseExchange s).cb.pending = s.cb.pending ∧ (loseExchange s).cb.captureDue = s.cb.captureDue := by
  refine ⟨?_, ?_, ?_, ?_, ?_, ?_, ?_, ?_⟩
  · simp [loseExchange, apply_ite State.st, apply_ite ST.kind]
  · simp [loseExchange, apply_ite State.st, apply_ite ST.frames]
  · simp [loseExchange, apply_ite State.st, apply_ite ST.test]
  · simp [loseExchange, apply_ite State.cb, apply_ite CB.snapshot]
  · simp [loseExchange, apply_ite State.cb, apply_ite CB.valid]
  · simp [loseExchange, apply_ite State.cb, apply_ite CB.capture]
  · simp [loseExchange, apply_ite State.cb, apply_ite CB.pending]
  · simp [loseExchange, apply_ite State.cb, apply_ite CB.captureDue]

@[simp] theorem loseExchange_frame_6 (s : State) :
    (loseExchange s).cb.live.tenants = s.cb.live.tenants ∧ (loseExchange s).cb.live.test = s.cb.live.test ∧
    (loseExchange s).cp.rate = s.cp.rate ∧ (loseExchange s).cp.receiver = s.cp.receiver ∧
    (loseExchange s).cp.buffer = s.cp.buffer ∧ (loseExchange s).cp.service = s.cp.service ∧
    (loseExchange s).cp.attention = s.cp.attention ∧ (loseExchange s).cp.resetDue = s.cp.resetDue := by
  refine ⟨?_, ?_, ?_, ?_, ?_, ?_, ?_, ?_⟩
  · simp [loseExchange, apply_ite State.cb, apply_ite CB.live, apply_ite Bank.tenants]
  · simp [loseExchange, apply_ite State.cb, apply_ite CB.live, apply_ite Bank.test]
  · simp [loseExchange, apply_ite State.cp, apply_ite CP.rate]
  · simp [loseExchange, apply_ite State.cp, apply_ite CP.receiver]
  · simp [loseExchange, apply_ite State.cp, apply_ite CP.buffer]
  · simp [loseExchange, apply_ite State.cp, apply_ite CP.service]
  · simp [loseExchange, apply_ite State.cp, apply_ite CP.attention]
  · simp [loseExchange, apply_ite State.cp, apply_ite CP.resetDue]

/-! `answerExchange` -/

@[simp] theorem answerExchange_frame (x : Exchange) (a b : Nat) (p q : PlanNo) (r : FrameStart) (s : State) :
    (answerExchange x a b p q r s).sf = s.sf ∧ (answerExchange x a b p q r s).pending = s.pending ∧
    (answerExchange x a b p q r s).mp.frame = s.mp.frame ∧
    (answerExchange x a b p q r s).mp.composed = s.mp.composed ∧
    (answerExchange x a b p q r s).mp.rxTaken = s.mp.rxTaken ∧ (answerExchange x a b p q r s).mp.tx = s.mp.tx ∧
    (answerExchange x a b p q r s).mp.txBefore = s.mp.txBefore ∧
    (answerExchange x a b p q r s).mp.loopback = s.mp.loopback := by
  refine ⟨?_, ?_, ?_, ?_, ?_, ?_, ?_, ?_⟩
  · simp [answerExchange, apply_ite State.sf]
  · simp [answerExchange, apply_ite State.pending]
  · simp [answerExchange, apply_ite State.mp, apply_ite MP.frame]
  · simp [answerExchange, apply_ite State.mp, apply_ite MP.composed]
  · simp [answerExchange, apply_ite State.mp, apply_ite MP.rxTaken]
  · simp [answerExchange, apply_ite State.mp, apply_ite MP.tx]
  · simp [answerExchange, apply_ite State.mp, apply_ite MP.txBefore]
  · simp [answerExchange, apply_ite State.mp, apply_ite MP.loopback]

@[simp] theorem answerExchange_frame_2 (x : Exchange) (a b : Nat) (p q : PlanNo) (r : FrameStart) (s : State) :
    (answerExchange x a b p q r s).ps.active = s.ps.active ∧
    (answerExchange x a b p q r s).ps.fallback = s.ps.fallback ∧
    (answerExchange x a b p q r s).ps.previous = s.ps.previous ∧
    (answerExchange x a b p q r s).ps.idleDue = s.ps.idleDue ∧
    (answerExchange x a b p q r s).mc.restart = s.mc.restart ∧ (answerExchange x a b p q r s).mc.inbox = s.mc.inbox ∧
    (answerExchange x a b p q r s).mc.flagCount = s.mc.flagCount ∧ (answerExchange x a b p q r s).lc.role = s.lc.role := by
  refine ⟨?_, ?_, ?_, ?_, ?_, ?_, ?_, ?_⟩
  · simp [answerExchange, apply_ite State.ps, apply_ite PS.active]
  · simp [answerExchange, apply_ite State.ps, apply_ite PS.fallback]
  · simp [answerExchange, apply_ite State.ps, apply_ite PS.previous]
  · simp [answerExchange, apply_ite State.ps, apply_ite PS.idleDue]
  · simp [answerExchange, apply_ite State.mc, apply_ite MC.restart]
  · simp [answerExchange, apply_ite State.mc, apply_ite MC.inbox]
  · simp [answerExchange, apply_ite State.mc, apply_ite MC.flagCount]
  · simp [answerExchange, apply_ite State.lc, apply_ite LC.role]

@[simp] theorem answerExchange_frame_3 (x : Exchange) (a b : Nat) (p q : PlanNo) (r : FrameStart) (s : State) :
    (answerExchange x a b p q r s).lc.identity = s.lc.identity ∧ (answerExchange x a b p q r s).lc.stop = s.lc.stop ∧
    (answerExchange x a b p q r s).lc.history = s.lc.history ∧
    (answerExchange x a b p q r s).lc.hostMax = s.lc.hostMax ∧ (answerExchange x a b p q r s).tn.free = s.tn.free ∧
    (answerExchange x a b p q r s).ca.fixed = s.ca.fixed ∧
    (answerExchange x a b p q r s).ca.fixedCounts = s.ca.fixedCounts ∧
    (answerExchange x a b p q r s).tm.config = s.tm.config := by
  refine ⟨?_, ?_, ?_, ?_, ?_, ?_, ?_, ?_⟩
  · simp [answerExchange, apply_ite State.lc, apply_ite LC.identity]
  · simp [answerExchange, apply_ite State.lc, apply_ite LC.stop]
  · simp [answerExchange, apply_ite State.lc, apply_ite LC.history]
  · simp [answerExchange, apply_ite State.lc, apply_ite LC.hostMax]
  · simp [answerExchange, apply_ite State.tn, apply_ite TN.free]
  · simp [answerExchange, apply_ite State.ca, apply_ite CA.fixed]
  · simp [answerExchange, apply_ite State.ca, apply_ite CA.fixedCounts]
  · simp [answerExchange, apply_ite State.tm, apply_ite TM.config]

@[simp] theorem answerExchange_frame_4 (x : Exchange) (a b : Nat) (p q : PlanNo) (r : FrameStart) (s : State) :
    (answerExchange x a b p q r s).tm.current = s.tm.current ∧
    (answerExchange x a b p q r s).tm.before = s.tm.before ∧
    (answerExchange x a b p q r s).tm.sequence = s.tm.sequence ∧
    (answerExchange x a b p q r s).st.errored = s.st.errored ∧ (answerExchange x a b p q r s).st.bits = s.st.bits ∧
    (answerExchange x a b p q r s).st.kind = s.st.kind ∧ (answerExchange x a b p q r s).st.frames = s.st.frames ∧
    (answerExchange x a b p q r s).st.test = s.st.test := by
  refine ⟨?_, ?_, ?_, ?_, ?_, ?_, ?_, ?_⟩
  · simp [answerExchange, apply_ite State.tm, apply_ite TM.current]
  · simp [answerExchange, apply_ite State.tm, apply_ite TM.before]
  · simp [answerExchange, apply_ite State.tm, apply_ite TM.sequence]
  · simp [answerExchange, apply_ite State.st, apply_ite ST.errored]
  · simp [answerExchange, apply_ite State.st, apply_ite ST.bits]
  · simp [answerExchange, apply_ite State.st, apply_ite ST.kind]
  · simp [answerExchange, apply_ite State.st, apply_ite ST.frames]
  · simp [answerExchange, apply_ite State.st, apply_ite ST.test]

@[simp] theorem answerExchange_frame_5 (x : Exchange) (a b : Nat) (p q : PlanNo) (r : FrameStart) (s : State) :
    (answerExchange x a b p q r s).cb.snapshot = s.cb.snapshot ∧
    (answerExchange x a b p q r s).cb.valid = s.cb.valid ∧ (answerExchange x a b p q r s).cb.capture = s.cb.capture ∧
    (answerExchange x a b p q r s).cb.pending = s.cb.pending ∧
    (answerExchange x a b p q r s).cb.captureDue = s.cb.captureDue ∧
    (answerExchange x a b p q r s).cb.live.tenants = s.cb.live.tenants ∧
    (answerExchange x a b p q r s).cb.live.test = s.cb.live.test ∧ (answerExchange x a b p q r s).cp.rate = s.cp.rate := by
  refine ⟨?_, ?_, ?_, ?_, ?_, ?_, ?_, ?_⟩
  · simp [answerExchange, apply_ite State.cb, apply_ite CB.snapshot]
  · simp [answerExchange, apply_ite State.cb, apply_ite CB.valid]
  · simp [answerExchange, apply_ite State.cb, apply_ite CB.capture]
  · simp [answerExchange, apply_ite State.cb, apply_ite CB.pending]
  · simp [answerExchange, apply_ite State.cb, apply_ite CB.captureDue]
  · simp [answerExchange, apply_ite State.cb, apply_ite CB.live, apply_ite Bank.tenants]
  · simp [answerExchange, apply_ite State.cb, apply_ite CB.live, apply_ite Bank.test]
  · simp [answerExchange, apply_ite State.cp, apply_ite CP.rate]

@[simp] theorem answerExchange_frame_6 (x : Exchange) (a b : Nat) (p q : PlanNo) (r : FrameStart) (s : State) :
    (answerExchange x a b p q r s).cp.receiver = s.cp.receiver ∧
    (answerExchange x a b p q r s).cp.buffer = s.cp.buffer ∧
    (answerExchange x a b p q r s).cp.service = s.cp.service ∧
    (answerExchange x a b p q r s).cp.attention = s.cp.attention ∧
    (answerExchange x a b p q r s).cp.resetDue = s.cp.resetDue := by
  refine ⟨?_, ?_, ?_, ?_, ?_⟩
  · simp [answerExchange, apply_ite State.cp, apply_ite CP.receiver]
  · simp [answerExchange, apply_ite State.cp, apply_ite CP.buffer]
  · simp [answerExchange, apply_ite State.cp, apply_ite CP.service]
  · simp [answerExchange, apply_ite State.cp, apply_ite CP.attention]
  · simp [answerExchange, apply_ite State.cp, apply_ite CP.resetDue]

/-! `takeTimeResponse` -/

@[simp] theorem takeTimeResponse_frame (q : Byte) (a b : Nat) (p r : PlanNo) (t : Bool) (s : State) :
    (takeTimeResponse q a b p r t s).sf = s.sf ∧ (takeTimeResponse q a b p r t s).pending = s.pending ∧
    (takeTimeResponse q a b p r t s).mp.frame = s.mp.frame ∧
    (takeTimeResponse q a b p r t s).mp.composed = s.mp.composed ∧
    (takeTimeResponse q a b p r t s).mp.rxTaken = s.mp.rxTaken ∧ (takeTimeResponse q a b p r t s).mp.tx = s.mp.tx ∧
    (takeTimeResponse q a b p r t s).mp.txBefore = s.mp.txBefore ∧
    (takeTimeResponse q a b p r t s).mp.loopback = s.mp.loopback := by
  refine ⟨?_, ?_, ?_, ?_, ?_, ?_, ?_, ?_⟩ <;>
    (simp only [takeTimeResponse]; (repeat' split) <;> simp_all)

@[simp] theorem takeTimeResponse_frame_2 (q : Byte) (a b : Nat) (p r : PlanNo) (t : Bool) (s : State) :
    (takeTimeResponse q a b p r t s).ps.active = s.ps.active ∧
    (takeTimeResponse q a b p r t s).ps.fallback = s.ps.fallback ∧
    (takeTimeResponse q a b p r t s).ps.previous = s.ps.previous ∧
    (takeTimeResponse q a b p r t s).ps.idleDue = s.ps.idleDue ∧
    (takeTimeResponse q a b p r t s).mc.restart = s.mc.restart ∧
    (takeTimeResponse q a b p r t s).mc.inbox = s.mc.inbox ∧
    (takeTimeResponse q a b p r t s).mc.flagCount = s.mc.flagCount ∧
    (takeTimeResponse q a b p r t s).lc.role = s.lc.role := by
  refine ⟨?_, ?_, ?_, ?_, ?_, ?_, ?_, ?_⟩ <;>
    (simp only [takeTimeResponse]; (repeat' split) <;> simp_all)

@[simp] theorem takeTimeResponse_frame_3 (q : Byte) (a b : Nat) (p r : PlanNo) (t : Bool) (s : State) :
    (takeTimeResponse q a b p r t s).lc.identity = s.lc.identity ∧
    (takeTimeResponse q a b p r t s).lc.stop = s.lc.stop ∧
    (takeTimeResponse q a b p r t s).lc.history = s.lc.history ∧
    (takeTimeResponse q a b p r t s).lc.hostMax = s.lc.hostMax ∧
    (takeTimeResponse q a b p r t s).tn.free = s.tn.free ∧ (takeTimeResponse q a b p r t s).ca.fixed = s.ca.fixed ∧
    (takeTimeResponse q a b p r t s).ca.fixedCounts = s.ca.fixedCounts ∧
    (takeTimeResponse q a b p r t s).tm.config = s.tm.config := by
  refine ⟨?_, ?_, ?_, ?_, ?_, ?_, ?_, ?_⟩ <;>
    (simp only [takeTimeResponse]; (repeat' split) <;> simp_all)

@[simp] theorem takeTimeResponse_frame_4 (q : Byte) (a b : Nat) (p r : PlanNo) (t : Bool) (s : State) :
    (takeTimeResponse q a b p r t s).tm.current = s.tm.current ∧
    (takeTimeResponse q a b p r t s).tm.before = s.tm.before ∧
    (takeTimeResponse q a b p r t s).tm.sequence = s.tm.sequence ∧
    (takeTimeResponse q a b p r t s).st.errored = s.st.errored ∧
    (takeTimeResponse q a b p r t s).st.bits = s.st.bits ∧ (takeTimeResponse q a b p r t s).st.kind = s.st.kind ∧
    (takeTimeResponse q a b p r t s).st.frames = s.st.frames ∧ (takeTimeResponse q a b p r t s).st.test = s.st.test := by
  refine ⟨?_, ?_, ?_, ?_, ?_, ?_, ?_, ?_⟩ <;>
    (simp only [takeTimeResponse]; (repeat' split) <;> simp_all)

@[simp] theorem takeTimeResponse_frame_5 (q : Byte) (a b : Nat) (p r : PlanNo) (t : Bool) (s : State) :
    (takeTimeResponse q a b p r t s).cb.snapshot = s.cb.snapshot ∧
    (takeTimeResponse q a b p r t s).cb.valid = s.cb.valid ∧
    (takeTimeResponse q a b p r t s).cb.capture = s.cb.capture ∧
    (takeTimeResponse q a b p r t s).cb.pending = s.cb.pending ∧
    (takeTimeResponse q a b p r t s).cb.captureDue = s.cb.captureDue ∧
    (takeTimeResponse q a b p r t s).cb.live.tenants = s.cb.live.tenants ∧
    (takeTimeResponse q a b p r t s).cb.live.test = s.cb.live.test ∧
    (takeTimeResponse q a b p r t s).cp.rate = s.cp.rate := by
  refine ⟨?_, ?_, ?_, ?_, ?_, ?_, ?_, ?_⟩ <;>
    (simp only [takeTimeResponse]; (repeat' split) <;> simp_all)

@[simp] theorem takeTimeResponse_frame_6 (q : Byte) (a b : Nat) (p r : PlanNo) (t : Bool) (s : State) :
    (takeTimeResponse q a b p r t s).cp.receiver = s.cp.receiver ∧
    (takeTimeResponse q a b p r t s).cp.buffer = s.cp.buffer ∧
    (takeTimeResponse q a b p r t s).cp.service = s.cp.service ∧
    (takeTimeResponse q a b p r t s).cp.attention = s.cp.attention ∧
    (takeTimeResponse q a b p r t s).cp.resetDue = s.cp.resetDue := by
  refine ⟨?_, ?_, ?_, ?_, ?_⟩ <;>
    (simp only [takeTimeResponse]; (repeat' split) <;> simp_all)

/-! `takeTimeRequest` -/

@[simp] theorem takeTimeRequest_frame (q : Byte) (s : State) :
    (takeTimeRequest q s).mp = s.mp ∧ (takeTimeRequest q s).sf = s.sf ∧ (takeTimeRequest q s).ps = s.ps ∧
    (takeTimeRequest q s).lc = s.lc ∧ (takeTimeRequest q s).tn = s.tn ∧ (takeTimeRequest q s).ca = s.ca ∧
    (takeTimeRequest q s).tm = s.tm ∧ (takeTimeRequest q s).st = s.st := by
  refine ⟨?_, ?_, ?_, ?_, ?_, ?_, ?_, ?_⟩ <;>
    (unfold takeTimeRequest; split <;> simp)

@[simp] theorem takeTimeRequest_frame_2 (q : Byte) (s : State) :
    (takeTimeRequest q s).cp = s.cp ∧ (takeTimeRequest q s).pending = s.pending ∧
    (takeTimeRequest q s).mc.restart = s.mc.restart ∧ (takeTimeRequest q s).mc.inbox = s.mc.inbox ∧
    (takeTimeRequest q s).mc.flagCount = s.mc.flagCount ∧ (takeTimeRequest q s).cb.snapshot = s.cb.snapshot ∧
    (takeTimeRequest q s).cb.valid = s.cb.valid ∧ (takeTimeRequest q s).cb.capture = s.cb.capture := by
  refine ⟨?_, ?_, ?_, ?_, ?_, ?_, ?_, ?_⟩ <;>
    (unfold takeTimeRequest; split <;> simp)

@[simp] theorem takeTimeRequest_frame_3 (q : Byte) (s : State) :
    (takeTimeRequest q s).cb.pending = s.cb.pending ∧ (takeTimeRequest q s).cb.captureDue = s.cb.captureDue ∧
    (takeTimeRequest q s).cb.live.tenants = s.cb.live.tenants ∧ (takeTimeRequest q s).cb.live.test = s.cb.live.test := by
  refine ⟨?_, ?_, ?_, ?_⟩ <;>
    (unfold takeTimeRequest; split <;> simp)

/-! `timePlaced` -/

@[simp] theorem timePlaced_frame (m : LinkMessage) (r : FrameStart) (s : State) :
    (timePlaced m r s).mp = s.mp ∧ (timePlaced m r s).sf = s.sf ∧ (timePlaced m r s).ps = s.ps ∧
    (timePlaced m r s).mc = s.mc ∧ (timePlaced m r s).lc = s.lc ∧ (timePlaced m r s).tn = s.tn ∧
    (timePlaced m r s).ca = s.ca ∧ (timePlaced m r s).st = s.st ∧ (timePlaced m r s).cb = s.cb ∧
    (timePlaced m r s).cp = s.cp ∧ (timePlaced m r s).pending = s.pending := by
  refine ⟨?_, ?_, ?_, ?_, ?_, ?_, ?_, ?_, ?_, ?_, ?_⟩ <;>
    (unfold timePlaced; (repeat' split) <;> simp)

@[simp] theorem timePlaced_frame_2 (m : LinkMessage) (r : FrameStart) (s : State) :
    (timePlaced m r s).tm.time = s.tm.time ∧ (timePlaced m r s).tm.state = s.tm.state ∧
    (timePlaced m r s).tm.expired = s.tm.expired ∧ (timePlaced m r s).tm.config = s.tm.config ∧
    (timePlaced m r s).tm.steer = s.tm.steer ∧ (timePlaced m r s).tm.pps = s.tm.pps ∧
    (timePlaced m r s).tm.current = s.tm.current ∧ (timePlaced m r s).tm.before = s.tm.before ∧
    (timePlaced m r s).tm.window = s.tm.window ∧ (timePlaced m r s).tm.integrator = s.tm.integrator ∧
    (timePlaced m r s).tm.sequence = s.tm.sequence := by
  refine ⟨?_, ?_, ?_, ?_, ?_, ?_, ?_, ?_, ?_, ?_, ?_⟩ <;>
    (unfold timePlaced; (repeat' split) <;> simp)

/-! `alignTime` -/

@[simp] theorem alignTime_frame (r : Option (BitVec 32)) (s : State) :
    (alignTime r s).mp = s.mp ∧ (alignTime r s).sf = s.sf ∧ (alignTime r s).ps = s.ps ∧ (alignTime r s).mc = s.mc ∧
    (alignTime r s).lc = s.lc ∧ (alignTime r s).tn = s.tn ∧ (alignTime r s).ca = s.ca ∧ (alignTime r s).st = s.st ∧
    (alignTime r s).cb = s.cb ∧ (alignTime r s).cp = s.cp ∧ (alignTime r s).pending = s.pending ∧
    (alignTime r s).tm.state = s.tm.state ∧ (alignTime r s).tm.expired = s.tm.expired ∧
    (alignTime r s).tm.config = s.tm.config ∧ (alignTime r s).tm.steer = s.tm.steer ∧
    (alignTime r s).tm.pps = s.tm.pps ∧ (alignTime r s).tm.current = s.tm.current ∧
    (alignTime r s).tm.before = s.tm.before ∧ (alignTime r s).tm.window = s.tm.window ∧
    (alignTime r s).tm.integrator = s.tm.integrator ∧ (alignTime r s).tm.sequence = s.tm.sequence :=
  ⟨rfl, rfl, rfl, rfl, rfl, rfl, rfl, rfl, rfl, rfl, rfl, rfl, rfl, rfl, rfl, rfl, rfl, rfl, rfl, rfl, rfl⟩

/-! `judgePulse` -/

@[simp] theorem judgePulse_frame (r : Option (BitVec 32)) (s : State) :
    (judgePulse r s).sf = s.sf ∧ (judgePulse r s).pending = s.pending ∧ (judgePulse r s).mp.frame = s.mp.frame ∧
    (judgePulse r s).mp.composed = s.mp.composed ∧ (judgePulse r s).mp.rxTaken = s.mp.rxTaken ∧
    (judgePulse r s).mp.tx = s.mp.tx ∧ (judgePulse r s).mp.txBefore = s.mp.txBefore ∧
    (judgePulse r s).mp.loopback = s.mp.loopback := by
  refine ⟨?_, ?_, ?_, ?_, ?_, ?_, ?_, ?_⟩ <;>
    (simp only [judgePulse]; (repeat' split) <;> simp_all)

@[simp] theorem judgePulse_frame_2 (r : Option (BitVec 32)) (s : State) :
    (judgePulse r s).ps.active = s.ps.active ∧ (judgePulse r s).ps.fallback = s.ps.fallback ∧
    (judgePulse r s).ps.previous = s.ps.previous ∧ (judgePulse r s).ps.idleDue = s.ps.idleDue ∧
    (judgePulse r s).mc.restart = s.mc.restart ∧ (judgePulse r s).mc.inbox = s.mc.inbox ∧
    (judgePulse r s).mc.flagCount = s.mc.flagCount ∧ (judgePulse r s).lc.role = s.lc.role := by
  refine ⟨?_, ?_, ?_, ?_, ?_, ?_, ?_, ?_⟩ <;>
    (simp only [judgePulse]; (repeat' split) <;> simp_all)

@[simp] theorem judgePulse_frame_3 (r : Option (BitVec 32)) (s : State) :
    (judgePulse r s).lc.identity = s.lc.identity ∧ (judgePulse r s).lc.stop = s.lc.stop ∧
    (judgePulse r s).lc.history = s.lc.history ∧ (judgePulse r s).lc.hostMax = s.lc.hostMax ∧
    (judgePulse r s).tn.free = s.tn.free ∧ (judgePulse r s).ca.fixed = s.ca.fixed ∧
    (judgePulse r s).ca.fixedCounts = s.ca.fixedCounts ∧ (judgePulse r s).tm.expired = s.tm.expired := by
  refine ⟨?_, ?_, ?_, ?_, ?_, ?_, ?_, ?_⟩ <;>
    (simp only [judgePulse]; (repeat' split) <;> simp_all)

@[simp] theorem judgePulse_frame_4 (r : Option (BitVec 32)) (s : State) :
    (judgePulse r s).tm.config = s.tm.config ∧ (judgePulse r s).tm.steer = s.tm.steer ∧
    (judgePulse r s).tm.current = s.tm.current ∧ (judgePulse r s).tm.before = s.tm.before ∧
    (judgePulse r s).tm.window = s.tm.window ∧ (judgePulse r s).tm.integrator = s.tm.integrator ∧
    (judgePulse r s).tm.sequence = s.tm.sequence ∧ (judgePulse r s).st.errored = s.st.errored := by
  refine ⟨?_, ?_, ?_, ?_, ?_, ?_, ?_, ?_⟩ <;>
    (simp only [judgePulse]; (repeat' split) <;> simp_all)

@[simp] theorem judgePulse_frame_5 (r : Option (BitVec 32)) (s : State) :
    (judgePulse r s).st.bits = s.st.bits ∧ (judgePulse r s).st.kind = s.st.kind ∧
    (judgePulse r s).st.frames = s.st.frames ∧ (judgePulse r s).st.test = s.st.test ∧
    (judgePulse r s).cb.snapshot = s.cb.snapshot ∧ (judgePulse r s).cb.valid = s.cb.valid ∧
    (judgePulse r s).cb.capture = s.cb.capture ∧ (judgePulse r s).cb.pending = s.cb.pending := by
  refine ⟨?_, ?_, ?_, ?_, ?_, ?_, ?_, ?_⟩ <;>
    (simp only [judgePulse]; (repeat' split) <;> simp_all)

@[simp] theorem judgePulse_frame_6 (r : Option (BitVec 32)) (s : State) :
    (judgePulse r s).cb.captureDue = s.cb.captureDue ∧ (judgePulse r s).cb.live.tenants = s.cb.live.tenants ∧
    (judgePulse r s).cb.live.test = s.cb.live.test ∧ (judgePulse r s).cp.rate = s.cp.rate ∧
    (judgePulse r s).cp.receiver = s.cp.receiver ∧ (judgePulse r s).cp.buffer = s.cp.buffer ∧
    (judgePulse r s).cp.service = s.cp.service ∧ (judgePulse r s).cp.attention = s.cp.attention := by
  refine ⟨?_, ?_, ?_, ?_, ?_, ?_, ?_, ?_⟩ <;>
    (simp only [judgePulse]; (repeat' split) <;> simp_all)

@[simp] theorem judgePulse_frame_7 (r : Option (BitVec 32)) (s : State) :
    (judgePulse r s).cp.resetDue = s.cp.resetDue := by
  simp only [judgePulse]; (repeat' split) <;> simp_all

/-! `expireHoldover` -/

@[simp] theorem expireHoldover_frame (s : State) :
    (expireHoldover s).sf = s.sf ∧ (expireHoldover s).pending = s.pending ∧ (expireHoldover s).mp.frame = s.mp.frame ∧
    (expireHoldover s).mp.composed = s.mp.composed ∧ (expireHoldover s).mp.rxTaken = s.mp.rxTaken ∧
    (expireHoldover s).mp.tx = s.mp.tx ∧ (expireHoldover s).mp.txBefore = s.mp.txBefore ∧
    (expireHoldover s).mp.loopback = s.mp.loopback := by
  refine ⟨?_, ?_, ?_, ?_, ?_, ?_, ?_, ?_⟩ <;>
    simp [expireHoldover]

@[simp] theorem expireHoldover_frame_2 (s : State) :
    (expireHoldover s).ps.active = s.ps.active ∧ (expireHoldover s).ps.fallback = s.ps.fallback ∧
    (expireHoldover s).ps.previous = s.ps.previous ∧ (expireHoldover s).ps.idleDue = s.ps.idleDue ∧
    (expireHoldover s).mc.restart = s.mc.restart ∧ (expireHoldover s).mc.inbox = s.mc.inbox ∧
    (expireHoldover s).mc.flagCount = s.mc.flagCount ∧ (expireHoldover s).lc.role = s.lc.role := by
  refine ⟨?_, ?_, ?_, ?_, ?_, ?_, ?_, ?_⟩ <;>
    simp [expireHoldover]

@[simp] theorem expireHoldover_frame_3 (s : State) :
    (expireHoldover s).lc.identity = s.lc.identity ∧ (expireHoldover s).lc.stop = s.lc.stop ∧
    (expireHoldover s).lc.history = s.lc.history ∧ (expireHoldover s).lc.hostMax = s.lc.hostMax ∧
    (expireHoldover s).tn.free = s.tn.free ∧ (expireHoldover s).ca.fixed = s.ca.fixed ∧
    (expireHoldover s).ca.fixedCounts = s.ca.fixedCounts ∧ (expireHoldover s).tm.time = s.tm.time := by
  refine ⟨?_, ?_, ?_, ?_, ?_, ?_, ?_, ?_⟩ <;>
    simp [expireHoldover]

@[simp] theorem expireHoldover_frame_4 (s : State) :
    (expireHoldover s).tm.state = s.tm.state ∧ (expireHoldover s).tm.config = s.tm.config ∧
    (expireHoldover s).tm.steer = s.tm.steer ∧ (expireHoldover s).tm.current = s.tm.current ∧
    (expireHoldover s).tm.before = s.tm.before ∧ (expireHoldover s).tm.window = s.tm.window ∧
    (expireHoldover s).tm.integrator = s.tm.integrator ∧ (expireHoldover s).tm.sequence = s.tm.sequence := by
  refine ⟨?_, ?_, ?_, ?_, ?_, ?_, ?_, ?_⟩ <;>
    simp [expireHoldover]

@[simp] theorem expireHoldover_frame_5 (s : State) :
    (expireHoldover s).st.errored = s.st.errored ∧ (expireHoldover s).st.bits = s.st.bits ∧
    (expireHoldover s).st.kind = s.st.kind ∧ (expireHoldover s).st.frames = s.st.frames ∧
    (expireHoldover s).st.test = s.st.test ∧ (expireHoldover s).cb.snapshot = s.cb.snapshot ∧
    (expireHoldover s).cb.valid = s.cb.valid ∧ (expireHoldover s).cb.capture = s.cb.capture := by
  refine ⟨?_, ?_, ?_, ?_, ?_, ?_, ?_, ?_⟩ <;>
    simp [expireHoldover]

@[simp] theorem expireHoldover_frame_6 (s : State) :
    (expireHoldover s).cb.pending = s.cb.pending ∧ (expireHoldover s).cb.captureDue = s.cb.captureDue ∧
    (expireHoldover s).cb.live.tenants = s.cb.live.tenants ∧ (expireHoldover s).cb.live.timing = s.cb.live.timing ∧
    (expireHoldover s).cb.live.test = s.cb.live.test ∧ (expireHoldover s).cp.rate = s.cp.rate ∧
    (expireHoldover s).cp.receiver = s.cp.receiver ∧ (expireHoldover s).cp.buffer = s.cp.buffer := by
  refine ⟨?_, ?_, ?_, ?_, ?_, ?_, ?_, ?_⟩ <;>
    simp [expireHoldover]

@[simp] theorem expireHoldover_frame_7 (s : State) :
    (expireHoldover s).cp.service = s.cp.service ∧ (expireHoldover s).cp.attention = s.cp.attention ∧
    (expireHoldover s).cp.resetDue = s.cp.resetDue := by
  refine ⟨?_, ?_, ?_⟩ <;>
    simp [expireHoldover]

end Sys2Proof.Machine
end

