-- ==== Sys2Proof/Laws/Link.lean ====
section
/-! SUPPORT. What the entries of the link states, the plan changes and the due changes leave alone. -/

set_option linter.unusedSimpArgs false

namespace Sys2Proof.Machine

/-! `finishRestart` -/

@[simp] theorem finishRestart_frame (s : State) :
    (finishRestart s).mp = s.mp ∧ (finishRestart s).sf = s.sf ∧ (finishRestart s).ps = s.ps ∧
    (finishRestart s).tn = s.tn ∧ (finishRestart s).ca = s.ca ∧ (finishRestart s).tm = s.tm ∧
    (finishRestart s).st = s.st ∧ (finishRestart s).pending = s.pending := by
  refine ⟨?_, ?_, ?_, ?_, ?_, ?_, ?_, ?_⟩ <;>
    (unfold finishRestart; split <;> simp)

@[simp] theorem finishRestart_frame_2 (s : State) :
    (finishRestart s).mc.inbox = s.mc.inbox ∧ (finishRestart s).mc.flagCount = s.mc.flagCount ∧
    (finishRestart s).lc.role = s.lc.role ∧ (finishRestart s).lc.identity = s.lc.identity ∧
    (finishRestart s).lc.link = s.lc.link ∧ (finishRestart s).lc.stop = s.lc.stop ∧
    (finishRestart s).lc.history = s.lc.history ∧ (finishRestart s).lc.hostMax = s.lc.hostMax := by
  refine ⟨?_, ?_, ?_, ?_, ?_, ?_, ?_, ?_⟩ <;>
    (unfold finishRestart; split <;> simp)

@[simp] theorem finishRestart_frame_3 (s : State) :
    (finishRestart s).cb.snapshot = s.cb.snapshot ∧ (finishRestart s).cb.valid = s.cb.valid ∧
    (finishRestart s).cb.capture = s.cb.capture ∧ (finishRestart s).cb.pending = s.cb.pending ∧
    (finishRestart s).cb.captureDue = s.cb.captureDue ∧ (finishRestart s).cb.live.tenants = s.cb.live.tenants ∧
    (finishRestart s).cb.live.timing = s.cb.live.timing ∧ (finishRestart s).cb.live.test = s.cb.live.test := by
  refine ⟨?_, ?_, ?_, ?_, ?_, ?_, ?_, ?_⟩ <;>
    (unfold finishRestart; split <;> simp)

@[simp] theorem finishRestart_frame_4 (s : State) :
    (finishRestart s).cp.rate = s.cp.rate ∧ (finishRestart s).cp.receiver = s.cp.receiver ∧
    (finishRestart s).cp.buffer = s.cp.buffer ∧ (finishRestart s).cp.service = s.cp.service ∧
    (finishRestart s).cp.attention = s.cp.attention ∧ (finishRestart s).cp.resetDue = s.cp.resetDue := by
  refine ⟨?_, ?_, ?_, ?_, ?_, ?_⟩ <;>
    (unfold finishRestart; split <;> simp)

/-! `withdrawArea` -/

@[simp] theorem withdrawArea_frame (s : State) :
    (withdrawArea s).sf = s.sf ∧ (withdrawArea s).ps = s.ps ∧ (withdrawArea s).lc = s.lc ∧
    (withdrawArea s).tn = s.tn ∧ (withdrawArea s).ca = s.ca ∧ (withdrawArea s).tm = s.tm ∧
    (withdrawArea s).st = s.st ∧ (withdrawArea s).cp = s.cp := by
  refine ⟨?_, ?_, ?_, ?_, ?_, ?_, ?_, ?_⟩ <;>
    simp [withdrawArea]

@[simp] theorem withdrawArea_frame_2 (s : State) :
    (withdrawArea s).pending = s.pending ∧ (withdrawArea s).mp.frame = s.mp.frame ∧
    (withdrawArea s).mp.composed = s.mp.composed ∧ (withdrawArea s).mp.rxTaken = s.mp.rxTaken ∧
    (withdrawArea s).mp.txBefore = s.mp.txBefore ∧ (withdrawArea s).mp.loopSwitch = s.mp.loopSwitch ∧
    (withdrawArea s).mp.loopback = s.mp.loopback ∧ (withdrawArea s).mc.restart = s.mc.restart := by
  refine ⟨?_, ?_, ?_, ?_, ?_, ?_, ?_, ?_⟩ <;>
    simp [withdrawArea]

@[simp] theorem withdrawArea_frame_3 (s : State) :
    (withdrawArea s).mc.inbox = s.mc.inbox ∧ (withdrawArea s).mc.flagCount = s.mc.flagCount ∧
    (withdrawArea s).cb.snapshot = s.cb.snapshot ∧ (withdrawArea s).cb.valid = s.cb.valid ∧
    (withdrawArea s).cb.capture = s.cb.capture ∧ (withdrawArea s).cb.pending = s.cb.pending ∧
    (withdrawArea s).cb.captureDue = s.cb.captureDue ∧ (withdrawArea s).cb.live.tenants = s.cb.live.tenants := by
  refine ⟨?_, ?_, ?_, ?_, ?_, ?_, ?_, ?_⟩ <;>
    simp [withdrawArea]

@[simp] theorem withdrawArea_frame_4 (s : State) :
    (withdrawArea s).cb.live.test = s.cb.live.test := by
  simp [withdrawArea]

/-! `restartChannel` -/

@[simp] theorem restartChannel_frame (h : Option LinkMessage) (b : Bool) (s : State) :
    (restartChannel h b s).sf = s.sf ∧ (restartChannel h b s).ps = s.ps ∧ (restartChannel h b s).tn = s.tn ∧
    (restartChannel h b s).ca = s.ca ∧ (restartChannel h b s).tm = s.tm ∧ (restartChannel h b s).pending = s.pending ∧
    (restartChannel h b s).mp.frame = s.mp.frame ∧ (restartChannel h b s).mp.composed = s.mp.composed := by
  refine ⟨?_, ?_, ?_, ?_, ?_, ?_, ?_, ?_⟩
  · simp [restartChannel, apply_ite State.sf]
  · simp [restartChannel, apply_ite State.ps]
  · simp [restartChannel, apply_ite State.tn]
  · simp [restartChannel, apply_ite State.ca]
  · simp [restartChannel, apply_ite State.tm]
  · simp [restartChannel, apply_ite State.pending]
  · simp [restartChannel, apply_ite State.mp, apply_ite MP.frame]
  · simp [restartChannel, apply_ite State.mp, apply_ite MP.composed]

@[simp] theorem restartChannel_frame_2 (h : Option LinkMessage) (b : Bool) (s : State) :
    (restartChannel h b s).mp.rxTaken = s.mp.rxTaken ∧ (restartChannel h b s).mp.txBefore = s.mp.txBefore ∧
    (restartChannel h b s).mp.loopSwitch = s.mp.loopSwitch ∧ (restartChannel h b s).mp.loopback = s.mp.loopback ∧
    (restartChannel h b s).mc.inbox = s.mc.inbox ∧ (restartChannel h b s).mc.flagCount = s.mc.flagCount ∧
    (restartChannel h b s).lc.role = s.lc.role ∧ (restartChannel h b s).lc.identity = s.lc.identity := by
  refine ⟨?_, ?_, ?_, ?_, ?_, ?_, ?_, ?_⟩
  · simp [restartChannel, apply_ite State.mp, apply_ite MP.rxTaken]
  · simp [restartChannel, apply_ite State.mp, apply_ite MP.txBefore]
  · simp [restartChannel, apply_ite State.mp, apply_ite MP.loopSwitch]
  · simp [restartChannel, apply_ite State.mp, apply_ite MP.loopback]
  · simp [restartChannel, apply_ite State.mc, apply_ite MC.inbox]
  · simp [restartChannel, apply_ite State.mc, apply_ite MC.flagCount]
  · simp [restartChannel, apply_ite State.lc, apply_ite LC.role]
  · simp [restartChannel, apply_ite State.lc, apply_ite LC.identity]

@[simp] theorem restartChannel_frame_3 (h : Option LinkMessage) (b : Bool) (s : State) :
    (restartChannel h b s).lc.link = s.lc.link ∧ (restartChannel h b s).lc.stop = s.lc.stop ∧
    (restartChannel h b s).lc.history = s.lc.history ∧ (restartChannel h b s).lc.hostMax = s.lc.hostMax ∧
    (restartChannel h b s).st.errored = s.st.errored ∧ (restartChannel h b s).st.bits = s.st.bits ∧
    (restartChannel h b s).st.commissioned = s.st.commissioned ∧ (restartChannel h b s).st.kind = s.st.kind := by
  refine ⟨?_, ?_, ?_, ?_, ?_, ?_, ?_, ?_⟩
  · simp [restartChannel, apply_ite State.lc, apply_ite LC.link]
  · simp [restartChannel, apply_ite State.lc, apply_ite LC.stop]
  · simp [restartChannel, apply_ite State.lc, apply_ite LC.history]
  · simp [restartChannel, apply_ite State.lc, apply_ite LC.hostMax]
  · simp [restartChannel, apply_ite State.st, apply_ite ST.errored]
  · simp [restartChannel, apply_ite State.st, apply_ite ST.bits]
  · simp [restartChannel, apply_ite State.st, apply_ite ST.commissioned]
  · simp [restartChannel, apply_ite State.st, apply_ite ST.kind]

@[simp] theorem restartChannel_frame_4 (h : Option LinkMessage) (b : Bool) (s : State) :
    (restartChannel h b s).st.frames = s.st.frames ∧ (restartChannel h b s).st.test = s.st.test ∧
    (restartChannel h b s).cb.snapshot = s.cb.snapshot ∧ (restartChannel h b s).cb.valid = s.cb.valid ∧
    (restartChannel h b s).cb.capture = s.cb.capture ∧ (restartChannel h b s).cb.pending = s.cb.pending ∧
    (restartChannel h b s).cb.captureDue = s.cb.captureDue ∧
    (restartChannel h b s).cb.live.tenants = s.cb.live.tenants := by
  refine ⟨?_, ?_, ?_, ?_, ?_, ?_, ?_, ?_⟩
  · simp [restartChannel, apply_ite State.st, apply_ite ST.frames]
  · simp [restartChannel, apply_ite State.st, apply_ite ST.test]
  · simp [restartChannel, apply_ite State.cb, apply_ite CB.snapshot]
  · simp [restartChannel, apply_ite State.cb, apply_ite CB.valid]
  · simp [restartChannel, apply_ite State.cb, apply_ite CB.capture]
  · simp [restartChannel, apply_ite State.cb, apply_ite CB.pending]
  · simp [restartChannel, apply_ite State.cb, apply_ite CB.captureDue]
  · simp [restartChannel, apply_ite State.cb, apply_ite CB.live, apply_ite Bank.tenants]

@[simp] theorem restartChannel_frame_5 (h : Option LinkMessage) (b : Bool) (s : State) :
    (restartChannel h b s).cb.live.test = s.cb.live.test ∧ (restartChannel h b s).cp.rate = s.cp.rate ∧
    (restartChannel h b s).cp.receiver = s.cp.receiver ∧ (restartChannel h b s).cp.buffer = s.cp.buffer ∧
    (restartChannel h b s).cp.service = s.cp.service ∧ (restartChannel h b s).cp.attention = s.cp.attention ∧
    (restartChannel h b s).cp.resetDue = s.cp.resetDue := by
  refine ⟨?_, ?_, ?_, ?_, ?_, ?_, ?_⟩
  · simp [restartChannel, apply_ite State.cb, apply_ite CB.live, apply_ite Bank.test]
  · simp [restartChannel, apply_ite State.cp, apply_ite CP.rate]
  · simp [restartChannel, apply_ite State.cp, apply_ite CP.receiver]
  · simp [restartChannel, apply_ite State.cp, apply_ite CP.buffer]
  · simp [restartChannel, apply_ite State.cp, apply_ite CP.service]
  · simp [restartChannel, apply_ite State.cp, apply_ite CP.attention]
  · simp [restartChannel, apply_ite State.cp, apply_ite CP.resetDue]

/-! `dropInbox` -/

@[simp] theorem dropInbox_frame (s : State) :
    (dropInbox s).mp = s.mp ∧ (dropInbox s).sf = s.sf ∧ (dropInbox s).ps = s.ps ∧ (dropInbox s).lc = s.lc ∧
    (dropInbox s).tn = s.tn ∧ (dropInbox s).ca = s.ca ∧ (dropInbox s).tm = s.tm ∧ (dropInbox s).st = s.st := by
  refine ⟨?_, ?_, ?_, ?_, ?_, ?_, ?_, ?_⟩ <;>
    simp [dropInbox]

@[simp] theorem dropInbox_frame_2 (s : State) :
    (dropInbox s).cp = s.cp ∧ (dropInbox s).pending = s.pending ∧ (dropInbox s).mc.restart = s.mc.restart ∧
    (dropInbox s).mc.flagCount = s.mc.flagCount ∧ (dropInbox s).cb.snapshot = s.cb.snapshot ∧
    (dropInbox s).cb.valid = s.cb.valid ∧ (dropInbox s).cb.capture = s.cb.capture ∧
    (dropInbox s).cb.pending = s.cb.pending := by
  refine ⟨?_, ?_, ?_, ?_, ?_, ?_, ?_, ?_⟩ <;>
    simp [dropInbox]

@[simp] theorem dropInbox_frame_3 (s : State) :
    (dropInbox s).cb.captureDue = s.cb.captureDue ∧ (dropInbox s).cb.live.tenants = s.cb.live.tenants ∧
    (dropInbox s).cb.live.timing = s.cb.live.timing ∧ (dropInbox s).cb.live.test = s.cb.live.test := by
  refine ⟨?_, ?_, ?_, ?_⟩ <;>
    simp [dropInbox]

/-! `plansToIdle` -/

@[simp] theorem plansToIdle_frame (s : State) :
    (plansToIdle s).mp = s.mp ∧ (plansToIdle s).sf = s.sf ∧ (plansToIdle s).mc = s.mc ∧ (plansToIdle s).lc = s.lc ∧
    (plansToIdle s).ca = s.ca ∧ (plansToIdle s).tm = s.tm ∧ (plansToIdle s).st = s.st ∧
    (plansToIdle s).pending = s.pending := by
  refine ⟨?_, ?_, ?_, ?_, ?_, ?_, ?_, ?_⟩ <;>
    simp [plansToIdle]

@[simp] theorem plansToIdle_frame_2 (s : State) :
    (plansToIdle s).ps.active = s.ps.active ∧ (plansToIdle s).ps.fallback = s.ps.fallback ∧
    (plansToIdle s).tn.free = s.tn.free ∧ (plansToIdle s).cb.snapshot = s.cb.snapshot ∧
    (plansToIdle s).cb.valid = s.cb.valid ∧ (plansToIdle s).cb.capture = s.cb.capture ∧
    (plansToIdle s).cb.pending = s.cb.pending ∧ (plansToIdle s).cb.captureDue = s.cb.captureDue := by
  refine ⟨?_, ?_, ?_, ?_, ?_, ?_, ?_, ?_⟩ <;>
    simp [plansToIdle]

@[simp] theorem plansToIdle_frame_3 (s : State) :
    (plansToIdle s).cb.live.tenants = s.cb.live.tenants ∧ (plansToIdle s).cb.live.timing = s.cb.live.timing ∧
    (plansToIdle s).cb.live.test = s.cb.live.test ∧ (plansToIdle s).cp.rate = s.cp.rate ∧
    (plansToIdle s).cp.receiver = s.cp.receiver ∧ (plansToIdle s).cp.buffer = s.cp.buffer ∧
    (plansToIdle s).cp.service = s.cp.service ∧ (plansToIdle s).cp.attention = s.cp.attention := by
  refine ⟨?_, ?_, ?_, ?_, ?_, ?_, ?_, ?_⟩ <;>
    simp [plansToIdle]

@[simp] theorem plansToIdle_frame_4 (s : State) :
    (plansToIdle s).cp.resetDue = s.cp.resetDue := by
  simp [plansToIdle]

/-! `clearLink` -/

@[simp] theorem clearLink_frame (lc : LC) :
    (clearLink lc).role = lc.role ∧ (clearLink lc).identity = lc.identity ∧
    (clearLink lc).stop = lc.stop ∧
      (clearLink lc).link = lc.link :=
  ⟨rfl, rfl, rfl, rfl⟩

/-! `linkDownNeighbours` -/

@[simp] theorem linkDownNeighbours_frame (o : LinkState) (h : Option LinkMessage) (k : EntryKind) (s : State) :
    (linkDownNeighbours o h k s).pending = s.pending ∧ (linkDownNeighbours o h k s).mp.frame = s.mp.frame ∧
    (linkDownNeighbours o h k s).mp.composed = s.mp.composed ∧
    (linkDownNeighbours o h k s).mp.rxTaken = s.mp.rxTaken ∧
    (linkDownNeighbours o h k s).mp.txBefore = s.mp.txBefore ∧
    (linkDownNeighbours o h k s).mp.loopback = s.mp.loopback ∧ (linkDownNeighbours o h k s).sf.locked = s.sf.locked ∧
    (linkDownNeighbours o h k s).ps.active = s.ps.active := by
  refine ⟨?_, ?_, ?_, ?_, ?_, ?_, ?_, ?_⟩
  · simp [linkDownNeighbours, apply_ite State.pending]
  · simp [linkDownNeighbours, apply_ite State.mp, apply_ite MP.frame]
  · simp [linkDownNeighbours, apply_ite State.mp, apply_ite MP.composed]
  · simp [linkDownNeighbours, apply_ite State.mp, apply_ite MP.rxTaken]
  · simp [linkDownNeighbours, apply_ite State.mp, apply_ite MP.txBefore]
  · simp [linkDownNeighbours, apply_ite State.mp, apply_ite MP.loopback]
  · simp [linkDownNeighbours, apply_ite State.sf, apply_ite SF.locked]
  · simp [linkDownNeighbours, apply_ite State.ps, apply_ite PS.active]

@[simp] theorem linkDownNeighbours_frame_2 (o : LinkState) (h : Option LinkMessage) (k : EntryKind) (s : State) :
    (linkDownNeighbours o h k s).ps.fallback = s.ps.fallback ∧
    (linkDownNeighbours o h k s).mc.flagCount = s.mc.flagCount ∧ (linkDownNeighbours o h k s).lc.role = s.lc.role ∧
    (linkDownNeighbours o h k s).lc.identity = s.lc.identity ∧ (linkDownNeighbours o h k s).lc.stop = s.lc.stop ∧
    (linkDownNeighbours o h k s).lc.history = s.lc.history ∧ (linkDownNeighbours o h k s).lc.hostMax = s.lc.hostMax ∧
    (linkDownNeighbours o h k s).tn.free = s.tn.free := by
  refine ⟨?_, ?_, ?_, ?_, ?_, ?_, ?_, ?_⟩
  · simp [linkDownNeighbours, apply_ite State.ps, apply_ite PS.fallback]
  · simp [linkDownNeighbours, apply_ite State.mc, apply_ite MC.flagCount]
  · simp [linkDownNeighbours, apply_ite State.lc, apply_ite LC.role]
  · simp [linkDownNeighbours, apply_ite State.lc, apply_ite LC.identity]
  · simp [linkDownNeighbours, apply_ite State.lc, apply_ite LC.stop]
  · simp [linkDownNeighbours, apply_ite State.lc, apply_ite LC.history]
  · simp [linkDownNeighbours, apply_ite State.lc, apply_ite LC.hostMax]
  · simp [linkDownNeighbours, apply_ite State.tn, apply_ite TN.free]

@[simp] theorem linkDownNeighbours_frame_3 (o : LinkState) (h : Option LinkMessage) (k : EntryKind) (s : State) :
    (linkDownNeighbours o h k s).ca.fixed = s.ca.fixed ∧
    (linkDownNeighbours o h k s).ca.fixedCounts = s.ca.fixedCounts ∧
    (linkDownNeighbours o h k s).tm.time = s.tm.time ∧ (linkDownNeighbours o h k s).tm.config = s.tm.config ∧
    (linkDownNeighbours o h k s).tm.current = s.tm.current ∧ (linkDownNeighbours o h k s).tm.before = s.tm.before ∧
    (linkDownNeighbours o h k s).tm.integrator = s.tm.integrator ∧
    (linkDownNeighbours o h k s).tm.sequence = s.tm.sequence := by
  refine ⟨?_, ?_, ?_, ?_, ?_, ?_, ?_, ?_⟩
  · simp [linkDownNeighbours, apply_ite State.ca, apply_ite CA.fixed]
  · simp [linkDownNeighbours, apply_ite State.ca, apply_ite CA.fixedCounts]
  · simp [linkDownNeighbours, apply_ite State.tm, apply_ite TM.time]
  · simp [linkDownNeighbours, apply_ite State.tm, apply_ite TM.config]
  · simp [linkDownNeighbours, apply_ite State.tm, apply_ite TM.current]
  · simp [linkDownNeighbours, apply_ite State.tm, apply_ite TM.before]
  · simp [linkDownNeighbours, apply_ite State.tm, apply_ite TM.integrator]
  · simp [linkDownNeighbours, apply_ite State.tm, apply_ite TM.sequence]

@[simp] theorem linkDownNeighbours_frame_4 (o : LinkState) (h : Option LinkMessage) (k : EntryKind) (s : State) :
    (linkDownNeighbours o h k s).st.errored = s.st.errored ∧ (linkDownNeighbours o h k s).st.bits = s.st.bits ∧
    (linkDownNeighbours o h k s).st.kind = s.st.kind ∧ (linkDownNeighbours o h k s).st.frames = s.st.frames ∧
    (linkDownNeighbours o h k s).st.test = s.st.test ∧ (linkDownNeighbours o h k s).cb.snapshot = s.cb.snapshot ∧
    (linkDownNeighbours o h k s).cb.valid = s.cb.valid ∧ (linkDownNeighbours o h k s).cb.capture = s.cb.capture := by
  refine ⟨?_, ?_, ?_, ?_, ?_, ?_, ?_, ?_⟩
  · simp [linkDownNeighbours, apply_ite State.st, apply_ite ST.errored]
  · simp [linkDownNeighbours, apply_ite State.st, apply_ite ST.bits]
  · simp [linkDownNeighbours, apply_ite State.st, apply_ite ST.kind]
  · simp [linkDownNeighbours, apply_ite State.st, apply_ite ST.frames]
  · simp [linkDownNeighbours, apply_ite State.st, apply_ite ST.test]
  · simp [linkDownNeighbours, apply_ite State.cb, apply_ite CB.snapshot]
  · simp [linkDownNeighbours, apply_ite State.cb, apply_ite CB.valid]
  · simp [linkDownNeighbours, apply_ite State.cb, apply_ite CB.capture]

@[simp] theorem linkDownNeighbours_frame_5 (o : LinkState) (h : Option LinkMessage) (k : EntryKind) (s : State) :
    (linkDownNeighbours o h k s).cb.pending = s.cb.pending ∧
    (linkDownNeighbours o h k s).cb.captureDue = s.cb.captureDue ∧
    (linkDownNeighbours o h k s).cb.live.tenants = s.cb.live.tenants ∧
    (linkDownNeighbours o h k s).cb.live.test = s.cb.live.test ∧ (linkDownNeighbours o h k s).cp.rate = s.cp.rate ∧
    (linkDownNeighbours o h k s).cp.receiver = s.cp.receiver ∧ (linkDownNeighbours o h k s).cp.buffer = s.cp.buffer ∧
    (linkDownNeighbours o h k s).cp.service = s.cp.service := by
  refine ⟨?_, ?_, ?_, ?_, ?_, ?_, ?_, ?_⟩
  · simp [linkDownNeighbours, apply_ite State.cb, apply_ite CB.pending]
  · simp [linkDownNeighbours, apply_ite State.cb, apply_ite CB.captureDue]
  · simp [linkDownNeighbours, apply_ite State.cb, apply_ite CB.live, apply_ite Bank.tenants]
  · simp [linkDownNeighbours, apply_ite State.cb, apply_ite CB.live, apply_ite Bank.test]
  · simp [linkDownNeighbours, apply_ite State.cp, apply_ite CP.rate]
  · simp [linkDownNeighbours, apply_ite State.cp, apply_ite CP.receiver]
  · simp [linkDownNeighbours, apply_ite State.cp, apply_ite CP.buffer]
  · simp [linkDownNeighbours, apply_ite State.cp, apply_ite CP.service]

@[simp] theorem linkDownNeighbours_frame_6 (o : LinkState) (h : Option LinkMessage) (k : EntryKind) (s : State) :
    (linkDownNeighbours o h k s).cp.attention = s.cp.attention ∧
    (linkDownNeighbours o h k s).cp.resetDue = s.cp.resetDue := by
  refine ⟨?_, ?_⟩
  · simp [linkDownNeighbours, apply_ite State.cp, apply_ite CP.attention]
  · simp [linkDownNeighbours, apply_ite State.cp, apply_ite CP.resetDue]

/-! `enterSearch` -/

@[simp] theorem enterSearch_frame (c : LinkCause) (e : Byte) (k : EntryKind) (s : State) :
    (enterSearch c e k s).pending = s.pending ∧ (enterSearch c e k s).mp.frame = s.mp.frame ∧
    (enterSearch c e k s).mp.composed = s.mp.composed ∧ (enterSearch c e k s).mp.rxTaken = s.mp.rxTaken ∧
    (enterSearch c e k s).mp.txBefore = s.mp.txBefore ∧ (enterSearch c e k s).mp.loopback = s.mp.loopback ∧
    (enterSearch c e k s).sf.locked = s.sf.locked ∧ (enterSearch c e k s).ps.active = s.ps.active := by
  refine ⟨?_, ?_, ?_, ?_, ?_, ?_, ?_, ?_⟩ <;>
    simp [enterSearch]

@[simp] theorem enterSearch_frame_2 (c : LinkCause) (e : Byte) (k : EntryKind) (s : State) :
    (enterSearch c e k s).ps.fallback = s.ps.fallback ∧ (enterSearch c e k s).mc.flagCount = s.mc.flagCount ∧
    (enterSearch c e k s).lc.role = s.lc.role ∧ (enterSearch c e k s).lc.identity = s.lc.identity ∧
    (enterSearch c e k s).lc.stop = s.lc.stop ∧ (enterSearch c e k s).tn.free = s.tn.free ∧
    (enterSearch c e k s).ca.fixed = s.ca.fixed ∧ (enterSearch c e k s).ca.fixedCounts = s.ca.fixedCounts := by
  refine ⟨?_, ?_, ?_, ?_, ?_, ?_, ?_, ?_⟩ <;>
    simp [enterSearch]

@[simp] theorem enterSearch_frame_3 (c : LinkCause) (e : Byte) (k : EntryKind) (s : State) :
    (enterSearch c e k s).tm.time = s.tm.time ∧ (enterSearch c e k s).tm.config = s.tm.config ∧
    (enterSearch c e k s).tm.current = s.tm.current ∧ (enterSearch c e k s).tm.before = s.tm.before ∧
    (enterSearch c e k s).tm.integrator = s.tm.integrator ∧ (enterSearch c e k s).tm.sequence = s.tm.sequence ∧
    (enterSearch c e k s).st.errored = s.st.errored ∧ (enterSearch c e k s).st.bits = s.st.bits := by
  refine ⟨?_, ?_, ?_, ?_, ?_, ?_, ?_, ?_⟩ <;>
    simp [enterSearch]

@[simp] theorem enterSearch_frame_4 (c : LinkCause) (e : Byte) (k : EntryKind) (s : State) :
    (enterSearch c e k s).st.kind = s.st.kind ∧ (enterSearch c e k s).st.frames = s.st.frames ∧
    (enterSearch c e k s).st.test = s.st.test ∧ (enterSearch c e k s).cb.snapshot = s.cb.snapshot ∧
    (enterSearch c e k s).cb.valid = s.cb.valid ∧ (enterSearch c e k s).cb.capture = s.cb.capture ∧
    (enterSearch c e k s).cb.pending = s.cb.pending ∧ (enterSearch c e k s).cb.captureDue = s.cb.captureDue := by
  refine ⟨?_, ?_, ?_, ?_, ?_, ?_, ?_, ?_⟩ <;>
    simp [enterSearch]

@[simp] theorem enterSearch_frame_5 (c : LinkCause) (e : Byte) (k : EntryKind) (s : State) :
    (enterSearch c e k s).cb.live.tenants = s.cb.live.tenants ∧ (enterSearch c e k s).cb.live.test = s.cb.live.test ∧
    (enterSearch c e k s).cp.rate = s.cp.rate ∧ (enterSearch c e k s).cp.receiver = s.cp.receiver ∧
    (enterSearch c e k s).cp.buffer = s.cp.buffer ∧ (enterSearch c e k s).cp.service = s.cp.service ∧
    (enterSearch c e k s).cp.attention = s.cp.attention ∧ (enterSearch c e k s).cp.resetDue = s.cp.resetDue := by
  refine ⟨?_, ?_, ?_, ?_, ?_, ?_, ?_, ?_⟩ <;>
    simp [enterSearch]

/-! `enterOff` -/

@[simp] theorem enterOff_frame (e : Byte) (s : State) :
    (enterOff e s).pending = s.pending ∧ (enterOff e s).mp.frame = s.mp.frame ∧
    (enterOff e s).mp.composed = s.mp.composed ∧ (enterOff e s).mp.rxTaken = s.mp.rxTaken ∧
    (enterOff e s).mp.txBefore = s.mp.txBefore ∧ (enterOff e s).mp.loopback = s.mp.loopback ∧
    (enterOff e s).sf.locked = s.sf.locked ∧ (enterOff e s).ps.active = s.ps.active := by
  refine ⟨?_, ?_, ?_, ?_, ?_, ?_, ?_, ?_⟩ <;>
    simp [enterOff]

@[simp] theorem enterOff_frame_2 (e : Byte) (s : State) :
    (enterOff e s).ps.fallback = s.ps.fallback ∧ (enterOff e s).mc.flagCount = s.mc.flagCount ∧
    (enterOff e s).lc.role = s.lc.role ∧ (enterOff e s).lc.identity = s.lc.identity ∧
    (enterOff e s).tn.free = s.tn.free ∧ (enterOff e s).ca.fixed = s.ca.fixed ∧
    (enterOff e s).ca.fixedCounts = s.ca.fixedCounts ∧ (enterOff e s).tm.time = s.tm.time := by
  refine ⟨?_, ?_, ?_, ?_, ?_, ?_, ?_, ?_⟩ <;>
    simp [enterOff]

@[simp] theorem enterOff_frame_3 (e : Byte) (s : State) :
    (enterOff e s).tm.config = s.tm.config ∧ (enterOff e s).tm.current = s.tm.current ∧
    (enterOff e s).tm.before = s.tm.before ∧ (enterOff e s).tm.integrator = s.tm.integrator ∧
    (enterOff e s).tm.sequence = s.tm.sequence ∧ (enterOff e s).st.errored = s.st.errored ∧
    (enterOff e s).st.bits = s.st.bits ∧ (enterOff e s).st.kind = s.st.kind := by
  refine ⟨?_, ?_, ?_, ?_, ?_, ?_, ?_, ?_⟩ <;>
    simp [enterOff]

@[simp] theorem enterOff_frame_4 (e : Byte) (s : State) :
    (enterOff e s).st.frames = s.st.frames ∧ (enterOff e s).st.test = s.st.test ∧
    (enterOff e s).cb.snapshot = s.cb.snapshot ∧ (enterOff e s).cb.valid = s.cb.valid ∧
    (enterOff e s).cb.capture = s.cb.capture ∧ (enterOff e s).cb.pending = s.cb.pending ∧
    (enterOff e s).cb.captureDue = s.cb.captureDue ∧ (enterOff e s).cb.live.tenants = s.cb.live.tenants := by
  refine ⟨?_, ?_, ?_, ?_, ?_, ?_, ?_, ?_⟩ <;>
    simp [enterOff]

@[simp] theorem enterOff_frame_5 (e : Byte) (s : State) :
    (enterOff e s).cb.live.test = s.cb.live.test ∧ (enterOff e s).cp.rate = s.cp.rate ∧
    (enterOff e s).cp.receiver = s.cp.receiver ∧ (enterOff e s).cp.buffer = s.cp.buffer ∧
    (enterOff e s).cp.service = s.cp.service ∧ (enterOff e s).cp.attention = s.cp.attention ∧
    (enterOff e s).cp.resetDue = s.cp.resetDue := by
  refine ⟨?_, ?_, ?_, ?_, ?_, ?_, ?_⟩ <;>
    simp [enterOff]

/-! `failShift` -/

@[simp] theorem failShift_frame (f : ShiftFailure) (p : Proposal) (s : State) :
    (failShift f p s).mp = s.mp ∧ (failShift f p s).sf = s.sf ∧ (failShift f p s).ps = s.ps ∧
    (failShift f p s).mc = s.mc ∧ (failShift f p s).tn = s.tn ∧ (failShift f p s).ca = s.ca ∧
    (failShift f p s).tm = s.tm ∧ (failShift f p s).st = s.st := by
  refine ⟨?_, ?_, ?_, ?_, ?_, ?_, ?_, ?_⟩ <;>
    simp [failShift]

@[simp] theorem failShift_frame_2 (f : ShiftFailure) (p : Proposal) (s : State) :
    (failShift f p s).pending = s.pending ∧ (failShift f p s).lc.role = s.lc.role ∧
    (failShift f p s).lc.identity = s.lc.identity ∧ (failShift f p s).lc.link = s.lc.link ∧
    (failShift f p s).lc.stop = s.lc.stop ∧ (failShift f p s).lc.history = s.lc.history ∧
    (failShift f p s).lc.hostMax = s.lc.hostMax ∧ (failShift f p s).cb.snapshot = s.cb.snapshot := by
  refine ⟨?_, ?_, ?_, ?_, ?_, ?_, ?_, ?_⟩ <;>
    simp [failShift]

@[simp] theorem failShift_frame_3 (f : ShiftFailure) (p : Proposal) (s : State) :
    (failShift f p s).cb.valid = s.cb.valid ∧ (failShift f p s).cb.capture = s.cb.capture ∧
    (failShift f p s).cb.pending = s.cb.pending ∧ (failShift f p s).cb.captureDue = s.cb.captureDue ∧
    (failShift f p s).cb.live.tenants = s.cb.live.tenants ∧ (failShift f p s).cb.live.timing = s.cb.live.timing ∧
    (failShift f p s).cb.live.test = s.cb.live.test ∧ (failShift f p s).cp.rate = s.cp.rate := by
  refine ⟨?_, ?_, ?_, ?_, ?_, ?_, ?_, ?_⟩ <;>
    simp [failShift]

@[simp] theorem failShift_frame_4 (f : ShiftFailure) (p : Proposal) (s : State) :
    (failShift f p s).cp.receiver = s.cp.receiver ∧ (failShift f p s).cp.buffer = s.cp.buffer ∧
    (failShift f p s).cp.service = s.cp.service ∧ (failShift f p s).cp.attention = s.cp.attention ∧
    (failShift f p s).cp.resetDue = s.cp.resetDue := by
  refine ⟨?_, ?_, ?_, ?_, ?_⟩ <;>
    simp [failShift]

/-! `endShift` -/

@[simp] theorem endShift_frame (b : Bool) (s : State) :
    (endShift b s).mp = s.mp ∧ (endShift b s).sf = s.sf ∧ (endShift b s).ps = s.ps ∧ (endShift b s).mc = s.mc ∧
    (endShift b s).tn = s.tn ∧ (endShift b s).ca = s.ca ∧ (endShift b s).tm = s.tm ∧ (endShift b s).st = s.st := by
  refine ⟨?_, ?_, ?_, ?_, ?_, ?_, ?_, ?_⟩
  · simp [endShift, apply_ite State.mp]
  · simp [endShift, apply_ite State.sf]
  · simp [endShift, apply_ite State.ps]
  · simp [endShift, apply_ite State.mc]
  · simp [endShift, apply_ite State.tn]
  · simp [endShift, apply_ite State.ca]
  · simp [endShift, apply_ite State.tm]
  · simp [endShift, apply_ite State.st]

@[simp] theorem endShift_frame_2 (b : Bool) (s : State) :
    (endShift b s).pending = s.pending ∧ (endShift b s).lc.role = s.lc.role ∧
    (endShift b s).lc.identity = s.lc.identity ∧ (endShift b s).lc.stop = s.lc.stop ∧
    (endShift b s).lc.history = s.lc.history ∧ (endShift b s).lc.hostMax = s.lc.hostMax ∧
    (endShift b s).cb.snapshot = s.cb.snapshot ∧ (endShift b s).cb.valid = s.cb.valid := by
  refine ⟨?_, ?_, ?_, ?_, ?_, ?_, ?_, ?_⟩
  · simp [endShift, apply_ite State.pending]
  · simp [endShift, apply_ite State.lc, apply_ite LC.role]
  · simp [endShift, apply_ite State.lc, apply_ite LC.identity]
  · simp [endShift, apply_ite State.lc, apply_ite LC.stop]
  · simp [endShift, apply_ite State.lc, apply_ite LC.history]
  · simp [endShift, apply_ite State.lc, apply_ite LC.hostMax]
  · simp [endShift, apply_ite State.cb, apply_ite CB.snapshot]
  · simp [endShift, apply_ite State.cb, apply_ite CB.valid]

@[simp] theorem endShift_frame_3 (b : Bool) (s : State) :
    (endShift b s).cb.capture = s.cb.capture ∧ (endShift b s).cb.pending = s.cb.pending ∧
    (endShift b s).cb.captureDue = s.cb.captureDue ∧ (endShift b s).cb.live.tenants = s.cb.live.tenants ∧
    (endShift b s).cb.live.timing = s.cb.live.timing ∧ (endShift b s).cb.live.test = s.cb.live.test ∧
    (endShift b s).cp.rate = s.cp.rate ∧ (endShift b s).cp.receiver = s.cp.receiver := by
  refine ⟨?_, ?_, ?_, ?_, ?_, ?_, ?_, ?_⟩
  · simp [endShift, apply_ite State.cb, apply_ite CB.capture]
  · simp [endShift, apply_ite State.cb, apply_ite CB.pending]
  · simp [endShift, apply_ite State.cb, apply_ite CB.captureDue]
  · simp [endShift, apply_ite State.cb, apply_ite CB.live, apply_ite Bank.tenants]
  · simp [endShift, apply_ite State.cb, apply_ite CB.live, apply_ite Bank.timing]
  · simp [endShift, apply_ite State.cb, apply_ite CB.live, apply_ite Bank.test]
  · simp [endShift, apply_ite State.cp, apply_ite CP.rate]
  · simp [endShift, apply_ite State.cp, apply_ite CP.receiver]

@[simp] theorem endShift_frame_4 (b : Bool) (s : State) :
    (endShift b s).cp.buffer = s.cp.buffer ∧ (endShift b s).cp.service = s.cp.service ∧
    (endShift b s).cp.attention = s.cp.attention ∧ (endShift b s).cp.resetDue = s.cp.resetDue := by
  refine ⟨?_, ?_, ?_, ?_⟩
  · simp [endShift, apply_ite State.cp, apply_ite CP.buffer]
  · simp [endShift, apply_ite State.cp, apply_ite CP.service]
  · simp [endShift, apply_ite State.cp, apply_ite CP.attention]
  · simp [endShift, apply_ite State.cp, apply_ite CP.resetDue]

/-! `enterLost` -/

@[simp] theorem enterLost_frame (c : LinkCause) (s : State) :
    (enterLost c s).pending = s.pending ∧ (enterLost c s).mp.frame = s.mp.frame ∧
    (enterLost c s).mp.composed = s.mp.composed ∧ (enterLost c s).mp.rxTaken = s.mp.rxTaken ∧
    (enterLost c s).mp.tx = s.mp.tx ∧ (enterLost c s).mp.txBefore = s.mp.txBefore ∧
    (enterLost c s).mp.loopback = s.mp.loopback ∧ (enterLost c s).sf.locked = s.sf.locked := by
  refine ⟨?_, ?_, ?_, ?_, ?_, ?_, ?_, ?_⟩ <;>
    (simp only [enterLost]; (repeat' split) <;> simp_all)

@[simp] theorem enterLost_frame_2 (c : LinkCause) (s : State) :
    (enterLost c s).ps.active = s.ps.active ∧ (enterLost c s).ps.fallback = s.ps.fallback ∧
    (enterLost c s).ps.previous = s.ps.previous ∧ (enterLost c s).ps.idleDue = s.ps.idleDue ∧
    (enterLost c s).mc.restart = s.mc.restart ∧ (enterLost c s).mc.inbox = s.mc.inbox ∧
    (enterLost c s).mc.flagCount = s.mc.flagCount ∧ (enterLost c s).lc.role = s.lc.role := by
  refine ⟨?_, ?_, ?_, ?_, ?_, ?_, ?_, ?_⟩ <;>
    (simp only [enterLost]; (repeat' split) <;> simp_all)

@[simp] theorem enterLost_frame_3 (c : LinkCause) (s : State) :
    (enterLost c s).lc.identity = s.lc.identity ∧ (enterLost c s).lc.stop = s.lc.stop ∧
    (enterLost c s).lc.history = s.lc.history ∧ (enterLost c s).lc.hostMax = s.lc.hostMax ∧
    (enterLost c s).tn.free = s.tn.free ∧ (enterLost c s).ca.fixed = s.ca.fixed ∧
    (enterLost c s).ca.fixedCounts = s.ca.fixedCounts ∧ (enterLost c s).tm.time = s.tm.time := by
  refine ⟨?_, ?_, ?_, ?_, ?_, ?_, ?_, ?_⟩ <;>
    (simp only [enterLost]; (repeat' split) <;> simp_all)

@[simp] theorem enterLost_frame_4 (c : LinkCause) (s : State) :
    (enterLost c s).tm.config = s.tm.config ∧ (enterLost c s).tm.current = s.tm.current ∧
    (enterLost c s).tm.before = s.tm.before ∧ (enterLost c s).tm.integrator = s.tm.integrator ∧
    (enterLost c s).tm.sequence = s.tm.sequence ∧ (enterLost c s).st.errored = s.st.errored ∧
    (enterLost c s).st.bits = s.st.bits ∧ (enterLost c s).st.kind = s.st.kind := by
  refine ⟨?_, ?_, ?_, ?_, ?_, ?_, ?_, ?_⟩ <;>
    (simp only [enterLost]; (repeat' split) <;> simp_all)

@[simp] theorem enterLost_frame_5 (c : LinkCause) (s : State) :
    (enterLost c s).st.frames = s.st.frames ∧ (enterLost c s).st.test = s.st.test ∧
    (enterLost c s).cb.snapshot = s.cb.snapshot ∧ (enterLost c s).cb.valid = s.cb.valid ∧
    (enterLost c s).cb.capture = s.cb.capture ∧ (enterLost c s).cb.pending = s.cb.pending ∧
    (enterLost c s).cb.captureDue = s.cb.captureDue ∧ (enterLost c s).cb.live.tenants = s.cb.live.tenants := by
  refine ⟨?_, ?_, ?_, ?_, ?_, ?_, ?_, ?_⟩ <;>
    (simp only [enterLost]; (repeat' split) <;> simp_all)

@[simp] theorem enterLost_frame_6 (c : LinkCause) (s : State) :
    (enterLost c s).cb.live.timing = s.cb.live.timing ∧ (enterLost c s).cb.live.test = s.cb.live.test ∧
    (enterLost c s).cp.rate = s.cp.rate ∧ (enterLost c s).cp.receiver = s.cp.receiver ∧
    (enterLost c s).cp.buffer = s.cp.buffer ∧ (enterLost c s).cp.service = s.cp.service ∧
    (enterLost c s).cp.attention = s.cp.attention ∧ (enterLost c s).cp.resetDue = s.cp.resetDue := by
  refine ⟨?_, ?_, ?_, ?_, ?_, ?_, ?_, ?_⟩ <;>
    (simp only [enterLost]; (repeat' split) <;> simp_all)

/-! `enterUp` -/

@[simp] theorem enterUp_frame (c : LinkCause) (s : State) :
    (enterUp c s).pending = s.pending ∧ (enterUp c s).mp.frame = s.mp.frame ∧
    (enterUp c s).mp.composed = s.mp.composed ∧ (enterUp c s).mp.rxTaken = s.mp.rxTaken ∧
    (enterUp c s).mp.tx = s.mp.tx ∧ (enterUp c s).mp.txBefore = s.mp.txBefore ∧
    (enterUp c s).mp.loopback = s.mp.loopback ∧ (enterUp c s).sf.locked = s.sf.locked := by
  refine ⟨?_, ?_, ?_, ?_, ?_, ?_, ?_, ?_⟩
  · simp [enterUp, apply_ite State.pending]
  · simp [enterUp, apply_ite State.mp, apply_ite MP.frame]
  · simp [enterUp, apply_ite State.mp, apply_ite MP.composed]
  · simp [enterUp, apply_ite State.mp, apply_ite MP.rxTaken]
  · simp [enterUp, apply_ite State.mp, apply_ite MP.tx]
  · simp [enterUp, apply_ite State.mp, apply_ite MP.txBefore]
  · simp [enterUp, apply_ite State.mp, apply_ite MP.loopback]
  · simp [enterUp, apply_ite State.sf, apply_ite SF.locked]

@[simp] theorem enterUp_frame_2 (c : LinkCause) (s : State) :
    (enterUp c s).ps.active = s.ps.active ∧ (enterUp c s).ps.fallback = s.ps.fallback ∧
    (enterUp c s).ps.previous = s.ps.previous ∧ (enterUp c s).ps.idleDue = s.ps.idleDue ∧
    (enterUp c s).mc.restart = s.mc.restart ∧ (enterUp c s).mc.inbox = s.mc.inbox ∧
    (enterUp c s).mc.flagCount = s.mc.flagCount ∧ (enterUp c s).lc.role = s.lc.role := by
  refine ⟨?_, ?_, ?_, ?_, ?_, ?_, ?_, ?_⟩
  · simp [enterUp, apply_ite State.ps, apply_ite PS.active]
  · simp [enterUp, apply_ite State.ps, apply_ite PS.fallback]
  · simp [enterUp, apply_ite State.ps, apply_ite PS.previous]
  · simp [enterUp, apply_ite State.ps, apply_ite PS.idleDue]
  · simp [enterUp, apply_ite State.mc, apply_ite MC.restart]
  · simp [enterUp, apply_ite State.mc, apply_ite MC.inbox]
  · simp [enterUp, apply_ite State.mc, apply_ite MC.flagCount]
  · simp [enterUp, apply_ite State.lc, apply_ite LC.role]

@[simp] theorem enterUp_frame_3 (c : LinkCause) (s : State) :
    (enterUp c s).lc.identity = s.lc.identity ∧ (enterUp c s).lc.stop = s.lc.stop ∧
    (enterUp c s).lc.history = s.lc.history ∧ (enterUp c s).lc.hostMax = s.lc.hostMax ∧
    (enterUp c s).tn.free = s.tn.free ∧ (enterUp c s).ca.fixed = s.ca.fixed ∧
    (enterUp c s).ca.fixedCounts = s.ca.fixedCounts ∧ (enterUp c s).tm.time = s.tm.time := by
  refine ⟨?_, ?_, ?_, ?_, ?_, ?_, ?_, ?_⟩
  · simp [enterUp, apply_ite State.lc, apply_ite LC.identity]
  · simp [enterUp, apply_ite State.lc, apply_ite LC.stop]
  · simp [enterUp, apply_ite State.lc, apply_ite LC.history]
  · simp [enterUp, apply_ite State.lc, apply_ite LC.hostMax]
  · simp [enterUp, apply_ite State.tn, apply_ite TN.free]
  · simp [enterUp, apply_ite State.ca, apply_ite CA.fixed]
  · simp [enterUp, apply_ite State.ca, apply_ite CA.fixedCounts]
  · simp [enterUp, apply_ite State.tm, apply_ite TM.time]

@[simp] theorem enterUp_frame_4 (c : LinkCause) (s : State) :
    (enterUp c s).tm.config = s.tm.config ∧ (enterUp c s).tm.current = s.tm.current ∧
    (enterUp c s).tm.before = s.tm.before ∧ (enterUp c s).tm.integrator = s.tm.integrator ∧
    (enterUp c s).tm.sequence = s.tm.sequence ∧ (enterUp c s).st.errored = s.st.errored ∧
    (enterUp c s).st.bits = s.st.bits ∧ (enterUp c s).st.kind = s.st.kind := by
  refine ⟨?_, ?_, ?_, ?_, ?_, ?_, ?_, ?_⟩
  · simp [enterUp, apply_ite State.tm, apply_ite TM.config]
  · simp [enterUp, apply_ite State.tm, apply_ite TM.current]
  · simp [enterUp, apply_ite State.tm, apply_ite TM.before]
  · simp [enterUp, apply_ite State.tm, apply_ite TM.integrator]
  · simp [enterUp, apply_ite State.tm, apply_ite TM.sequence]
  · simp [enterUp, apply_ite State.st, apply_ite ST.errored]
  · simp [enterUp, apply_ite State.st, apply_ite ST.bits]
  · simp [enterUp, apply_ite State.st, apply_ite ST.kind]

@[simp] theorem enterUp_frame_5 (c : LinkCause) (s : State) :
    (enterUp c s).st.frames = s.st.frames ∧ (enterUp c s).st.test = s.st.test ∧
    (enterUp c s).cb.snapshot = s.cb.snapshot ∧ (enterUp c s).cb.valid = s.cb.valid ∧
    (enterUp c s).cb.capture = s.cb.capture ∧ (enterUp c s).cb.pending = s.cb.pending ∧
    (enterUp c s).cb.captureDue = s.cb.captureDue ∧ (enterUp c s).cb.live.tenants = s.cb.live.tenants := by
  refine ⟨?_, ?_, ?_, ?_, ?_, ?_, ?_, ?_⟩
  · simp [enterUp, apply_ite State.st, apply_ite ST.frames]
  · simp [enterUp, apply_ite State.st, apply_ite ST.test]
  · simp [enterUp, apply_ite State.cb, apply_ite CB.snapshot]
  · simp [enterUp, apply_ite State.cb, apply_ite CB.valid]
  · simp [enterUp, apply_ite State.cb, apply_ite CB.capture]
  · simp [enterUp, apply_ite State.cb, apply_ite CB.pending]
  · simp [enterUp, apply_ite State.cb, apply_ite CB.captureDue]
  · simp [enterUp, apply_ite State.cb, apply_ite CB.live, apply_ite Bank.tenants]

@[simp] theorem enterUp_frame_6 (c : LinkCause) (s : State) :
    (enterUp c s).cb.live.timing = s.cb.live.timing ∧ (enterUp c s).cb.live.test = s.cb.live.test ∧
    (enterUp c s).cp.rate = s.cp.rate ∧ (enterUp c s).cp.receiver = s.cp.receiver ∧
    (enterUp c s).cp.buffer = s.cp.buffer ∧ (enterUp c s).cp.service = s.cp.service ∧
    (enterUp c s).cp.attention = s.cp.attention ∧ (enterUp c s).cp.resetDue = s.cp.resetDue := by
  refine ⟨?_, ?_, ?_, ?_, ?_, ?_, ?_, ?_⟩
  · simp [enterUp, apply_ite State.cb, apply_ite CB.live, apply_ite Bank.timing]
  · simp [enterUp, apply_ite State.cb, apply_ite CB.live, apply_ite Bank.test]
  · simp [enterUp, apply_ite State.cp, apply_ite CP.rate]
  · simp [enterUp, apply_ite State.cp, apply_ite CP.receiver]
  · simp [enterUp, apply_ite State.cp, apply_ite CP.buffer]
  · simp [enterUp, apply_ite State.cp, apply_ite CP.service]
  · simp [enterUp, apply_ite State.cp, apply_ite CP.attention]
  · simp [enterUp, apply_ite State.cp, apply_ite CP.resetDue]

/-! `linkPlanChange` -/

@[simp] theorem linkPlanChange_frame (c : PlanCause) (s : State) :
    (linkPlanChange c s).pending = s.pending ∧ (linkPlanChange c s).mp.frame = s.mp.frame ∧
    (linkPlanChange c s).mp.composed = s.mp.composed ∧ (linkPlanChange c s).mp.rxTaken = s.mp.rxTaken ∧
    (linkPlanChange c s).mp.tx = s.mp.tx ∧ (linkPlanChange c s).mp.txBefore = s.mp.txBefore ∧
    (linkPlanChange c s).mp.loopback = s.mp.loopback ∧ (linkPlanChange c s).sf.locked = s.sf.locked := by
  refine ⟨?_, ?_, ?_, ?_, ?_, ?_, ?_, ?_⟩ <;>
    (simp only [linkPlanChange]; (repeat' split) <;> simp_all)

@[simp] theorem linkPlanChange_frame_2 (c : PlanCause) (s : State) :
    (linkPlanChange c s).ps.active = s.ps.active ∧ (linkPlanChange c s).ps.fallback = s.ps.fallback ∧
    (linkPlanChange c s).ps.previous = s.ps.previous ∧ (linkPlanChange c s).ps.idleDue = s.ps.idleDue ∧
    (linkPlanChange c s).mc.restart = s.mc.restart ∧ (linkPlanChange c s).mc.inbox = s.mc.inbox ∧
    (linkPlanChange c s).mc.flagCount = s.mc.flagCount ∧ (linkPlanChange c s).lc.role = s.lc.role := by
  refine ⟨?_, ?_, ?_, ?_, ?_, ?_, ?_, ?_⟩ <;>
    (simp only [linkPlanChange]; (repeat' split) <;> simp_all)

@[simp] theorem linkPlanChange_frame_3 (c : PlanCause) (s : State) :
    (linkPlanChange c s).lc.identity = s.lc.identity ∧ (linkPlanChange c s).lc.stop = s.lc.stop ∧
    (linkPlanChange c s).lc.history = s.lc.history ∧ (linkPlanChange c s).lc.hostMax = s.lc.hostMax ∧
    (linkPlanChange c s).tn.free = s.tn.free ∧ (linkPlanChange c s).ca.fixed = s.ca.fixed ∧
    (linkPlanChange c s).ca.fixedCounts = s.ca.fixedCounts ∧ (linkPlanChange c s).tm.time = s.tm.time := by
  refine ⟨?_, ?_, ?_, ?_, ?_, ?_, ?_, ?_⟩ <;>
    (simp only [linkPlanChange]; (repeat' split) <;> simp_all)

@[simp] theorem linkPlanChange_frame_4 (c : PlanCause) (s : State) :
    (linkPlanChange c s).tm.config = s.tm.config ∧ (linkPlanChange c s).tm.current = s.tm.current ∧
    (linkPlanChange c s).tm.before = s.tm.before ∧ (linkPlanChange c s).tm.integrator = s.tm.integrator ∧
    (linkPlanChange c s).tm.sequence = s.tm.sequence ∧ (linkPlanChange c s).st.errored = s.st.errored ∧
    (linkPlanChange c s).st.bits = s.st.bits ∧ (linkPlanChange c s).st.kind = s.st.kind := by
  refine ⟨?_, ?_, ?_, ?_, ?_, ?_, ?_, ?_⟩ <;>
    (simp only [linkPlanChange]; (repeat' split) <;> simp_all)

@[simp] theorem linkPlanChange_frame_5 (c : PlanCause) (s : State) :
    (linkPlanChange c s).st.frames = s.st.frames ∧ (linkPlanChange c s).st.test = s.st.test ∧
    (linkPlanChange c s).cb.snapshot = s.cb.snapshot ∧ (linkPlanChange c s).cb.valid = s.cb.valid ∧
    (linkPlanChange c s).cb.capture = s.cb.capture ∧ (linkPlanChange c s).cb.pending = s.cb.pending ∧
    (linkPlanChange c s).cb.captureDue = s.cb.captureDue ∧ (linkPlanChange c s).cb.live.tenants = s.cb.live.tenants := by
  refine ⟨?_, ?_, ?_, ?_, ?_, ?_, ?_, ?_⟩ <;>
    (simp only [linkPlanChange]; (repeat' split) <;> simp_all)

@[simp] theorem linkPlanChange_frame_6 (c : PlanCause) (s : State) :
    (linkPlanChange c s).cb.live.timing = s.cb.live.timing ∧ (linkPlanChange c s).cb.live.test = s.cb.live.test ∧
    (linkPlanChange c s).cp.rate = s.cp.rate ∧ (linkPlanChange c s).cp.receiver = s.cp.receiver ∧
    (linkPlanChange c s).cp.buffer = s.cp.buffer ∧ (linkPlanChange c s).cp.service = s.cp.service ∧
    (linkPlanChange c s).cp.attention = s.cp.attention ∧ (linkPlanChange c s).cp.resetDue = s.cp.resetDue := by
  refine ⟨?_, ?_, ?_, ?_, ?_, ?_, ?_, ?_⟩ <;>
    (simp only [linkPlanChange]; (repeat' split) <;> simp_all)

/-! `notifyPlan` -/

@[simp] theorem notifyPlan_frame (c : PlanCause) (p : Plan) (s : State) :
    (notifyPlan c p s).pending = s.pending ∧ (notifyPlan c p s).mp.frame = s.mp.frame ∧
    (notifyPlan c p s).mp.composed = s.mp.composed ∧ (notifyPlan c p s).mp.rxTaken = s.mp.rxTaken ∧
    (notifyPlan c p s).mp.tx = s.mp.tx ∧ (notifyPlan c p s).mp.txBefore = s.mp.txBefore ∧
    (notifyPlan c p s).mp.loopback = s.mp.loopback ∧ (notifyPlan c p s).sf.locked = s.sf.locked := by
  refine ⟨?_, ?_, ?_, ?_, ?_, ?_, ?_, ?_⟩ <;>
    simp [notifyPlan]

@[simp] theorem notifyPlan_frame_2 (c : PlanCause) (p : Plan) (s : State) :
    (notifyPlan c p s).ps.active = s.ps.active ∧ (notifyPlan c p s).ps.fallback = s.ps.fallback ∧
    (notifyPlan c p s).ps.previous = s.ps.previous ∧ (notifyPlan c p s).ps.idleDue = s.ps.idleDue ∧
    (notifyPlan c p s).mc.restart = s.mc.restart ∧ (notifyPlan c p s).mc.inbox = s.mc.inbox ∧
    (notifyPlan c p s).mc.flagCount = s.mc.flagCount ∧ (notifyPlan c p s).lc.role = s.lc.role := by
  refine ⟨?_, ?_, ?_, ?_, ?_, ?_, ?_, ?_⟩ <;>
    simp [notifyPlan]

@[simp] theorem notifyPlan_frame_3 (c : PlanCause) (p : Plan) (s : State) :
    (notifyPlan c p s).lc.identity = s.lc.identity ∧ (notifyPlan c p s).lc.stop = s.lc.stop ∧
    (notifyPlan c p s).lc.history = s.lc.history ∧ (notifyPlan c p s).lc.hostMax = s.lc.hostMax ∧
    (notifyPlan c p s).tn.free = s.tn.free ∧ (notifyPlan c p s).ca.fixed = s.ca.fixed ∧
    (notifyPlan c p s).ca.fixedCounts = s.ca.fixedCounts ∧ (notifyPlan c p s).tm.time = s.tm.time := by
  refine ⟨?_, ?_, ?_, ?_, ?_, ?_, ?_, ?_⟩ <;>
    simp [notifyPlan]

@[simp] theorem notifyPlan_frame_4 (c : PlanCause) (p : Plan) (s : State) :
    (notifyPlan c p s).tm.config = s.tm.config ∧ (notifyPlan c p s).tm.current = s.tm.current ∧
    (notifyPlan c p s).tm.before = s.tm.before ∧ (notifyPlan c p s).tm.integrator = s.tm.integrator ∧
    (notifyPlan c p s).tm.sequence = s.tm.sequence ∧ (notifyPlan c p s).st.errored = s.st.errored ∧
    (notifyPlan c p s).st.bits = s.st.bits ∧ (notifyPlan c p s).st.kind = s.st.kind := by
  refine ⟨?_, ?_, ?_, ?_, ?_, ?_, ?_, ?_⟩ <;>
    simp [notifyPlan]

@[simp] theorem notifyPlan_frame_5 (c : PlanCause) (p : Plan) (s : State) :
    (notifyPlan c p s).cb.snapshot = s.cb.snapshot ∧ (notifyPlan c p s).cb.valid = s.cb.valid ∧
    (notifyPlan c p s).cb.capture = s.cb.capture ∧ (notifyPlan c p s).cb.pending = s.cb.pending ∧
    (notifyPlan c p s).cb.captureDue = s.cb.captureDue ∧ (notifyPlan c p s).cb.live.tenants = s.cb.live.tenants ∧
    (notifyPlan c p s).cb.live.timing = s.cb.live.timing ∧ (notifyPlan c p s).cb.live.test = s.cb.live.test := by
  refine ⟨?_, ?_, ?_, ?_, ?_, ?_, ?_, ?_⟩ <;>
    simp [notifyPlan]

@[simp] theorem notifyPlan_frame_6 (c : PlanCause) (p : Plan) (s : State) :
    (notifyPlan c p s).cp.rate = s.cp.rate ∧ (notifyPlan c p s).cp.receiver = s.cp.receiver ∧
    (notifyPlan c p s).cp.buffer = s.cp.buffer ∧ (notifyPlan c p s).cp.service = s.cp.service ∧
    (notifyPlan c p s).cp.attention = s.cp.attention ∧ (notifyPlan c p s).cp.resetDue = s.cp.resetDue := by
  refine ⟨?_, ?_, ?_, ?_, ?_, ?_⟩ <;>
    simp [notifyPlan]

/-! `makeActive` -/

@[simp] theorem makeActive_frame (p : Plan) (c : PlanCause) (s : State) :
    (makeActive p c s).pending = s.pending ∧ (makeActive p c s).mp.frame = s.mp.frame ∧
    (makeActive p c s).mp.composed = s.mp.composed ∧ (makeActive p c s).mp.rxTaken = s.mp.rxTaken ∧
    (makeActive p c s).mp.tx = s.mp.tx ∧ (makeActive p c s).mp.txBefore = s.mp.txBefore ∧
    (makeActive p c s).mp.loopback = s.mp.loopback ∧ (makeActive p c s).sf.locked = s.sf.locked := by
  refine ⟨?_, ?_, ?_, ?_, ?_, ?_, ?_, ?_⟩ <;>
    simp [makeActive]

@[simp] theorem makeActive_frame_2 (p : Plan) (c : PlanCause) (s : State) :
    (makeActive p c s).ps.fallback = s.ps.fallback ∧ (makeActive p c s).ps.idleDue = s.ps.idleDue ∧
    (makeActive p c s).mc.restart = s.mc.restart ∧ (makeActive p c s).mc.inbox = s.mc.inbox ∧
    (makeActive p c s).mc.flagCount = s.mc.flagCount ∧ (makeActive p c s).lc.role = s.lc.role ∧
    (makeActive p c s).lc.identity = s.lc.identity ∧ (makeActive p c s).lc.stop = s.lc.stop := by
  refine ⟨?_, ?_, ?_, ?_, ?_, ?_, ?_, ?_⟩ <;>
    simp [makeActive]

@[simp] theorem makeActive_frame_3 (p : Plan) (c : PlanCause) (s : State) :
    (makeActive p c s).lc.history = s.lc.history ∧ (makeActive p c s).lc.hostMax = s.lc.hostMax ∧
    (makeActive p c s).tn.free = s.tn.free ∧ (makeActive p c s).ca.fixed = s.ca.fixed ∧
    (makeActive p c s).ca.fixedCounts = s.ca.fixedCounts ∧ (makeActive p c s).tm.time = s.tm.time ∧
    (makeActive p c s).tm.config = s.tm.config ∧ (makeActive p c s).tm.current = s.tm.current := by
  refine ⟨?_, ?_, ?_, ?_, ?_, ?_, ?_, ?_⟩ <;>
    simp [makeActive]

@[simp] theorem makeActive_frame_4 (p : Plan) (c : PlanCause) (s : State) :
    (makeActive p c s).tm.before = s.tm.before ∧ (makeActive p c s).tm.integrator = s.tm.integrator ∧
    (makeActive p c s).tm.sequence = s.tm.sequence ∧ (makeActive p c s).st.errored = s.st.errored ∧
    (makeActive p c s).st.bits = s.st.bits ∧ (makeActive p c s).st.kind = s.st.kind ∧
    (makeActive p c s).cb.snapshot = s.cb.snapshot ∧ (makeActive p c s).cb.valid = s.cb.valid := by
  refine ⟨?_, ?_, ?_, ?_, ?_, ?_, ?_, ?_⟩ <;>
    simp [makeActive]

@[simp] theorem makeActive_frame_5 (p : Plan) (c : PlanCause) (s : State) :
    (makeActive p c s).cb.capture = s.cb.capture ∧ (makeActive p c s).cb.pending = s.cb.pending ∧
    (makeActive p c s).cb.captureDue = s.cb.captureDue ∧ (makeActive p c s).cb.live.tenants = s.cb.live.tenants ∧
    (makeActive p c s).cb.live.timing = s.cb.live.timing ∧ (makeActive p c s).cb.live.test = s.cb.live.test ∧
    (makeActive p c s).cp.rate = s.cp.rate ∧ (makeActive p c s).cp.receiver = s.cp.receiver := by
  refine ⟨?_, ?_, ?_, ?_, ?_, ?_, ?_, ?_⟩ <;>
    simp [makeActive]

@[simp] theorem makeActive_frame_6 (p : Plan) (c : PlanCause) (s : State) :
    (makeActive p c s).cp.buffer = s.cp.buffer ∧ (makeActive p c s).cp.service = s.cp.service ∧
    (makeActive p c s).cp.attention = s.cp.attention ∧ (makeActive p c s).cp.resetDue = s.cp.resetDue := by
  refine ⟨?_, ?_, ?_, ?_⟩ <;>
    simp [makeActive]

/-! `activatePending` -/

@[simp] theorem activatePending_frame (c : PlanCause) (s : State) :
    (activatePending c s).pending = s.pending ∧ (activatePending c s).mp.frame = s.mp.frame ∧
    (activatePending c s).mp.composed = s.mp.composed ∧ (activatePending c s).mp.rxTaken = s.mp.rxTaken ∧
    (activatePending c s).mp.tx = s.mp.tx ∧ (activatePending c s).mp.txBefore = s.mp.txBefore ∧
    (activatePending c s).mp.loopback = s.mp.loopback ∧ (activatePending c s).sf.locked = s.sf.locked := by
  refine ⟨?_, ?_, ?_, ?_, ?_, ?_, ?_, ?_⟩ <;>
    (unfold activatePending; (repeat' split) <;> simp)

@[simp] theorem activatePending_frame_2 (c : PlanCause) (s : State) :
    (activatePending c s).ps.idleDue = s.ps.idleDue ∧ (activatePending c s).mc.restart = s.mc.restart ∧
    (activatePending c s).mc.inbox = s.mc.inbox ∧ (activatePending c s).mc.flagCount = s.mc.flagCount ∧
    (activatePending c s).lc.role = s.lc.role ∧ (activatePending c s).lc.identity = s.lc.identity ∧
    (activatePending c s).lc.stop = s.lc.stop ∧ (activatePending c s).lc.history = s.lc.history := by
  refine ⟨?_, ?_, ?_, ?_, ?_, ?_, ?_, ?_⟩ <;>
    (unfold activatePending; (repeat' split) <;> simp)

@[simp] theorem activatePending_frame_3 (c : PlanCause) (s : State) :
    (activatePending c s).lc.hostMax = s.lc.hostMax ∧ (activatePending c s).tn.free = s.tn.free ∧
    (activatePending c s).ca.fixed = s.ca.fixed ∧ (activatePending c s).ca.fixedCounts = s.ca.fixedCounts ∧
    (activatePending c s).tm.time = s.tm.time ∧ (activatePending c s).tm.config = s.tm.config ∧
    (activatePending c s).tm.current = s.tm.current ∧ (activatePending c s).tm.before = s.tm.before := by
  refine ⟨?_, ?_, ?_, ?_, ?_, ?_, ?_, ?_⟩ <;>
    (unfold activatePending; (repeat' split) <;> simp)

@[simp] theorem activatePending_frame_4 (c : PlanCause) (s : State) :
    (activatePending c s).tm.integrator = s.tm.integrator ∧ (activatePending c s).tm.sequence = s.tm.sequence ∧
    (activatePending c s).st.errored = s.st.errored ∧ (activatePending c s).st.bits = s.st.bits ∧
    (activatePending c s).st.kind = s.st.kind ∧ (activatePending c s).cb.snapshot = s.cb.snapshot ∧
    (activatePending c s).cb.valid = s.cb.valid ∧ (activatePending c s).cb.capture = s.cb.capture := by
  refine ⟨?_, ?_, ?_, ?_, ?_, ?_, ?_, ?_⟩ <;>
    (unfold activatePending; (repeat' split) <;> simp)

@[simp] theorem activatePending_frame_5 (c : PlanCause) (s : State) :
    (activatePending c s).cb.pending = s.cb.pending ∧ (activatePending c s).cb.captureDue = s.cb.captureDue ∧
    (activatePending c s).cb.live.tenants = s.cb.live.tenants ∧
    (activatePending c s).cb.live.timing = s.cb.live.timing ∧ (activatePending c s).cb.live.test = s.cb.live.test ∧
    (activatePending c s).cp.rate = s.cp.rate ∧ (activatePending c s).cp.receiver = s.cp.receiver ∧
    (activatePending c s).cp.buffer = s.cp.buffer := by
  refine ⟨?_, ?_, ?_, ?_, ?_, ?_, ?_, ?_⟩ <;>
    (unfold activatePending; (repeat' split) <;> simp)

@[simp] theorem activatePending_frame_6 (c : PlanCause) (s : State) :
    (activatePending c s).cp.service = s.cp.service ∧ (activatePending c s).cp.attention = s.cp.attention ∧
    (activatePending c s).cp.resetDue = s.cp.resetDue := by
  refine ⟨?_, ?_, ?_⟩ <;>
    (unfold activatePending; (repeat' split) <;> simp)

/-! `takeFallback` -/

@[simp] theorem takeFallback_frame (s : State) :
    (takeFallback s).pending = s.pending ∧ (takeFallback s).mp.frame = s.mp.frame ∧
    (takeFallback s).mp.composed = s.mp.composed ∧ (takeFallback s).mp.rxTaken = s.mp.rxTaken ∧
    (takeFallback s).mp.tx = s.mp.tx ∧ (takeFallback s).mp.txBefore = s.mp.txBefore ∧
    (takeFallback s).mp.loopback = s.mp.loopback ∧ (takeFallback s).sf.locked = s.sf.locked := by
  refine ⟨?_, ?_, ?_, ?_, ?_, ?_, ?_, ?_⟩ <;>
    (simp only [takeFallback]; (repeat' split) <;> simp_all)

@[simp] theorem takeFallback_frame_2 (s : State) :
    (takeFallback s).ps.fallback = s.ps.fallback ∧ (takeFallback s).ps.idleDue = s.ps.idleDue ∧
    (takeFallback s).mc.restart = s.mc.restart ∧ (takeFallback s).mc.inbox = s.mc.inbox ∧
    (takeFallback s).mc.flagCount = s.mc.flagCount ∧ (takeFallback s).lc.role = s.lc.role ∧
    (takeFallback s).lc.identity = s.lc.identity ∧ (takeFallback s).lc.stop = s.lc.stop := by
  refine ⟨?_, ?_, ?_, ?_, ?_, ?_, ?_, ?_⟩ <;>
    (simp only [takeFallback]; (repeat' split) <;> simp_all)

@[simp] theorem takeFallback_frame_3 (s : State) :
    (takeFallback s).lc.history = s.lc.history ∧ (takeFallback s).lc.hostMax = s.lc.hostMax ∧
    (takeFallback s).tn.free = s.tn.free ∧ (takeFallback s).ca.fixed = s.ca.fixed ∧
    (takeFallback s).ca.fixedCounts = s.ca.fixedCounts ∧ (takeFallback s).tm.time = s.tm.time ∧
    (takeFallback s).tm.config = s.tm.config ∧ (takeFallback s).tm.current = s.tm.current := by
  refine ⟨?_, ?_, ?_, ?_, ?_, ?_, ?_, ?_⟩ <;>
    (simp only [takeFallback]; (repeat' split) <;> simp_all)

@[simp] theorem takeFallback_frame_4 (s : State) :
    (takeFallback s).tm.before = s.tm.before ∧ (takeFallback s).tm.integrator = s.tm.integrator ∧
    (takeFallback s).tm.sequence = s.tm.sequence ∧ (takeFallback s).st.errored = s.st.errored ∧
    (takeFallback s).st.bits = s.st.bits ∧ (takeFallback s).st.kind = s.st.kind ∧
    (takeFallback s).cb.snapshot = s.cb.snapshot ∧ (takeFallback s).cb.valid = s.cb.valid := by
  refine ⟨?_, ?_, ?_, ?_, ?_, ?_, ?_, ?_⟩ <;>
    (simp only [takeFallback]; (repeat' split) <;> simp_all)

@[simp] theorem takeFallback_frame_5 (s : State) :
    (takeFallback s).cb.capture = s.cb.capture ∧ (takeFallback s).cb.pending = s.cb.pending ∧
    (takeFallback s).cb.captureDue = s.cb.captureDue ∧ (takeFallback s).cb.live.tenants = s.cb.live.tenants ∧
    (takeFallback s).cb.live.timing = s.cb.live.timing ∧ (takeFallback s).cb.live.test = s.cb.live.test ∧
    (takeFallback s).cp.rate = s.cp.rate ∧ (takeFallback s).cp.receiver = s.cp.receiver := by
  refine ⟨?_, ?_, ?_, ?_, ?_, ?_, ?_, ?_⟩ <;>
    (simp only [takeFallback]; (repeat' split) <;> simp_all)

@[simp] theorem takeFallback_frame_6 (s : State) :
    (takeFallback s).cp.buffer = s.cp.buffer ∧ (takeFallback s).cp.service = s.cp.service ∧
    (takeFallback s).cp.attention = s.cp.attention ∧ (takeFallback s).cp.resetDue = s.cp.resetDue := by
  refine ⟨?_, ?_, ?_, ?_⟩ <;>
    (simp only [takeFallback]; (repeat' split) <;> simp_all)

/-! `takeIdle` -/

@[simp] theorem takeIdle_frame (s : State) :
    (takeIdle s).pending = s.pending ∧ (takeIdle s).mp.frame = s.mp.frame ∧ (takeIdle s).mp.composed = s.mp.composed ∧
    (takeIdle s).mp.rxTaken = s.mp.rxTaken ∧ (takeIdle s).mp.tx = s.mp.tx ∧ (takeIdle s).mp.txBefore = s.mp.txBefore ∧
    (takeIdle s).mp.loopback = s.mp.loopback ∧ (takeIdle s).sf.locked = s.sf.locked := by
  refine ⟨?_, ?_, ?_, ?_, ?_, ?_, ?_, ?_⟩
  · simp [takeIdle, apply_ite State.pending]
  · simp [takeIdle, apply_ite State.mp, apply_ite MP.frame]
  · simp [takeIdle, apply_ite State.mp, apply_ite MP.composed]
  · simp [takeIdle, apply_ite State.mp, apply_ite MP.rxTaken]
  · simp [takeIdle, apply_ite State.mp, apply_ite MP.tx]
  · simp [takeIdle, apply_ite State.mp, apply_ite MP.txBefore]
  · simp [takeIdle, apply_ite State.mp, apply_ite MP.loopback]
  · simp [takeIdle, apply_ite State.sf, apply_ite SF.locked]

@[simp] theorem takeIdle_frame_2 (s : State) :
    (takeIdle s).mc.restart = s.mc.restart ∧ (takeIdle s).mc.inbox = s.mc.inbox ∧
    (takeIdle s).mc.flagCount = s.mc.flagCount ∧ (takeIdle s).lc.role = s.lc.role ∧
    (takeIdle s).lc.identity = s.lc.identity ∧ (takeIdle s).lc.stop = s.lc.stop ∧
    (takeIdle s).lc.history = s.lc.history ∧ (takeIdle s).lc.hostMax = s.lc.hostMax := by
  refine ⟨?_, ?_, ?_, ?_, ?_, ?_, ?_, ?_⟩
  · simp [takeIdle, apply_ite State.mc, apply_ite MC.restart]
  · simp [takeIdle, apply_ite State.mc, apply_ite MC.inbox]
  · simp [takeIdle, apply_ite State.mc, apply_ite MC.flagCount]
  · simp [takeIdle, apply_ite State.lc, apply_ite LC.role]
  · simp [takeIdle, apply_ite State.lc, apply_ite LC.identity]
  · simp [takeIdle, apply_ite State.lc, apply_ite LC.stop]
  · simp [takeIdle, apply_ite State.lc, apply_ite LC.history]
  · simp [takeIdle, apply_ite State.lc, apply_ite LC.hostMax]

@[simp] theorem takeIdle_frame_3 (s : State) :
    (takeIdle s).tn.free = s.tn.free ∧ (takeIdle s).ca.fixed = s.ca.fixed ∧
    (takeIdle s).ca.fixedCounts = s.ca.fixedCounts ∧ (takeIdle s).tm.time = s.tm.time ∧
    (takeIdle s).tm.config = s.tm.config ∧ (takeIdle s).tm.current = s.tm.current ∧
    (takeIdle s).tm.before = s.tm.before ∧ (takeIdle s).tm.integrator = s.tm.integrator := by
  refine ⟨?_, ?_, ?_, ?_, ?_, ?_, ?_, ?_⟩
  · simp [takeIdle, apply_ite State.tn, apply_ite TN.free]
  · simp [takeIdle, apply_ite State.ca, apply_ite CA.fixed]
  · simp [takeIdle, apply_ite State.ca, apply_ite CA.fixedCounts]
  · simp [takeIdle, apply_ite State.tm, apply_ite TM.time]
  · simp [takeIdle, apply_ite State.tm, apply_ite TM.config]
  · simp [takeIdle, apply_ite State.tm, apply_ite TM.current]
  · simp [takeIdle, apply_ite State.tm, apply_ite TM.before]
  · simp [takeIdle, apply_ite State.tm, apply_ite TM.integrator]

@[simp] theorem takeIdle_frame_4 (s : State) :
    (takeIdle s).tm.sequence = s.tm.sequence ∧ (takeIdle s).st.errored = s.st.errored ∧
    (takeIdle s).st.bits = s.st.bits ∧ (takeIdle s).st.kind = s.st.kind ∧ (takeIdle s).cb.snapshot = s.cb.snapshot ∧
    (takeIdle s).cb.valid = s.cb.valid ∧ (takeIdle s).cb.capture = s.cb.capture ∧
    (takeIdle s).cb.pending = s.cb.pending := by
  refine ⟨?_, ?_, ?_, ?_, ?_, ?_, ?_, ?_⟩
  · simp [takeIdle, apply_ite State.tm, apply_ite TM.sequence]
  · simp [takeIdle, apply_ite State.st, apply_ite ST.errored]
  · simp [takeIdle, apply_ite State.st, apply_ite ST.bits]
  · simp [takeIdle, apply_ite State.st, apply_ite ST.kind]
  · simp [takeIdle, apply_ite State.cb, apply_ite CB.snapshot]
  · simp [takeIdle, apply_ite State.cb, apply_ite CB.valid]
  · simp [takeIdle, apply_ite State.cb, apply_ite CB.capture]
  · simp [takeIdle, apply_ite State.cb, apply_ite CB.pending]

@[simp] theorem takeIdle_frame_5 (s : State) :
    (takeIdle s).cb.captureDue = s.cb.captureDue ∧ (takeIdle s).cb.live.tenants = s.cb.live.tenants ∧
    (takeIdle s).cb.live.timing = s.cb.live.timing ∧ (takeIdle s).cb.live.test = s.cb.live.test ∧
    (takeIdle s).cp.rate = s.cp.rate ∧ (takeIdle s).cp.receiver = s.cp.receiver ∧
    (takeIdle s).cp.buffer = s.cp.buffer ∧ (takeIdle s).cp.service = s.cp.service := by
  refine ⟨?_, ?_, ?_, ?_, ?_, ?_, ?_, ?_⟩
  · simp [takeIdle, apply_ite State.cb, apply_ite CB.captureDue]
  · simp [takeIdle, apply_ite State.cb, apply_ite CB.live, apply_ite Bank.tenants]
  · simp [takeIdle, apply_ite State.cb, apply_ite CB.live, apply_ite Bank.timing]
  · simp [takeIdle, apply_ite State.cb, apply_ite CB.live, apply_ite Bank.test]
  · simp [takeIdle, apply_ite State.cp, apply_ite CP.rate]
  · simp [takeIdle, apply_ite State.cp, apply_ite CP.receiver]
  · simp [takeIdle, apply_ite State.cp, apply_ite CP.buffer]
  · simp [takeIdle, apply_ite State.cp, apply_ite CP.service]

@[simp] theorem takeIdle_frame_6 (s : State) :
    (takeIdle s).cp.attention = s.cp.attention ∧ (takeIdle s).cp.resetDue = s.cp.resetDue := by
  refine ⟨?_, ?_⟩
  · simp [takeIdle, apply_ite State.cp, apply_ite CP.attention]
  · simp [takeIdle, apply_ite State.cp, apply_ite CP.resetDue]

/-! `takeLoopSwitch` -/

@[simp] theorem takeLoopSwitch_frame (s : State) :
    (takeLoopSwitch s).pending = s.pending ∧ (takeLoopSwitch s).mp.frame = s.mp.frame ∧
    (takeLoopSwitch s).mp.composed = s.mp.composed ∧ (takeLoopSwitch s).mp.rxTaken = s.mp.rxTaken ∧
    (takeLoopSwitch s).mp.tx = s.mp.tx ∧ (takeLoopSwitch s).mp.txBefore = s.mp.txBefore ∧
    (takeLoopSwitch s).mc.restart = s.mc.restart ∧ (takeLoopSwitch s).mc.inbox = s.mc.inbox := by
  refine ⟨?_, ?_, ?_, ?_, ?_, ?_, ?_, ?_⟩
  · simp [takeLoopSwitch, apply_ite State.pending]
  · simp [takeLoopSwitch, apply_ite State.mp, apply_ite MP.frame]
  · simp [takeLoopSwitch, apply_ite State.mp, apply_ite MP.composed]
  · simp [takeLoopSwitch, apply_ite State.mp, apply_ite MP.rxTaken]
  · simp [takeLoopSwitch, apply_ite State.mp, apply_ite MP.tx]
  · simp [takeLoopSwitch, apply_ite State.mp, apply_ite MP.txBefore]
  · simp [takeLoopSwitch, apply_ite State.mc, apply_ite MC.restart]
  · simp [takeLoopSwitch, apply_ite State.mc, apply_ite MC.inbox]

@[simp] theorem takeLoopSwitch_frame_2 (s : State) :
    (takeLoopSwitch s).mc.flagCount = s.mc.flagCount ∧ (takeLoopSwitch s).lc.role = s.lc.role ∧
    (takeLoopSwitch s).lc.identity = s.lc.identity ∧ (takeLoopSwitch s).lc.stop = s.lc.stop ∧
    (takeLoopSwitch s).lc.history = s.lc.history ∧ (takeLoopSwitch s).lc.hostMax = s.lc.hostMax ∧
    (takeLoopSwitch s).tn.free = s.tn.free ∧ (takeLoopSwitch s).ca.fixed = s.ca.fixed := by
  refine ⟨?_, ?_, ?_, ?_, ?_, ?_, ?_, ?_⟩
  · simp [takeLoopSwitch, apply_ite State.mc, apply_ite MC.flagCount]
  · simp [takeLoopSwitch, apply_ite State.lc, apply_ite LC.role]
  · simp [takeLoopSwitch, apply_ite State.lc, apply_ite LC.identity]
  · simp [takeLoopSwitch, apply_ite State.lc, apply_ite LC.stop]
  · simp [takeLoopSwitch, apply_ite State.lc, apply_ite LC.history]
  · simp [takeLoopSwitch, apply_ite State.lc, apply_ite LC.hostMax]
  · simp [takeLoopSwitch, apply_ite State.tn, apply_ite TN.free]
  · simp [takeLoopSwitch, apply_ite State.ca, apply_ite CA.fixed]

@[simp] theorem takeLoopSwitch_frame_3 (s : State) :
    (takeLoopSwitch s).ca.fixedCounts = s.ca.fixedCounts ∧ (takeLoopSwitch s).tm.time = s.tm.time ∧
    (takeLoopSwitch s).tm.config = s.tm.config ∧ (takeLoopSwitch s).tm.current = s.tm.current ∧
    (takeLoopSwitch s).tm.before = s.tm.before ∧ (takeLoopSwitch s).tm.integrator = s.tm.integrator ∧
    (takeLoopSwitch s).tm.sequence = s.tm.sequence ∧ (takeLoopSwitch s).st.errored = s.st.errored := by
  refine ⟨?_, ?_, ?_, ?_, ?_, ?_, ?_, ?_⟩
  · simp [takeLoopSwitch, apply_ite State.ca, apply_ite CA.fixedCounts]
  · simp [takeLoopSwitch, apply_ite State.tm, apply_ite TM.time]
  · simp [takeLoopSwitch, apply_ite State.tm, apply_ite TM.config]
  · simp [takeLoopSwitch, apply_ite State.tm, apply_ite TM.current]
  · simp [takeLoopSwitch, apply_ite State.tm, apply_ite TM.before]
  · simp [takeLoopSwitch, apply_ite State.tm, apply_ite TM.integrator]
  · simp [takeLoopSwitch, apply_ite State.tm, apply_ite TM.sequence]
  · simp [takeLoopSwitch, apply_ite State.st, apply_ite ST.errored]

@[simp] theorem takeLoopSwitch_frame_4 (s : State) :
    (takeLoopSwitch s).st.bits = s.st.bits ∧ (takeLoopSwitch s).st.kind = s.st.kind ∧
    (takeLoopSwitch s).cb.snapshot = s.cb.snapshot ∧ (takeLoopSwitch s).cb.valid = s.cb.valid ∧
    (takeLoopSwitch s).cb.capture = s.cb.capture ∧ (takeLoopSwitch s).cb.pending = s.cb.pending ∧
    (takeLoopSwitch s).cb.captureDue = s.cb.captureDue ∧ (takeLoopSwitch s).cb.live.tenants = s.cb.live.tenants := by
  refine ⟨?_, ?_, ?_, ?_, ?_, ?_, ?_, ?_⟩
  · simp [takeLoopSwitch, apply_ite State.st, apply_ite ST.bits]
  · simp [takeLoopSwitch, apply_ite State.st, apply_ite ST.kind]
  · simp [takeLoopSwitch, apply_ite State.cb, apply_ite CB.snapshot]
  · simp [takeLoopSwitch, apply_ite State.cb, apply_ite CB.valid]
  · simp [takeLoopSwitch, apply_ite State.cb, apply_ite CB.capture]
  · simp [takeLoopSwitch, apply_ite State.cb, apply_ite CB.pending]
  · simp [takeLoopSwitch, apply_ite State.cb, apply_ite CB.captureDue]
  · simp [takeLoopSwitch, apply_ite State.cb, apply_ite CB.live, apply_ite Bank.tenants]

@[simp] theorem takeLoopSwitch_frame_5 (s : State) :
    (takeLoopSwitch s).cb.live.timing = s.cb.live.timing ∧ (takeLoopSwitch s).cb.live.test = s.cb.live.test ∧
    (takeLoopSwitch s).cp.rate = s.cp.rate ∧ (takeLoopSwitch s).cp.receiver = s.cp.receiver ∧
    (takeLoopSwitch s).cp.buffer = s.cp.buffer ∧ (takeLoopSwitch s).cp.service = s.cp.service ∧
    (takeLoopSwitch s).cp.attention = s.cp.attention ∧ (takeLoopSwitch s).cp.resetDue = s.cp.resetDue := by
  refine ⟨?_, ?_, ?_, ?_, ?_, ?_, ?_, ?_⟩
  · simp [takeLoopSwitch, apply_ite State.cb, apply_ite CB.live, apply_ite Bank.timing]
  · simp [takeLoopSwitch, apply_ite State.cb, apply_ite CB.live, apply_ite Bank.test]
  · simp [takeLoopSwitch, apply_ite State.cp, apply_ite CP.rate]
  · simp [takeLoopSwitch, apply_ite State.cp, apply_ite CP.receiver]
  · simp [takeLoopSwitch, apply_ite State.cp, apply_ite CP.buffer]
  · simp [takeLoopSwitch, apply_ite State.cp, apply_ite CP.service]
  · simp [takeLoopSwitch, apply_ite State.cp, apply_ite CP.attention]
  · simp [takeLoopSwitch, apply_ite State.cp, apply_ite CP.resetDue]

/-! `takeDueChanges` -/

@[simp] theorem takeDueChanges_frame (s : State) :
    (takeDueChanges s).pending = s.pending ∧ (takeDueChanges s).mp.frame = s.mp.frame ∧
    (takeDueChanges s).mp.composed = s.mp.composed ∧ (takeDueChanges s).mp.rxTaken = s.mp.rxTaken ∧
    (takeDueChanges s).mp.tx = s.mp.tx ∧ (takeDueChanges s).mp.txBefore = s.mp.txBefore ∧
    (takeDueChanges s).mc.restart = s.mc.restart ∧ (takeDueChanges s).mc.inbox = s.mc.inbox := by
  refine ⟨?_, ?_, ?_, ?_, ?_, ?_, ?_, ?_⟩
  · simp [takeDueChanges, apply_ite State.pending]
  · simp [takeDueChanges, apply_ite State.mp, apply_ite MP.frame]
  · simp [takeDueChanges, apply_ite State.mp, apply_ite MP.composed]
  · simp [takeDueChanges, apply_ite State.mp, apply_ite MP.rxTaken]
  · simp [takeDueChanges, apply_ite State.mp, apply_ite MP.tx]
  · simp [takeDueChanges, apply_ite State.mp, apply_ite MP.txBefore]
  · simp [takeDueChanges, apply_ite State.mc, apply_ite MC.restart]
  · simp [takeDueChanges, apply_ite State.mc, apply_ite MC.inbox]

@[simp] theorem takeDueChanges_frame_2 (s : State) :
    (takeDueChanges s).mc.flagCount = s.mc.flagCount ∧ (takeDueChanges s).lc.role = s.lc.role ∧
    (takeDueChanges s).lc.identity = s.lc.identity ∧ (takeDueChanges s).lc.stop = s.lc.stop ∧
    (takeDueChanges s).lc.history = s.lc.history ∧ (takeDueChanges s).lc.hostMax = s.lc.hostMax ∧
    (takeDueChanges s).tn.free = s.tn.free ∧ (takeDueChanges s).ca.fixed = s.ca.fixed := by
  refine ⟨?_, ?_, ?_, ?_, ?_, ?_, ?_, ?_⟩
  · simp [takeDueChanges, apply_ite State.mc, apply_ite MC.flagCount]
  · simp [takeDueChanges, apply_ite State.lc, apply_ite LC.role]
  · simp [takeDueChanges, apply_ite State.lc, apply_ite LC.identity]
  · simp [takeDueChanges, apply_ite State.lc, apply_ite LC.stop]
  · simp [takeDueChanges, apply_ite State.lc, apply_ite LC.history]
  · simp [takeDueChanges, apply_ite State.lc, apply_ite LC.hostMax]
  · simp [takeDueChanges, apply_ite State.tn, apply_ite TN.free]
  · simp [takeDueChanges, apply_ite State.ca, apply_ite CA.fixed]

@[simp] theorem takeDueChanges_frame_3 (s : State) :
    (takeDueChanges s).ca.fixedCounts = s.ca.fixedCounts ∧ (takeDueChanges s).tm.time = s.tm.time ∧
    (takeDueChanges s).tm.config = s.tm.config ∧ (takeDueChanges s).tm.current = s.tm.current ∧
    (takeDueChanges s).tm.before = s.tm.before ∧ (takeDueChanges s).tm.integrator = s.tm.integrator ∧
    (takeDueChanges s).tm.sequence = s.tm.sequence ∧ (takeDueChanges s).st.errored = s.st.errored := by
  refine ⟨?_, ?_, ?_, ?_, ?_, ?_, ?_, ?_⟩
  · simp [takeDueChanges, apply_ite State.ca, apply_ite CA.fixedCounts]
  · simp [takeDueChanges, apply_ite State.tm, apply_ite TM.time]
  · simp [takeDueChanges, apply_ite State.tm, apply_ite TM.config]
  · simp [takeDueChanges, apply_ite State.tm, apply_ite TM.current]
  · simp [takeDueChanges, apply_ite State.tm, apply_ite TM.before]
  · simp [takeDueChanges, apply_ite State.tm, apply_ite TM.integrator]
  · simp [takeDueChanges, apply_ite State.tm, apply_ite TM.sequence]
  · simp [takeDueChanges, apply_ite State.st, apply_ite ST.errored]

@[simp] theorem takeDueChanges_frame_4 (s : State) :
    (takeDueChanges s).st.bits = s.st.bits ∧ (takeDueChanges s).st.kind = s.st.kind ∧
    (takeDueChanges s).cb.snapshot = s.cb.snapshot ∧ (takeDueChanges s).cb.valid = s.cb.valid ∧
    (takeDueChanges s).cb.capture = s.cb.capture ∧ (takeDueChanges s).cb.pending = s.cb.pending ∧
    (takeDueChanges s).cb.captureDue = s.cb.captureDue ∧ (takeDueChanges s).cb.live.tenants = s.cb.live.tenants := by
  refine ⟨?_, ?_, ?_, ?_, ?_, ?_, ?_, ?_⟩
  · simp [takeDueChanges, apply_ite State.st, apply_ite ST.bits]
  · simp [takeDueChanges, apply_ite State.st, apply_ite ST.kind]
  · simp [takeDueChanges, apply_ite State.cb, apply_ite CB.snapshot]
  · simp [takeDueChanges, apply_ite State.cb, apply_ite CB.valid]
  · simp [takeDueChanges, apply_ite State.cb, apply_ite CB.capture]
  · simp [takeDueChanges, apply_ite State.cb, apply_ite CB.pending]
  · simp [takeDueChanges, apply_ite State.cb, apply_ite CB.captureDue]
  · simp [takeDueChanges, apply_ite State.cb, apply_ite CB.live, apply_ite Bank.tenants]

@[simp] theorem takeDueChanges_frame_5 (s : State) :
    (takeDueChanges s).cb.live.timing = s.cb.live.timing ∧ (takeDueChanges s).cb.live.test = s.cb.live.test ∧
    (takeDueChanges s).cp.rate = s.cp.rate ∧ (takeDueChanges s).cp.receiver = s.cp.receiver ∧
    (takeDueChanges s).cp.buffer = s.cp.buffer ∧ (takeDueChanges s).cp.service = s.cp.service ∧
    (takeDueChanges s).cp.attention = s.cp.attention ∧ (takeDueChanges s).cp.resetDue = s.cp.resetDue := by
  refine ⟨?_, ?_, ?_, ?_, ?_, ?_, ?_, ?_⟩
  · simp [takeDueChanges, apply_ite State.cb, apply_ite CB.live, apply_ite Bank.timing]
  · simp [takeDueChanges, apply_ite State.cb, apply_ite CB.live, apply_ite Bank.test]
  · simp [takeDueChanges, apply_ite State.cp, apply_ite CP.rate]
  · simp [takeDueChanges, apply_ite State.cp, apply_ite CP.receiver]
  · simp [takeDueChanges, apply_ite State.cp, apply_ite CP.buffer]
  · simp [takeDueChanges, apply_ite State.cp, apply_ite CP.service]
  · simp [takeDueChanges, apply_ite State.cp, apply_ite CP.attention]
  · simp [takeDueChanges, apply_ite State.cp, apply_ite CP.resetDue]

end Sys2Proof.Machine
end

