-- ==== Sys2Proof/Laws/Frame.lean ====
section
/-! SUPPORT. What the steps of composing and of taking a frame leave alone. -/

set_option linter.unusedSimpArgs false

namespace Sys2Proof.Machine

/-! `recordStart` -/

@[simp] theorem recordStart_frame (s : State) :
    (recordStart s).mp = s.mp ∧ (recordStart s).sf = s.sf ∧ (recordStart s).ps = s.ps ∧ (recordStart s).mc = s.mc ∧
    (recordStart s).lc = s.lc ∧ (recordStart s).tn = s.tn ∧ (recordStart s).ca = s.ca ∧ (recordStart s).st = s.st ∧
    (recordStart s).cb = s.cb ∧ (recordStart s).cp = s.cp ∧ (recordStart s).pending = s.pending ∧
    (recordStart s).tm.time = s.tm.time ∧ (recordStart s).tm.state = s.tm.state ∧
    (recordStart s).tm.expired = s.tm.expired ∧ (recordStart s).tm.config = s.tm.config ∧
    (recordStart s).tm.steer = s.tm.steer ∧ (recordStart s).tm.pps = s.tm.pps ∧
    (recordStart s).tm.window = s.tm.window ∧ (recordStart s).tm.integrator = s.tm.integrator ∧
    (recordStart s).tm.sequence = s.tm.sequence :=
  ⟨rfl, rfl, rfl, rfl, rfl, rfl, rfl, rfl, rfl, rfl, rfl, rfl, rfl, rfl, rfl, rfl, rfl, rfl, rfl, rfl⟩

/-! `recordUnsent` -/

@[simp] theorem recordUnsent_frame (s : State) :
    (recordUnsent s).mp = s.mp ∧ (recordUnsent s).sf = s.sf ∧ (recordUnsent s).ps = s.ps ∧
    (recordUnsent s).mc = s.mc ∧ (recordUnsent s).lc = s.lc ∧ (recordUnsent s).ca = s.ca ∧
    (recordUnsent s).tm = s.tm ∧ (recordUnsent s).st = s.st ∧ (recordUnsent s).cb = s.cb ∧
    (recordUnsent s).cp = s.cp ∧ (recordUnsent s).pending = s.pending ∧ (recordUnsent s).tn.free = s.tn.free :=
  ⟨rfl, rfl, rfl, rfl, rfl, rfl, rfl, rfl, rfl, rfl, rfl, rfl⟩

/-! `countStop` -/

@[simp] theorem countStop_frame (s : State) :
    (countStop s).mp = s.mp ∧ (countStop s).sf = s.sf ∧ (countStop s).ps = s.ps ∧ (countStop s).mc = s.mc ∧
    (countStop s).tn = s.tn ∧ (countStop s).ca = s.ca ∧ (countStop s).tm = s.tm ∧ (countStop s).st = s.st ∧
    (countStop s).cb = s.cb ∧ (countStop s).cp = s.cp ∧ (countStop s).pending = s.pending ∧
    (countStop s).lc.role = s.lc.role ∧ (countStop s).lc.identity = s.lc.identity ∧
    (countStop s).lc.link = s.lc.link ∧ (countStop s).lc.history = s.lc.history ∧
    (countStop s).lc.hostMax = s.lc.hostMax :=
  ⟨rfl, rfl, rfl, rfl, rfl, rfl, rfl, rfl, rfl, rfl, rfl, rfl, rfl, rfl, rfl, rfl⟩

/-! `evaluateFall` -/

@[simp] theorem evaluateFall_frame (s : State) :
    (evaluateFall s).sf = s.sf ∧ (evaluateFall s).tm = s.tm ∧ (evaluateFall s).pending = s.pending ∧
    (evaluateFall s).mp.frame = s.mp.frame ∧ (evaluateFall s).mp.composed = s.mp.composed ∧
    (evaluateFall s).mp.rxTaken = s.mp.rxTaken ∧ (evaluateFall s).mp.tx = s.mp.tx ∧
    (evaluateFall s).mp.txBefore = s.mp.txBefore := by
  refine ⟨?_, ?_, ?_, ?_, ?_, ?_, ?_, ?_⟩
  · simp [evaluateFall, apply_ite State.sf]
  · simp [evaluateFall, apply_ite State.tm]
  · simp [evaluateFall, apply_ite State.pending]
  · simp [evaluateFall, apply_ite State.mp, apply_ite MP.frame]
  · simp [evaluateFall, apply_ite State.mp, apply_ite MP.composed]
  · simp [evaluateFall, apply_ite State.mp, apply_ite MP.rxTaken]
  · simp [evaluateFall, apply_ite State.mp, apply_ite MP.tx]
  · simp [evaluateFall, apply_ite State.mp, apply_ite MP.txBefore]

@[simp] theorem evaluateFall_frame_2 (s : State) :
    (evaluateFall s).mp.loopback = s.mp.loopback ∧ (evaluateFall s).ps.active = s.ps.active ∧
    (evaluateFall s).ps.fallback = s.ps.fallback ∧ (evaluateFall s).ps.previous = s.ps.previous ∧
    (evaluateFall s).ps.idleDue = s.ps.idleDue ∧ (evaluateFall s).mc.restart = s.mc.restart ∧
    (evaluateFall s).mc.inbox = s.mc.inbox ∧ (evaluateFall s).mc.flagCount = s.mc.flagCount := by
  refine ⟨?_, ?_, ?_, ?_, ?_, ?_, ?_, ?_⟩
  · simp [evaluateFall, apply_ite State.mp, apply_ite MP.loopback]
  · simp [evaluateFall, apply_ite State.ps, apply_ite PS.active]
  · simp [evaluateFall, apply_ite State.ps, apply_ite PS.fallback]
  · simp [evaluateFall, apply_ite State.ps, apply_ite PS.previous]
  · simp [evaluateFall, apply_ite State.ps, apply_ite PS.idleDue]
  · simp [evaluateFall, apply_ite State.mc, apply_ite MC.restart]
  · simp [evaluateFall, apply_ite State.mc, apply_ite MC.inbox]
  · simp [evaluateFall, apply_ite State.mc, apply_ite MC.flagCount]

@[simp] theorem evaluateFall_frame_3 (s : State) :
    (evaluateFall s).lc.role = s.lc.role ∧ (evaluateFall s).lc.identity = s.lc.identity ∧
    (evaluateFall s).lc.stop = s.lc.stop ∧ (evaluateFall s).lc.history = s.lc.history ∧
    (evaluateFall s).lc.hostMax = s.lc.hostMax ∧ (evaluateFall s).tn.free = s.tn.free ∧
    (evaluateFall s).ca.fixed = s.ca.fixed ∧ (evaluateFall s).ca.fixedCounts = s.ca.fixedCounts := by
  refine ⟨?_, ?_, ?_, ?_, ?_, ?_, ?_, ?_⟩
  · simp [evaluateFall, apply_ite State.lc, apply_ite LC.role]
  · simp [evaluateFall, apply_ite State.lc, apply_ite LC.identity]
  · simp [evaluateFall, apply_ite State.lc, apply_ite LC.stop]
  · simp [evaluateFall, apply_ite State.lc, apply_ite LC.history]
  · simp [evaluateFall, apply_ite State.lc, apply_ite LC.hostMax]
  · simp [evaluateFall, apply_ite State.tn, apply_ite TN.free]
  · simp [evaluateFall, apply_ite State.ca, apply_ite CA.fixed]
  · simp [evaluateFall, apply_ite State.ca, apply_ite CA.fixedCounts]

@[simp] theorem evaluateFall_frame_4 (s : State) :
    (evaluateFall s).st.errored = s.st.errored ∧ (evaluateFall s).st.bits = s.st.bits ∧
    (evaluateFall s).st.kind = s.st.kind ∧ (evaluateFall s).st.frames = s.st.frames ∧
    (evaluateFall s).st.test = s.st.test ∧ (evaluateFall s).cb.snapshot = s.cb.snapshot ∧
    (evaluateFall s).cb.valid = s.cb.valid ∧ (evaluateFall s).cb.capture = s.cb.capture := by
  refine ⟨?_, ?_, ?_, ?_, ?_, ?_, ?_, ?_⟩
  · simp [evaluateFall, apply_ite State.st, apply_ite ST.errored]
  · simp [evaluateFall, apply_ite State.st, apply_ite ST.bits]
  · simp [evaluateFall, apply_ite State.st, apply_ite ST.kind]
  · simp [evaluateFall, apply_ite State.st, apply_ite ST.frames]
  · simp [evaluateFall, apply_ite State.st, apply_ite ST.test]
  · simp [evaluateFall, apply_ite State.cb, apply_ite CB.snapshot]
  · simp [evaluateFall, apply_ite State.cb, apply_ite CB.valid]
  · simp [evaluateFall, apply_ite State.cb, apply_ite CB.capture]

@[simp] theorem evaluateFall_frame_5 (s : State) :
    (evaluateFall s).cb.pending = s.cb.pending ∧ (evaluateFall s).cb.captureDue = s.cb.captureDue ∧
    (evaluateFall s).cb.live.tenants = s.cb.live.tenants ∧ (evaluateFall s).cb.live.timing = s.cb.live.timing ∧
    (evaluateFall s).cb.live.test = s.cb.live.test ∧ (evaluateFall s).cp.rate = s.cp.rate ∧
    (evaluateFall s).cp.receiver = s.cp.receiver ∧ (evaluateFall s).cp.buffer = s.cp.buffer := by
  refine ⟨?_, ?_, ?_, ?_, ?_, ?_, ?_, ?_⟩
  · simp [evaluateFall, apply_ite State.cb, apply_ite CB.pending]
  · simp [evaluateFall, apply_ite State.cb, apply_ite CB.captureDue]
  · simp [evaluateFall, apply_ite State.cb, apply_ite CB.live, apply_ite Bank.tenants]
  · simp [evaluateFall, apply_ite State.cb, apply_ite CB.live, apply_ite Bank.timing]
  · simp [evaluateFall, apply_ite State.cb, apply_ite CB.live, apply_ite Bank.test]
  · simp [evaluateFall, apply_ite State.cp, apply_ite CP.rate]
  · simp [evaluateFall, apply_ite State.cp, apply_ite CP.receiver]
  · simp [evaluateFall, apply_ite State.cp, apply_ite CP.buffer]

@[simp] theorem evaluateFall_frame_6 (s : State) :
    (evaluateFall s).cp.service = s.cp.service ∧ (evaluateFall s).cp.attention = s.cp.attention ∧
    (evaluateFall s).cp.resetDue = s.cp.resetDue := by
  refine ⟨?_, ?_, ?_⟩
  · simp [evaluateFall, apply_ite State.cp, apply_ite CP.service]
  · simp [evaluateFall, apply_ite State.cp, apply_ite CP.attention]
  · simp [evaluateFall, apply_ite State.cp, apply_ite CP.resetDue]

/-! `afterSending` -/

@[simp] theorem afterSending_frame (b : PerTenant TenantRec) (s : State) :
    (afterSending b s).sf = s.sf ∧ (afterSending b s).tm = s.tm ∧ (afterSending b s).pending = s.pending ∧
    (afterSending b s).mp.frame = s.mp.frame ∧ (afterSending b s).mp.composed = s.mp.composed ∧
    (afterSending b s).mp.rxTaken = s.mp.rxTaken ∧ (afterSending b s).mp.tx = s.mp.tx ∧
    (afterSending b s).mp.txBefore = s.mp.txBefore := by
  refine ⟨?_, ?_, ?_, ?_, ?_, ?_, ?_, ?_⟩ <;>
    simp [afterSending]

@[simp] theorem afterSending_frame_2 (b : PerTenant TenantRec) (s : State) :
    (afterSending b s).mp.loopback = s.mp.loopback ∧ (afterSending b s).ps.active = s.ps.active ∧
    (afterSending b s).ps.fallback = s.ps.fallback ∧ (afterSending b s).ps.previous = s.ps.previous ∧
    (afterSending b s).ps.idleDue = s.ps.idleDue ∧ (afterSending b s).mc.restart = s.mc.restart ∧
    (afterSending b s).mc.inbox = s.mc.inbox ∧ (afterSending b s).mc.flagCount = s.mc.flagCount := by
  refine ⟨?_, ?_, ?_, ?_, ?_, ?_, ?_, ?_⟩ <;>
    simp [afterSending]

@[simp] theorem afterSending_frame_3 (b : PerTenant TenantRec) (s : State) :
    (afterSending b s).lc.role = s.lc.role ∧ (afterSending b s).lc.identity = s.lc.identity ∧
    (afterSending b s).lc.stop = s.lc.stop ∧ (afterSending b s).lc.history = s.lc.history ∧
    (afterSending b s).lc.hostMax = s.lc.hostMax ∧ (afterSending b s).tn.free = s.tn.free ∧
    (afterSending b s).ca.fixed = s.ca.fixed ∧ (afterSending b s).ca.fixedCounts = s.ca.fixedCounts := by
  refine ⟨?_, ?_, ?_, ?_, ?_, ?_, ?_, ?_⟩ <;>
    simp [afterSending]

@[simp] theorem afterSending_frame_4 (b : PerTenant TenantRec) (s : State) :
    (afterSending b s).st.errored = s.st.errored ∧ (afterSending b s).st.bits = s.st.bits ∧
    (afterSending b s).st.kind = s.st.kind ∧ (afterSending b s).st.frames = s.st.frames ∧
    (afterSending b s).st.test = s.st.test ∧ (afterSending b s).cb.snapshot = s.cb.snapshot ∧
    (afterSending b s).cb.valid = s.cb.valid ∧ (afterSending b s).cb.capture = s.cb.capture := by
  refine ⟨?_, ?_, ?_, ?_, ?_, ?_, ?_, ?_⟩ <;>
    simp [afterSending]

@[simp] theorem afterSending_frame_5 (b : PerTenant TenantRec) (s : State) :
    (afterSending b s).cb.pending = s.cb.pending ∧ (afterSending b s).cb.captureDue = s.cb.captureDue ∧
    (afterSending b s).cb.live.tenants = s.cb.live.tenants ∧ (afterSending b s).cb.live.timing = s.cb.live.timing ∧
    (afterSending b s).cb.live.test = s.cb.live.test ∧ (afterSending b s).cp.rate = s.cp.rate ∧
    (afterSending b s).cp.receiver = s.cp.receiver ∧ (afterSending b s).cp.buffer = s.cp.buffer := by
  refine ⟨?_, ?_, ?_, ?_, ?_, ?_, ?_, ?_⟩ <;>
    simp [afterSending]

@[simp] theorem afterSending_frame_6 (b : PerTenant TenantRec) (s : State) :
    (afterSending b s).cp.service = s.cp.service ∧ (afterSending b s).cp.attention = s.cp.attention ∧
    (afterSending b s).cp.resetDue = s.cp.resetDue := by
  refine ⟨?_, ?_, ?_⟩ <;>
    simp [afterSending]

/-! `takeQuality` -/

@[simp] theorem takeQuality_frame (m : ModemFrame) (s : State) :
    (takeQuality m s).mp = s.mp ∧ (takeQuality m s).sf = s.sf ∧ (takeQuality m s).ps = s.ps ∧
    (takeQuality m s).mc = s.mc ∧ (takeQuality m s).tn = s.tn ∧ (takeQuality m s).ca = s.ca ∧
    (takeQuality m s).tm = s.tm ∧ (takeQuality m s).st = s.st := by
  refine ⟨?_, ?_, ?_, ?_, ?_, ?_, ?_, ?_⟩
  · simp [takeQuality, apply_ite State.mp]
  · simp [takeQuality, apply_ite State.sf]
  · simp [takeQuality, apply_ite State.ps]
  · simp [takeQuality, apply_ite State.mc]
  · simp [takeQuality, apply_ite State.tn]
  · simp [takeQuality, apply_ite State.ca]
  · simp [takeQuality, apply_ite State.tm]
  · simp [takeQuality, apply_ite State.st]

@[simp] theorem takeQuality_frame_2 (m : ModemFrame) (s : State) :
    (takeQuality m s).cp = s.cp ∧ (takeQuality m s).pending = s.pending ∧ (takeQuality m s).lc.role = s.lc.role ∧
    (takeQuality m s).lc.identity = s.lc.identity ∧ (takeQuality m s).lc.link = s.lc.link ∧
    (takeQuality m s).lc.stop = s.lc.stop ∧ (takeQuality m s).lc.hostMax = s.lc.hostMax ∧
    (takeQuality m s).cb.snapshot = s.cb.snapshot := by
  refine ⟨?_, ?_, ?_, ?_, ?_, ?_, ?_, ?_⟩
  · simp [takeQuality, apply_ite State.cp]
  · simp [takeQuality, apply_ite State.pending]
  · simp [takeQuality, apply_ite State.lc, apply_ite LC.role]
  · simp [takeQuality, apply_ite State.lc, apply_ite LC.identity]
  · simp [takeQuality, apply_ite State.lc, apply_ite LC.link]
  · simp [takeQuality, apply_ite State.lc, apply_ite LC.stop]
  · simp [takeQuality, apply_ite State.lc, apply_ite LC.hostMax]
  · simp [takeQuality, apply_ite State.cb, apply_ite CB.snapshot]

@[simp] theorem takeQuality_frame_3 (m : ModemFrame) (s : State) :
    (takeQuality m s).cb.valid = s.cb.valid ∧ (takeQuality m s).cb.capture = s.cb.capture ∧
    (takeQuality m s).cb.pending = s.cb.pending ∧ (takeQuality m s).cb.captureDue = s.cb.captureDue ∧
    (takeQuality m s).cb.live.tenants = s.cb.live.tenants ∧ (takeQuality m s).cb.live.timing = s.cb.live.timing ∧
    (takeQuality m s).cb.live.test = s.cb.live.test := by
  refine ⟨?_, ?_, ?_, ?_, ?_, ?_, ?_⟩
  · simp [takeQuality, apply_ite State.cb, apply_ite CB.valid]
  · simp [takeQuality, apply_ite State.cb, apply_ite CB.capture]
  · simp [takeQuality, apply_ite State.cb, apply_ite CB.pending]
  · simp [takeQuality, apply_ite State.cb, apply_ite CB.captureDue]
  · simp [takeQuality, apply_ite State.cb, apply_ite CB.live, apply_ite Bank.tenants]
  · simp [takeQuality, apply_ite State.cb, apply_ite CB.live, apply_ite Bank.timing]
  · simp [takeQuality, apply_ite State.cb, apply_ite CB.live, apply_ite Bank.test]

/-! `countHeader` -/

@[simp] theorem countHeader_frame (r : Received) (s : State) :
    (countHeader r s).mp = s.mp ∧ (countHeader r s).sf = s.sf ∧ (countHeader r s).ps = s.ps ∧
    (countHeader r s).mc = s.mc ∧ (countHeader r s).lc = s.lc ∧ (countHeader r s).tn = s.tn ∧
    (countHeader r s).ca = s.ca ∧ (countHeader r s).tm = s.tm := by
  refine ⟨?_, ?_, ?_, ?_, ?_, ?_, ?_, ?_⟩
  · simp [countHeader, apply_ite State.mp]
  · simp [countHeader, apply_ite State.sf]
  · simp [countHeader, apply_ite State.ps]
  · simp [countHeader, apply_ite State.mc]
  · simp [countHeader, apply_ite State.lc]
  · simp [countHeader, apply_ite State.tn]
  · simp [countHeader, apply_ite State.ca]
  · simp [countHeader, apply_ite State.tm]

@[simp] theorem countHeader_frame_2 (r : Received) (s : State) :
    (countHeader r s).st = s.st ∧ (countHeader r s).cp = s.cp ∧ (countHeader r s).pending = s.pending ∧
    (countHeader r s).cb.snapshot = s.cb.snapshot ∧ (countHeader r s).cb.valid = s.cb.valid ∧
    (countHeader r s).cb.capture = s.cb.capture ∧ (countHeader r s).cb.pending = s.cb.pending ∧
    (countHeader r s).cb.captureDue = s.cb.captureDue := by
  refine ⟨?_, ?_, ?_, ?_, ?_, ?_, ?_, ?_⟩
  · simp [countHeader, apply_ite State.st]
  · simp [countHeader, apply_ite State.cp]
  · simp [countHeader, apply_ite State.pending]
  · simp [countHeader, apply_ite State.cb, apply_ite CB.snapshot]
  · simp [countHeader, apply_ite State.cb, apply_ite CB.valid]
  · simp [countHeader, apply_ite State.cb, apply_ite CB.capture]
  · simp [countHeader, apply_ite State.cb, apply_ite CB.pending]
  · simp [countHeader, apply_ite State.cb, apply_ite CB.captureDue]

@[simp] theorem countHeader_frame_3 (r : Received) (s : State) :
    (countHeader r s).cb.live.tenants = s.cb.live.tenants ∧ (countHeader r s).cb.live.timing = s.cb.live.timing ∧
    (countHeader r s).cb.live.test = s.cb.live.test := by
  refine ⟨?_, ?_, ?_⟩
  · simp [countHeader, apply_ite State.cb, apply_ite CB.live, apply_ite Bank.tenants]
  · simp [countHeader, apply_ite State.cb, apply_ite CB.live, apply_ite Bank.timing]
  · simp [countHeader, apply_ite State.cb, apply_ite CB.live, apply_ite Bank.test]

/-! `renumberOn` -/

@[simp] theorem renumberOn_frame (h : Header) (s : State) :
    (renumberOn h s).sf = s.sf ∧ (renumberOn h s).ps = s.ps ∧ (renumberOn h s).mc = s.mc ∧
    (renumberOn h s).lc = s.lc ∧ (renumberOn h s).tn = s.tn ∧ (renumberOn h s).ca = s.ca ∧
    (renumberOn h s).tm = s.tm ∧ (renumberOn h s).st = s.st := by
  refine ⟨?_, ?_, ?_, ?_, ?_, ?_, ?_, ?_⟩
  · simp [renumberOn, apply_ite State.sf]
  · simp [renumberOn, apply_ite State.ps]
  · simp [renumberOn, apply_ite State.mc]
  · simp [renumberOn, apply_ite State.lc]
  · simp [renumberOn, apply_ite State.tn]
  · simp [renumberOn, apply_ite State.ca]
  · simp [renumberOn, apply_ite State.tm]
  · simp [renumberOn, apply_ite State.st]

@[simp] theorem renumberOn_frame_2 (h : Header) (s : State) :
    (renumberOn h s).cb = s.cb ∧ (renumberOn h s).cp = s.cp ∧ (renumberOn h s).pending = s.pending ∧
    (renumberOn h s).mp.frame = s.mp.frame ∧ (renumberOn h s).mp.composed = s.mp.composed ∧
    (renumberOn h s).mp.rxTaken = s.mp.rxTaken ∧ (renumberOn h s).mp.tx = s.mp.tx ∧
    (renumberOn h s).mp.txBefore = s.mp.txBefore := by
  refine ⟨?_, ?_, ?_, ?_, ?_, ?_, ?_, ?_⟩
  · simp [renumberOn, apply_ite State.cb]
  · simp [renumberOn, apply_ite State.cp]
  · simp [renumberOn, apply_ite State.pending]
  · simp [renumberOn, apply_ite State.mp, apply_ite MP.frame]
  · simp [renumberOn, apply_ite State.mp, apply_ite MP.composed]
  · simp [renumberOn, apply_ite State.mp, apply_ite MP.rxTaken]
  · simp [renumberOn, apply_ite State.mp, apply_ite MP.tx]
  · simp [renumberOn, apply_ite State.mp, apply_ite MP.txBefore]

@[simp] theorem renumberOn_frame_3 (h : Header) (s : State) :
    (renumberOn h s).mp.loopSwitch = s.mp.loopSwitch ∧ (renumberOn h s).mp.loopback = s.mp.loopback := by
  refine ⟨?_, ?_⟩
  · simp [renumberOn, apply_ite State.mp, apply_ite MP.loopSwitch]
  · simp [renumberOn, apply_ite State.mp, apply_ite MP.loopback]

/-! `noPositions` -/

@[simp] theorem noPositions_frame (s : State) :
    (noPositions s).mp = s.mp ∧ (noPositions s).sf = s.sf ∧ (noPositions s).ps = s.ps ∧ (noPositions s).mc = s.mc ∧
    (noPositions s).lc = s.lc ∧ (noPositions s).ca = s.ca ∧ (noPositions s).tm = s.tm ∧ (noPositions s).cp = s.cp := by
  refine ⟨?_, ?_, ?_, ?_, ?_, ?_, ?_, ?_⟩ <;>
    simp [noPositions]

@[simp] theorem noPositions_frame_2 (s : State) :
    (noPositions s).pending = s.pending ∧ (noPositions s).tn.free = s.tn.free ∧
    (noPositions s).st.errored = s.st.errored ∧ (noPositions s).st.bits = s.st.bits ∧
    (noPositions s).st.commissioned = s.st.commissioned ∧ (noPositions s).st.kind = s.st.kind ∧
    (noPositions s).st.frames = s.st.frames ∧ (noPositions s).st.test = s.st.test := by
  refine ⟨?_, ?_, ?_, ?_, ?_, ?_, ?_, ?_⟩ <;>
    simp [noPositions]

@[simp] theorem noPositions_frame_3 (s : State) :
    (noPositions s).cb.snapshot = s.cb.snapshot ∧ (noPositions s).cb.valid = s.cb.valid ∧
    (noPositions s).cb.capture = s.cb.capture ∧ (noPositions s).cb.pending = s.cb.pending ∧
    (noPositions s).cb.captureDue = s.cb.captureDue ∧ (noPositions s).cb.live.timing = s.cb.live.timing ∧
    (noPositions s).cb.live.test = s.cb.live.test := by
  refine ⟨?_, ?_, ?_, ?_, ?_, ?_, ?_⟩ <;>
    simp [noPositions]

/-! `countChannels` -/

theorem countChannels_frame {α : Type} (g : State → α) (h : ∀ c s, g (countChannel c s) = g s)
    (cs : List ChannelCounter) (s : State) : g (cs.foldl (fun s c => countChannel c s) s) = g s := by
  induction cs generalizing s with
  | nil => rfl
  | cons c cs ih => rw [List.foldl_cons, ih, h]

/-! `takeAreaMessages` -/

@[simp] theorem takeAreaMessages_frame (h : Header) (p : List Byte) (s : State) :
    (takeAreaMessages h p s).mp = s.mp ∧ (takeAreaMessages h p s).sf = s.sf ∧ (takeAreaMessages h p s).ps = s.ps ∧
    (takeAreaMessages h p s).lc = s.lc ∧ (takeAreaMessages h p s).tn = s.tn ∧ (takeAreaMessages h p s).ca = s.ca ∧
    (takeAreaMessages h p s).tm = s.tm ∧ (takeAreaMessages h p s).st = s.st := by
  refine ⟨?_, ?_, ?_, ?_, ?_, ?_, ?_, ?_⟩
  · simp [takeAreaMessages, countChannels_frame (fun x => x.mp)]
  · simp [takeAreaMessages, countChannels_frame (fun x => x.sf)]
  · simp [takeAreaMessages, countChannels_frame (fun x => x.ps)]
  · simp [takeAreaMessages, countChannels_frame (fun x => x.lc)]
  · simp [takeAreaMessages, countChannels_frame (fun x => x.tn)]
  · simp [takeAreaMessages, countChannels_frame (fun x => x.ca)]
  · simp [takeAreaMessages, countChannels_frame (fun x => x.tm)]
  · simp [takeAreaMessages, countChannels_frame (fun x => x.st)]

@[simp] theorem takeAreaMessages_frame_2 (h : Header) (p : List Byte) (s : State) :
    (takeAreaMessages h p s).cp = s.cp ∧ (takeAreaMessages h p s).pending = s.pending ∧
    (takeAreaMessages h p s).mc.restart = s.mc.restart ∧ (takeAreaMessages h p s).mc.flagCount = s.mc.flagCount ∧
    (takeAreaMessages h p s).cb.snapshot = s.cb.snapshot ∧ (takeAreaMessages h p s).cb.valid = s.cb.valid ∧
    (takeAreaMessages h p s).cb.capture = s.cb.capture ∧ (takeAreaMessages h p s).cb.pending = s.cb.pending := by
  refine ⟨?_, ?_, ?_, ?_, ?_, ?_, ?_, ?_⟩
  · simp [takeAreaMessages, countChannels_frame (fun x => x.cp)]
  · simp [takeAreaMessages, countChannels_frame (fun x => x.pending)]
  · simp [takeAreaMessages, countChannels_frame (fun x => x.mc.restart)]
  · simp [takeAreaMessages, countChannels_frame (fun x => x.mc.flagCount)]
  · simp [takeAreaMessages, countChannels_frame (fun x => x.cb.snapshot)]
  · simp [takeAreaMessages, countChannels_frame (fun x => x.cb.valid)]
  · simp [takeAreaMessages, countChannels_frame (fun x => x.cb.capture)]
  · simp [takeAreaMessages, countChannels_frame (fun x => x.cb.pending)]

@[simp] theorem takeAreaMessages_frame_3 (h : Header) (p : List Byte) (s : State) :
    (takeAreaMessages h p s).cb.captureDue = s.cb.captureDue ∧
    (takeAreaMessages h p s).cb.live.tenants = s.cb.live.tenants ∧
    (takeAreaMessages h p s).cb.live.timing = s.cb.live.timing ∧
    (takeAreaMessages h p s).cb.live.test = s.cb.live.test := by
  refine ⟨?_, ?_, ?_, ?_⟩
  · simp [takeAreaMessages, countChannels_frame (fun x => x.cb.captureDue)]
  · simp [takeAreaMessages, countChannels_frame (fun x => x.cb.live.tenants)]
  · simp [takeAreaMessages, countChannels_frame (fun x => x.cb.live.timing)]
  · simp [takeAreaMessages, countChannels_frame (fun x => x.cb.live.test)]

/-! `skipMisplaced` -/

@[simp] theorem skipMisplaced_frame (ms : List RxMessage) (s : State) :
    (skipMisplaced ms s).mp = s.mp ∧ (skipMisplaced ms s).sf = s.sf ∧ (skipMisplaced ms s).ps = s.ps ∧
    (skipMisplaced ms s).lc = s.lc ∧ (skipMisplaced ms s).tn = s.tn ∧ (skipMisplaced ms s).ca = s.ca ∧
    (skipMisplaced ms s).tm = s.tm ∧ (skipMisplaced ms s).st = s.st := by
  refine ⟨?_, ?_, ?_, ?_, ?_, ?_, ?_, ?_⟩ <;>
    ((induction ms generalizing s with | nil => simp [skipMisplaced] | cons m ms ih => (rw [skipMisplaced]; split <;> simp_all)))

@[simp] theorem skipMisplaced_frame_2 (ms : List RxMessage) (s : State) :
    (skipMisplaced ms s).cp = s.cp ∧ (skipMisplaced ms s).pending = s.pending ∧
    (skipMisplaced ms s).mc.restart = s.mc.restart ∧ (skipMisplaced ms s).mc.flagCount = s.mc.flagCount ∧
    (skipMisplaced ms s).cb.snapshot = s.cb.snapshot ∧ (skipMisplaced ms s).cb.valid = s.cb.valid ∧
    (skipMisplaced ms s).cb.capture = s.cb.capture ∧ (skipMisplaced ms s).cb.pending = s.cb.pending := by
  refine ⟨?_, ?_, ?_, ?_, ?_, ?_, ?_, ?_⟩ <;>
    ((induction ms generalizing s with | nil => simp [skipMisplaced] | cons m ms ih => (rw [skipMisplaced]; split <;> simp_all)))

@[simp] theorem skipMisplaced_frame_3 (ms : List RxMessage) (s : State) :
    (skipMisplaced ms s).cb.captureDue = s.cb.captureDue ∧ (skipMisplaced ms s).cb.live.tenants = s.cb.live.tenants ∧
    (skipMisplaced ms s).cb.live.timing = s.cb.live.timing ∧ (skipMisplaced ms s).cb.live.test = s.cb.live.test := by
  refine ⟨?_, ?_, ?_, ?_⟩ <;>
    ((induction ms generalizing s with | nil => simp [skipMisplaced] | cons m ms ih => (rw [skipMisplaced]; split <;> simp_all)))

/-! `takeArea` -/

@[simp] theorem takeArea_frame (s : State) :
    ((takeArea s).1).mp = s.mp ∧ ((takeArea s).1).sf = s.sf ∧ ((takeArea s).1).ps = s.ps ∧
    ((takeArea s).1).lc = s.lc ∧ ((takeArea s).1).tn = s.tn ∧ ((takeArea s).1).ca = s.ca ∧
    ((takeArea s).1).st = s.st ∧ ((takeArea s).1).cp = s.cp ∧ ((takeArea s).1).pending = s.pending := by
  refine ⟨?_, ?_, ?_, ?_, ?_, ?_, ?_, ?_, ?_⟩ <;>
    ((unfold takeArea; dsimp only; (repeat' split) <;> simp_all))

@[simp] theorem takeArea_cb (s : State) :
    ((takeArea s).1).cb.snapshot = s.cb.snapshot ∧ ((takeArea s).1).cb.valid = s.cb.valid ∧
    ((takeArea s).1).cb.capture = s.cb.capture ∧ ((takeArea s).1).cb.pending = s.cb.pending ∧
    ((takeArea s).1).cb.captureDue = s.cb.captureDue ∧ ((takeArea s).1).cb.live.tenants = s.cb.live.tenants ∧
    ((takeArea s).1).cb.live.link = s.cb.live.link ∧ ((takeArea s).1).cb.live.test = s.cb.live.test ∧
    ((takeArea s).1).cb.live.control = s.cb.live.control := by
  refine ⟨?_, ?_, ?_, ?_, ?_, ?_, ?_, ?_, ?_⟩ <;>
    ((unfold takeArea; dsimp only; (repeat' split) <;> simp_all))

@[simp] theorem takeArea_frame_2 (s : State) :
    ((takeArea s).1).mc.restart = s.mc.restart ∧ ((takeArea s).1).mc.inbox = s.mc.inbox ∧
    ((takeArea s).1).mc.flagCount = s.mc.flagCount ∧ ((takeArea s).1).tm.time = s.tm.time ∧
    ((takeArea s).1).tm.state = s.tm.state ∧ ((takeArea s).1).tm.expired = s.tm.expired ∧
    ((takeArea s).1).tm.config = s.tm.config ∧ ((takeArea s).1).tm.steer = s.tm.steer := by
  refine ⟨?_, ?_, ?_, ?_, ?_, ?_, ?_, ?_⟩ <;>
    ((unfold takeArea; dsimp only; (repeat' split) <;> simp_all))

@[simp] theorem takeArea_frame_3 (s : State) :
    ((takeArea s).1).tm.pps = s.tm.pps ∧ ((takeArea s).1).tm.current = s.tm.current ∧
    ((takeArea s).1).tm.before = s.tm.before ∧ ((takeArea s).1).tm.window = s.tm.window ∧
    ((takeArea s).1).tm.integrator = s.tm.integrator ∧ ((takeArea s).1).tm.sequence = s.tm.sequence := by
  refine ⟨?_, ?_, ?_, ?_, ?_, ?_⟩ <;>
    ((unfold takeArea; dsimp only; (repeat' split) <;> simp_all))

/-! `holdFrame` -/

@[simp] theorem holdFrame_frame (p : List Byte) (o : List (List Byte)) (s : State) :
    (holdFrame p o s).sf = s.sf ∧ (holdFrame p o s).ps = s.ps ∧ (holdFrame p o s).mc = s.mc ∧
    (holdFrame p o s).lc = s.lc ∧ (holdFrame p o s).tn = s.tn ∧ (holdFrame p o s).ca = s.ca ∧
    (holdFrame p o s).tm = s.tm ∧ (holdFrame p o s).st = s.st := by
  refine ⟨?_, ?_, ?_, ?_, ?_, ?_, ?_, ?_⟩
  · simp [holdFrame, apply_ite State.sf]
  · simp [holdFrame, apply_ite State.ps]
  · simp [holdFrame, apply_ite State.mc]
  · simp [holdFrame, apply_ite State.lc]
  · simp [holdFrame, apply_ite State.tn]
  · simp [holdFrame, apply_ite State.ca]
  · simp [holdFrame, apply_ite State.tm]
  · simp [holdFrame, apply_ite State.st]

@[simp] theorem holdFrame_frame_2 (p : List Byte) (o : List (List Byte)) (s : State) :
    (holdFrame p o s).cp = s.cp ∧ (holdFrame p o s).pending = s.pending ∧ (holdFrame p o s).mp.frame = s.mp.frame ∧
    (holdFrame p o s).mp.rxTaken = s.mp.rxTaken ∧ (holdFrame p o s).mp.loopSwitch = s.mp.loopSwitch ∧
    (holdFrame p o s).mp.loopback = s.mp.loopback ∧ (holdFrame p o s).cb.snapshot = s.cb.snapshot ∧
    (holdFrame p o s).cb.valid = s.cb.valid := by
  refine ⟨?_, ?_, ?_, ?_, ?_, ?_, ?_, ?_⟩
  · simp [holdFrame, apply_ite State.cp]
  · simp [holdFrame, apply_ite State.pending]
  · simp [holdFrame, apply_ite State.mp, apply_ite MP.frame]
  · simp [holdFrame, apply_ite State.mp, apply_ite MP.rxTaken]
  · simp [holdFrame, apply_ite State.mp, apply_ite MP.loopSwitch]
  · simp [holdFrame, apply_ite State.mp, apply_ite MP.loopback]
  · simp [holdFrame, apply_ite State.cb, apply_ite CB.snapshot]
  · simp [holdFrame, apply_ite State.cb, apply_ite CB.valid]

@[simp] theorem holdFrame_frame_3 (p : List Byte) (o : List (List Byte)) (s : State) :
    (holdFrame p o s).cb.capture = s.cb.capture ∧ (holdFrame p o s).cb.pending = s.cb.pending ∧
    (holdFrame p o s).cb.captureDue = s.cb.captureDue ∧ (holdFrame p o s).cb.live.tenants = s.cb.live.tenants ∧
    (holdFrame p o s).cb.live.timing = s.cb.live.timing ∧ (holdFrame p o s).cb.live.test = s.cb.live.test := by
  refine ⟨?_, ?_, ?_, ?_, ?_, ?_⟩
  · simp [holdFrame, apply_ite State.cb, apply_ite CB.capture]
  · simp [holdFrame, apply_ite State.cb, apply_ite CB.pending]
  · simp [holdFrame, apply_ite State.cb, apply_ite CB.captureDue]
  · simp [holdFrame, apply_ite State.cb, apply_ite CB.live, apply_ite Bank.tenants]
  · simp [holdFrame, apply_ite State.cb, apply_ite CB.live, apply_ite Bank.timing]
  · simp [holdFrame, apply_ite State.cb, apply_ite CB.live, apply_ite Bank.test]

/-! `placeFrame` -/

@[simp] theorem placeFrame_frame (s : State) :
    (placeFrame s).sf = s.sf ∧ (placeFrame s).ps = s.ps ∧ (placeFrame s).lc = s.lc ∧ (placeFrame s).ca = s.ca ∧
    (placeFrame s).st = s.st ∧ (placeFrame s).cp = s.cp ∧ (placeFrame s).pending = s.pending ∧
    (placeFrame s).mp.frame = s.mp.frame := by
  refine ⟨?_, ?_, ?_, ?_, ?_, ?_, ?_, ?_⟩ <;>
    simp [placeFrame]

@[simp] theorem placeFrame_frame_2 (s : State) :
    (placeFrame s).mp.rxTaken = s.mp.rxTaken ∧ (placeFrame s).mp.loopSwitch = s.mp.loopSwitch ∧
    (placeFrame s).mp.loopback = s.mp.loopback ∧ (placeFrame s).mc.restart = s.mc.restart ∧
    (placeFrame s).mc.inbox = s.mc.inbox ∧ (placeFrame s).mc.flagCount = s.mc.flagCount ∧
    (placeFrame s).tm.time = s.tm.time ∧ (placeFrame s).tm.state = s.tm.state := by
  refine ⟨?_, ?_, ?_, ?_, ?_, ?_, ?_, ?_⟩ <;>
    simp [placeFrame]

@[simp] theorem placeFrame_frame_3 (s : State) :
    (placeFrame s).tm.expired = s.tm.expired ∧ (placeFrame s).tm.config = s.tm.config ∧
    (placeFrame s).tm.steer = s.tm.steer ∧ (placeFrame s).tm.pps = s.tm.pps ∧
    (placeFrame s).tm.current = s.tm.current ∧ (placeFrame s).tm.before = s.tm.before ∧
    (placeFrame s).tm.window = s.tm.window ∧ (placeFrame s).tm.integrator = s.tm.integrator := by
  refine ⟨?_, ?_, ?_, ?_, ?_, ?_, ?_, ?_⟩ <;>
    simp [placeFrame]

@[simp] theorem placeFrame_frame_4 (s : State) :
    (placeFrame s).tm.sequence = s.tm.sequence ∧ (placeFrame s).cb.snapshot = s.cb.snapshot ∧
    (placeFrame s).cb.valid = s.cb.valid ∧ (placeFrame s).cb.capture = s.cb.capture ∧
    (placeFrame s).cb.pending = s.cb.pending ∧ (placeFrame s).cb.captureDue = s.cb.captureDue ∧
    (placeFrame s).cb.live.test = s.cb.live.test := by
  refine ⟨?_, ?_, ?_, ?_, ?_, ?_, ?_⟩ <;>
    simp [placeFrame]

/-! `takeLock` -/

@[simp] theorem takeLock_frame (h : Option Header) (s : State) :
    (takeLock h s).pending = s.pending ∧ (takeLock h s).mp.frame = s.mp.frame ∧
    (takeLock h s).mp.composed = s.mp.composed ∧ (takeLock h s).mp.rxTaken = s.mp.rxTaken ∧
    (takeLock h s).mp.tx = s.mp.tx ∧ (takeLock h s).mp.txBefore = s.mp.txBefore ∧
    (takeLock h s).mp.loopback = s.mp.loopback ∧ (takeLock h s).ps.active = s.ps.active := by
  refine ⟨?_, ?_, ?_, ?_, ?_, ?_, ?_, ?_⟩ <;>
    ((simp only [takeLock]; (repeat' split) <;> simp_all))

@[simp] theorem takeLock_frame_2 (h : Option Header) (s : State) :
    (takeLock h s).ps.fallback = s.ps.fallback ∧ (takeLock h s).ps.previous = s.ps.previous ∧
    (takeLock h s).ps.idleDue = s.ps.idleDue ∧ (takeLock h s).mc.restart = s.mc.restart ∧
    (takeLock h s).mc.inbox = s.mc.inbox ∧ (takeLock h s).mc.flagCount = s.mc.flagCount ∧
    (takeLock h s).lc.role = s.lc.role ∧ (takeLock h s).lc.identity = s.lc.identity := by
  refine ⟨?_, ?_, ?_, ?_, ?_, ?_, ?_, ?_⟩ <;>
    ((simp only [takeLock]; (repeat' split) <;> simp_all))

@[simp] theorem takeLock_frame_3 (h : Option Header) (s : State) :
    (takeLock h s).lc.stop = s.lc.stop ∧ (takeLock h s).lc.history = s.lc.history ∧
    (takeLock h s).lc.hostMax = s.lc.hostMax ∧ (takeLock h s).tn.free = s.tn.free ∧
    (takeLock h s).ca.fixed = s.ca.fixed ∧ (takeLock h s).ca.fixedCounts = s.ca.fixedCounts ∧
    (takeLock h s).tm.time = s.tm.time ∧ (takeLock h s).tm.config = s.tm.config := by
  refine ⟨?_, ?_, ?_, ?_, ?_, ?_, ?_, ?_⟩ <;>
    ((simp only [takeLock]; (repeat' split) <;> simp_all))

@[simp] theorem takeLock_frame_4 (h : Option Header) (s : State) :
    (takeLock h s).tm.current = s.tm.current ∧ (takeLock h s).tm.before = s.tm.before ∧
    (takeLock h s).tm.integrator = s.tm.integrator ∧ (takeLock h s).tm.sequence = s.tm.sequence ∧
    (takeLock h s).st.errored = s.st.errored ∧ (takeLock h s).st.bits = s.st.bits ∧
    (takeLock h s).st.kind = s.st.kind ∧ (takeLock h s).st.frames = s.st.frames := by
  refine ⟨?_, ?_, ?_, ?_, ?_, ?_, ?_, ?_⟩ <;>
    ((simp only [takeLock]; (repeat' split) <;> simp_all))

@[simp] theorem takeLock_frame_5 (h : Option Header) (s : State) :
    (takeLock h s).st.test = s.st.test ∧ (takeLock h s).cb.snapshot = s.cb.snapshot ∧
    (takeLock h s).cb.valid = s.cb.valid ∧ (takeLock h s).cb.capture = s.cb.capture ∧
    (takeLock h s).cb.pending = s.cb.pending ∧ (takeLock h s).cb.captureDue = s.cb.captureDue ∧
    (takeLock h s).cb.live.tenants = s.cb.live.tenants ∧ (takeLock h s).cb.live.timing = s.cb.live.timing := by
  refine ⟨?_, ?_, ?_, ?_, ?_, ?_, ?_, ?_⟩ <;>
    ((simp only [takeLock]; (repeat' split) <;> simp_all))

@[simp] theorem takeLock_frame_6 (h : Option Header) (s : State) :
    (takeLock h s).cb.live.test = s.cb.live.test ∧ (takeLock h s).cp.rate = s.cp.rate ∧
    (takeLock h s).cp.receiver = s.cp.receiver ∧ (takeLock h s).cp.buffer = s.cp.buffer ∧
    (takeLock h s).cp.service = s.cp.service ∧ (takeLock h s).cp.attention = s.cp.attention ∧
    (takeLock h s).cp.resetDue = s.cp.resetDue := by
  refine ⟨?_, ?_, ?_, ?_, ?_, ?_, ?_⟩ <;>
    ((simp only [takeLock]; (repeat' split) <;> simp_all))

/-! `takeNibbles` -/

@[simp] theorem takeNibbles_frame (h : Header) (r : Received) (s : State) :
    (takeNibbles h r s).mp = s.mp ∧ (takeNibbles h r s).sf = s.sf ∧ (takeNibbles h r s).ps = s.ps ∧
    (takeNibbles h r s).mc = s.mc ∧ (takeNibbles h r s).lc = s.lc ∧ (takeNibbles h r s).ca = s.ca ∧
    (takeNibbles h r s).tm = s.tm ∧ (takeNibbles h r s).st = s.st := by
  refine ⟨?_, ?_, ?_, ?_, ?_, ?_, ?_, ?_⟩
  · simp [takeNibbles, apply_ite State.mp]
  · simp [takeNibbles, apply_ite State.sf]
  · simp [takeNibbles, apply_ite State.ps]
  · simp [takeNibbles, apply_ite State.mc]
  · simp [takeNibbles, apply_ite State.lc]
  · simp [takeNibbles, apply_ite State.ca]
  · simp [takeNibbles, apply_ite State.tm]
  · simp [takeNibbles, apply_ite State.st]

@[simp] theorem takeNibbles_frame_2 (h : Header) (r : Received) (s : State) :
    (takeNibbles h r s).pending = s.pending ∧ (takeNibbles h r s).tn.free = s.tn.free ∧
    (takeNibbles h r s).cb.snapshot = s.cb.snapshot ∧ (takeNibbles h r s).cb.valid = s.cb.valid ∧
    (takeNibbles h r s).cb.capture = s.cb.capture ∧ (takeNibbles h r s).cb.pending = s.cb.pending ∧
    (takeNibbles h r s).cb.captureDue = s.cb.captureDue ∧ (takeNibbles h r s).cb.live.tenants = s.cb.live.tenants := by
  refine ⟨?_, ?_, ?_, ?_, ?_, ?_, ?_, ?_⟩
  · simp [takeNibbles, apply_ite State.pending]
  · simp [takeNibbles, apply_ite State.tn, apply_ite TN.free]
  · simp [takeNibbles, apply_ite State.cb, apply_ite CB.snapshot]
  · simp [takeNibbles, apply_ite State.cb, apply_ite CB.valid]
  · simp [takeNibbles, apply_ite State.cb, apply_ite CB.capture]
  · simp [takeNibbles, apply_ite State.cb, apply_ite CB.pending]
  · simp [takeNibbles, apply_ite State.cb, apply_ite CB.captureDue]
  · simp [takeNibbles, apply_ite State.cb, apply_ite CB.live, apply_ite Bank.tenants]

@[simp] theorem takeNibbles_frame_3 (h : Header) (r : Received) (s : State) :
    (takeNibbles h r s).cb.live.timing = s.cb.live.timing ∧ (takeNibbles h r s).cb.live.test = s.cb.live.test ∧
    (takeNibbles h r s).cp.rate = s.cp.rate ∧ (takeNibbles h r s).cp.receiver = s.cp.receiver ∧
    (takeNibbles h r s).cp.buffer = s.cp.buffer ∧ (takeNibbles h r s).cp.service = s.cp.service ∧
    (takeNibbles h r s).cp.attention = s.cp.attention ∧ (takeNibbles h r s).cp.resetDue = s.cp.resetDue := by
  refine ⟨?_, ?_, ?_, ?_, ?_, ?_, ?_, ?_⟩
  · simp [takeNibbles, apply_ite State.cb, apply_ite CB.live, apply_ite Bank.timing]
  · simp [takeNibbles, apply_ite State.cb, apply_ite CB.live, apply_ite Bank.test]
  · simp [takeNibbles, apply_ite State.cp, apply_ite CP.rate]
  · simp [takeNibbles, apply_ite State.cp, apply_ite CP.receiver]
  · simp [takeNibbles, apply_ite State.cp, apply_ite CP.buffer]
  · simp [takeNibbles, apply_ite State.cp, apply_ite CP.service]
  · simp [takeNibbles, apply_ite State.cp, apply_ite CP.attention]
  · simp [takeNibbles, apply_ite State.cp, apply_ite CP.resetDue]

/-! `markBy` -/

@[simp] theorem markBy_frame (h : Header) (r : Received) (s : State) :
    (markBy h r s).mp = s.mp ∧ (markBy h r s).sf = s.sf ∧ (markBy h r s).mc = s.mc ∧ (markBy h r s).lc = s.lc ∧
    (markBy h r s).tn = s.tn ∧ (markBy h r s).ca = s.ca ∧ (markBy h r s).tm = s.tm ∧ (markBy h r s).st = s.st := by
  refine ⟨?_, ?_, ?_, ?_, ?_, ?_, ?_, ?_⟩
  · simp [markBy, apply_ite State.mp]
  · simp [markBy, apply_ite State.sf]
  · simp [markBy, apply_ite State.mc]
  · simp [markBy, apply_ite State.lc]
  · simp [markBy, apply_ite State.tn]
  · simp [markBy, apply_ite State.ca]
  · simp [markBy, apply_ite State.tm]
  · simp [markBy, apply_ite State.st]

@[simp] theorem markBy_frame_2 (h : Header) (r : Received) (s : State) :
    (markBy h r s).cb = s.cb ∧ (markBy h r s).cp = s.cp ∧ (markBy h r s).pending = s.pending ∧
    (markBy h r s).ps.active = s.ps.active ∧ (markBy h r s).ps.fallback = s.ps.fallback ∧
    (markBy h r s).ps.previous = s.ps.previous ∧ (markBy h r s).ps.idleDue = s.ps.idleDue := by
  refine ⟨?_, ?_, ?_, ?_, ?_, ?_, ?_⟩
  · simp [markBy, apply_ite State.cb]
  · simp [markBy, apply_ite State.cp]
  · simp [markBy, apply_ite State.pending]
  · simp [markBy, apply_ite State.ps, apply_ite PS.active]
  · simp [markBy, apply_ite State.ps, apply_ite PS.fallback]
  · simp [markBy, apply_ite State.ps, apply_ite PS.previous]
  · simp [markBy, apply_ite State.ps, apply_ite PS.idleDue]

/-! `distribute` -/

@[simp] theorem distribute_frame (h : Header) (p : Plan) (r : Received) (s : State) :
    (distribute h p r s).sf = s.sf ∧ (distribute h p r s).tm = s.tm ∧ (distribute h p r s).pending = s.pending ∧
    (distribute h p r s).mp.frame = s.mp.frame ∧ (distribute h p r s).mp.composed = s.mp.composed ∧
    (distribute h p r s).mp.rxTaken = s.mp.rxTaken ∧ (distribute h p r s).mp.tx = s.mp.tx ∧
    (distribute h p r s).mp.txBefore = s.mp.txBefore := by
  refine ⟨?_, ?_, ?_, ?_, ?_, ?_, ?_, ?_⟩ <;>
    simp [distribute]

@[simp] theorem distribute_frame_2 (h : Header) (p : Plan) (r : Received) (s : State) :
    (distribute h p r s).mp.loopback = s.mp.loopback ∧ (distribute h p r s).ps.active = s.ps.active ∧
    (distribute h p r s).ps.fallback = s.ps.fallback ∧ (distribute h p r s).ps.previous = s.ps.previous ∧
    (distribute h p r s).ps.idleDue = s.ps.idleDue ∧ (distribute h p r s).mc.restart = s.mc.restart ∧
    (distribute h p r s).mc.inbox = s.mc.inbox ∧ (distribute h p r s).mc.flagCount = s.mc.flagCount := by
  refine ⟨?_, ?_, ?_, ?_, ?_, ?_, ?_, ?_⟩ <;>
    simp [distribute]

@[simp] theorem distribute_frame_3 (h : Header) (p : Plan) (r : Received) (s : State) :
    (distribute h p r s).lc.role = s.lc.role ∧ (distribute h p r s).lc.identity = s.lc.identity ∧
    (distribute h p r s).lc.stop = s.lc.stop ∧ (distribute h p r s).lc.history = s.lc.history ∧
    (distribute h p r s).lc.hostMax = s.lc.hostMax ∧ (distribute h p r s).tn.free = s.tn.free ∧
    (distribute h p r s).ca.fixed = s.ca.fixed ∧ (distribute h p r s).ca.fixedCounts = s.ca.fixedCounts := by
  refine ⟨?_, ?_, ?_, ?_, ?_, ?_, ?_, ?_⟩ <;>
    simp [distribute]

@[simp] theorem distribute_frame_4 (h : Header) (p : Plan) (r : Received) (s : State) :
    (distribute h p r s).cb.snapshot = s.cb.snapshot ∧ (distribute h p r s).cb.valid = s.cb.valid ∧
    (distribute h p r s).cb.capture = s.cb.capture ∧ (distribute h p r s).cb.pending = s.cb.pending ∧
    (distribute h p r s).cb.captureDue = s.cb.captureDue ∧ (distribute h p r s).cb.live.timing = s.cb.live.timing ∧
    (distribute h p r s).cb.live.test = s.cb.live.test ∧ (distribute h p r s).cp.rate = s.cp.rate := by
  refine ⟨?_, ?_, ?_, ?_, ?_, ?_, ?_, ?_⟩ <;>
    simp [distribute]

@[simp] theorem distribute_frame_5 (h : Header) (p : Plan) (r : Received) (s : State) :
    (distribute h p r s).cp.receiver = s.cp.receiver ∧ (distribute h p r s).cp.buffer = s.cp.buffer ∧
    (distribute h p r s).cp.service = s.cp.service ∧ (distribute h p r s).cp.attention = s.cp.attention ∧
    (distribute h p r s).cp.resetDue = s.cp.resetDue := by
  refine ⟨?_, ?_, ?_, ?_, ?_⟩ <;>
    simp [distribute]

/-! `takePositions` -/

@[simp] theorem takePositions_frame (h : Header) (r : Received) (d : Option Plan) (s : State) :
    (takePositions h r d s).sf = s.sf ∧ (takePositions h r d s).tm = s.tm ∧
    (takePositions h r d s).pending = s.pending ∧ (takePositions h r d s).mp.frame = s.mp.frame ∧
    (takePositions h r d s).mp.composed = s.mp.composed ∧ (takePositions h r d s).mp.rxTaken = s.mp.rxTaken ∧
    (takePositions h r d s).mp.tx = s.mp.tx ∧ (takePositions h r d s).mp.txBefore = s.mp.txBefore := by
  refine ⟨?_, ?_, ?_, ?_, ?_, ?_, ?_, ?_⟩ <;>
    ((cases d <;> simp [takePositions]))

@[simp] theorem takePositions_frame_2 (h : Header) (r : Received) (d : Option Plan) (s : State) :
    (takePositions h r d s).mp.loopback = s.mp.loopback ∧ (takePositions h r d s).ps.active = s.ps.active ∧
    (takePositions h r d s).ps.fallback = s.ps.fallback ∧ (takePositions h r d s).ps.previous = s.ps.previous ∧
    (takePositions h r d s).ps.idleDue = s.ps.idleDue ∧ (takePositions h r d s).mc.restart = s.mc.restart ∧
    (takePositions h r d s).mc.inbox = s.mc.inbox ∧ (takePositions h r d s).mc.flagCount = s.mc.flagCount := by
  refine ⟨?_, ?_, ?_, ?_, ?_, ?_, ?_, ?_⟩ <;>
    ((cases d <;> simp [takePositions]))

@[simp] theorem takePositions_frame_3 (h : Header) (r : Received) (d : Option Plan) (s : State) :
    (takePositions h r d s).lc.role = s.lc.role ∧ (takePositions h r d s).lc.identity = s.lc.identity ∧
    (takePositions h r d s).lc.stop = s.lc.stop ∧ (takePositions h r d s).lc.history = s.lc.history ∧
    (takePositions h r d s).lc.hostMax = s.lc.hostMax ∧ (takePositions h r d s).tn.free = s.tn.free ∧
    (takePositions h r d s).ca.fixed = s.ca.fixed ∧ (takePositions h r d s).ca.fixedCounts = s.ca.fixedCounts := by
  refine ⟨?_, ?_, ?_, ?_, ?_, ?_, ?_, ?_⟩ <;>
    ((cases d <;> simp [takePositions]))

@[simp] theorem takePositions_frame_4 (h : Header) (r : Received) (d : Option Plan) (s : State) :
    (takePositions h r d s).cb.snapshot = s.cb.snapshot ∧ (takePositions h r d s).cb.valid = s.cb.valid ∧
    (takePositions h r d s).cb.capture = s.cb.capture ∧ (takePositions h r d s).cb.pending = s.cb.pending ∧
    (takePositions h r d s).cb.captureDue = s.cb.captureDue ∧
    (takePositions h r d s).cb.live.timing = s.cb.live.timing ∧
    (takePositions h r d s).cb.live.test = s.cb.live.test ∧ (takePositions h r d s).cp.rate = s.cp.rate := by
  refine ⟨?_, ?_, ?_, ?_, ?_, ?_, ?_, ?_⟩ <;>
    ((cases d <;> simp [takePositions]))

@[simp] theorem takePositions_frame_5 (h : Header) (r : Received) (d : Option Plan) (s : State) :
    (takePositions h r d s).cp.receiver = s.cp.receiver ∧ (takePositions h r d s).cp.buffer = s.cp.buffer ∧
    (takePositions h r d s).cp.service = s.cp.service ∧ (takePositions h r d s).cp.attention = s.cp.attention ∧
    (takePositions h r d s).cp.resetDue = s.cp.resetDue := by
  refine ⟨?_, ?_, ?_, ?_, ?_⟩ <;>
    ((cases d <;> simp [takePositions]))

/-! `fallBy` -/

@[simp] theorem fallBy_frame (h : Header) (r : Received) (s : State) :
    (fallBy h r s).pending = s.pending ∧ (fallBy h r s).mp.frame = s.mp.frame ∧
    (fallBy h r s).mp.composed = s.mp.composed ∧ (fallBy h r s).mp.rxTaken = s.mp.rxTaken ∧
    (fallBy h r s).mp.tx = s.mp.tx ∧ (fallBy h r s).mp.txBefore = s.mp.txBefore ∧
    (fallBy h r s).mp.loopback = s.mp.loopback ∧ (fallBy h r s).sf.locked = s.sf.locked := by
  refine ⟨?_, ?_, ?_, ?_, ?_, ?_, ?_, ?_⟩
  · simp [fallBy, apply_ite State.pending]
  · simp [fallBy, apply_ite State.mp, apply_ite MP.frame]
  · simp [fallBy, apply_ite State.mp, apply_ite MP.composed]
  · simp [fallBy, apply_ite State.mp, apply_ite MP.rxTaken]
  · simp [fallBy, apply_ite State.mp, apply_ite MP.tx]
  · simp [fallBy, apply_ite State.mp, apply_ite MP.txBefore]
  · simp [fallBy, apply_ite State.mp, apply_ite MP.loopback]
  · simp [fallBy, apply_ite State.sf, apply_ite SF.locked]

@[simp] theorem fallBy_frame_2 (h : Header) (r : Received) (s : State) :
    (fallBy h r s).ps.active = s.ps.active ∧ (fallBy h r s).ps.fallback = s.ps.fallback ∧
    (fallBy h r s).ps.previous = s.ps.previous ∧ (fallBy h r s).ps.idleDue = s.ps.idleDue ∧
    (fallBy h r s).mc.restart = s.mc.restart ∧ (fallBy h r s).mc.inbox = s.mc.inbox ∧
    (fallBy h r s).mc.flagCount = s.mc.flagCount ∧ (fallBy h r s).lc.role = s.lc.role := by
  refine ⟨?_, ?_, ?_, ?_, ?_, ?_, ?_, ?_⟩
  · simp [fallBy, apply_ite State.ps, apply_ite PS.active]
  · simp [fallBy, apply_ite State.ps, apply_ite PS.fallback]
  · simp [fallBy, apply_ite State.ps, apply_ite PS.previous]
  · simp [fallBy, apply_ite State.ps, apply_ite PS.idleDue]
  · simp [fallBy, apply_ite State.mc, apply_ite MC.restart]
  · simp [fallBy, apply_ite State.mc, apply_ite MC.inbox]
  · simp [fallBy, apply_ite State.mc, apply_ite MC.flagCount]
  · simp [fallBy, apply_ite State.lc, apply_ite LC.role]

@[simp] theorem fallBy_frame_3 (h : Header) (r : Received) (s : State) :
    (fallBy h r s).lc.identity = s.lc.identity ∧ (fallBy h r s).lc.stop = s.lc.stop ∧
    (fallBy h r s).lc.history = s.lc.history ∧ (fallBy h r s).lc.hostMax = s.lc.hostMax ∧
    (fallBy h r s).tn.free = s.tn.free ∧ (fallBy h r s).ca.fixed = s.ca.fixed ∧
    (fallBy h r s).ca.fixedCounts = s.ca.fixedCounts ∧ (fallBy h r s).tm.time = s.tm.time := by
  refine ⟨?_, ?_, ?_, ?_, ?_, ?_, ?_, ?_⟩
  · simp [fallBy, apply_ite State.lc, apply_ite LC.identity]
  · simp [fallBy, apply_ite State.lc, apply_ite LC.stop]
  · simp [fallBy, apply_ite State.lc, apply_ite LC.history]
  · simp [fallBy, apply_ite State.lc, apply_ite LC.hostMax]
  · simp [fallBy, apply_ite State.tn, apply_ite TN.free]
  · simp [fallBy, apply_ite State.ca, apply_ite CA.fixed]
  · simp [fallBy, apply_ite State.ca, apply_ite CA.fixedCounts]
  · simp [fallBy, apply_ite State.tm, apply_ite TM.time]

@[simp] theorem fallBy_frame_4 (h : Header) (r : Received) (s : State) :
    (fallBy h r s).tm.config = s.tm.config ∧ (fallBy h r s).tm.current = s.tm.current ∧
    (fallBy h r s).tm.before = s.tm.before ∧ (fallBy h r s).tm.integrator = s.tm.integrator ∧
    (fallBy h r s).tm.sequence = s.tm.sequence ∧ (fallBy h r s).st.errored = s.st.errored ∧
    (fallBy h r s).st.bits = s.st.bits ∧ (fallBy h r s).st.kind = s.st.kind := by
  refine ⟨?_, ?_, ?_, ?_, ?_, ?_, ?_, ?_⟩
  · simp [fallBy, apply_ite State.tm, apply_ite TM.config]
  · simp [fallBy, apply_ite State.tm, apply_ite TM.current]
  · simp [fallBy, apply_ite State.tm, apply_ite TM.before]
  · simp [fallBy, apply_ite State.tm, apply_ite TM.integrator]
  · simp [fallBy, apply_ite State.tm, apply_ite TM.sequence]
  · simp [fallBy, apply_ite State.st, apply_ite ST.errored]
  · simp [fallBy, apply_ite State.st, apply_ite ST.bits]
  · simp [fallBy, apply_ite State.st, apply_ite ST.kind]

@[simp] theorem fallBy_frame_5 (h : Header) (r : Received) (s : State) :
    (fallBy h r s).st.frames = s.st.frames ∧ (fallBy h r s).st.test = s.st.test ∧
    (fallBy h r s).cb.snapshot = s.cb.snapshot ∧ (fallBy h r s).cb.valid = s.cb.valid ∧
    (fallBy h r s).cb.capture = s.cb.capture ∧ (fallBy h r s).cb.pending = s.cb.pending ∧
    (fallBy h r s).cb.captureDue = s.cb.captureDue ∧ (fallBy h r s).cb.live.tenants = s.cb.live.tenants := by
  refine ⟨?_, ?_, ?_, ?_, ?_, ?_, ?_, ?_⟩
  · simp [fallBy, apply_ite State.st, apply_ite ST.frames]
  · simp [fallBy, apply_ite State.st, apply_ite ST.test]
  · simp [fallBy, apply_ite State.cb, apply_ite CB.snapshot]
  · simp [fallBy, apply_ite State.cb, apply_ite CB.valid]
  · simp [fallBy, apply_ite State.cb, apply_ite CB.capture]
  · simp [fallBy, apply_ite State.cb, apply_ite CB.pending]
  · simp [fallBy, apply_ite State.cb, apply_ite CB.captureDue]
  · simp [fallBy, apply_ite State.cb, apply_ite CB.live, apply_ite Bank.tenants]

@[simp] theorem fallBy_frame_6 (h : Header) (r : Received) (s : State) :
    (fallBy h r s).cb.live.timing = s.cb.live.timing ∧ (fallBy h r s).cb.live.test = s.cb.live.test ∧
    (fallBy h r s).cp.rate = s.cp.rate ∧ (fallBy h r s).cp.receiver = s.cp.receiver ∧
    (fallBy h r s).cp.buffer = s.cp.buffer ∧ (fallBy h r s).cp.service = s.cp.service ∧
    (fallBy h r s).cp.attention = s.cp.attention ∧ (fallBy h r s).cp.resetDue = s.cp.resetDue := by
  refine ⟨?_, ?_, ?_, ?_, ?_, ?_, ?_, ?_⟩
  · simp [fallBy, apply_ite State.cb, apply_ite CB.live, apply_ite Bank.timing]
  · simp [fallBy, apply_ite State.cb, apply_ite CB.live, apply_ite Bank.test]
  · simp [fallBy, apply_ite State.cp, apply_ite CP.rate]
  · simp [fallBy, apply_ite State.cp, apply_ite CP.receiver]
  · simp [fallBy, apply_ite State.cp, apply_ite CP.buffer]
  · simp [fallBy, apply_ite State.cp, apply_ite CP.service]
  · simp [fallBy, apply_ite State.cp, apply_ite CP.attention]
  · simp [fallBy, apply_ite State.cp, apply_ite CP.resetDue]

/-! `takeMessages` -/

@[simp] theorem takeMessages_frame (h : Header) (r : Received) (s : State) :
    (takeMessages h r s).mp = s.mp ∧ (takeMessages h r s).sf = s.sf ∧ (takeMessages h r s).ps = s.ps ∧
    (takeMessages h r s).lc = s.lc ∧ (takeMessages h r s).tn = s.tn ∧ (takeMessages h r s).ca = s.ca ∧
    (takeMessages h r s).tm = s.tm ∧ (takeMessages h r s).st = s.st := by
  refine ⟨?_, ?_, ?_, ?_, ?_, ?_, ?_, ?_⟩
  · simp [takeMessages, apply_ite State.mp]
  · simp [takeMessages, apply_ite State.sf]
  · simp [takeMessages, apply_ite State.ps]
  · simp [takeMessages, apply_ite State.lc]
  · simp [takeMessages, apply_ite State.tn]
  · simp [takeMessages, apply_ite State.ca]
  · simp [takeMessages, apply_ite State.tm]
  · simp [takeMessages, apply_ite State.st]

@[simp] theorem takeMessages_frame_2 (h : Header) (r : Received) (s : State) :
    (takeMessages h r s).cp = s.cp ∧ (takeMessages h r s).pending = s.pending ∧
    (takeMessages h r s).mc.restart = s.mc.restart ∧ (takeMessages h r s).mc.flagCount = s.mc.flagCount ∧
    (takeMessages h r s).cb.snapshot = s.cb.snapshot ∧ (takeMessages h r s).cb.valid = s.cb.valid ∧
    (takeMessages h r s).cb.capture = s.cb.capture ∧ (takeMessages h r s).cb.pending = s.cb.pending := by
  refine ⟨?_, ?_, ?_, ?_, ?_, ?_, ?_, ?_⟩
  · simp [takeMessages, apply_ite State.cp]
  · simp [takeMessages, apply_ite State.pending]
  · simp [takeMessages, apply_ite State.mc, apply_ite MC.restart]
  · simp [takeMessages, apply_ite State.mc, apply_ite MC.flagCount]
  · simp [takeMessages, apply_ite State.cb, apply_ite CB.snapshot]
  · simp [takeMessages, apply_ite State.cb, apply_ite CB.valid]
  · simp [takeMessages, apply_ite State.cb, apply_ite CB.capture]
  · simp [takeMessages, apply_ite State.cb, apply_ite CB.pending]

@[simp] theorem takeMessages_frame_3 (h : Header) (r : Received) (s : State) :
    (takeMessages h r s).cb.captureDue = s.cb.captureDue ∧ (takeMessages h r s).cb.live.tenants = s.cb.live.tenants ∧
    (takeMessages h r s).cb.live.timing = s.cb.live.timing ∧ (takeMessages h r s).cb.live.test = s.cb.live.test := by
  refine ⟨?_, ?_, ?_, ?_⟩
  · simp [takeMessages, apply_ite State.cb, apply_ite CB.captureDue]
  · simp [takeMessages, apply_ite State.cb, apply_ite CB.live, apply_ite Bank.tenants]
  · simp [takeMessages, apply_ite State.cb, apply_ite CB.live, apply_ite Bank.timing]
  · simp [takeMessages, apply_ite State.cb, apply_ite CB.live, apply_ite Bank.test]

/-! `takeGoodFrame` -/

@[simp] theorem takeGoodFrame_frame (h : Header) (r : Received) (s : State) :
    (takeGoodFrame h r s).pending = s.pending ∧ (takeGoodFrame h r s).mp.frame = s.mp.frame ∧
    (takeGoodFrame h r s).mp.composed = s.mp.composed ∧ (takeGoodFrame h r s).mp.rxTaken = s.mp.rxTaken ∧
    (takeGoodFrame h r s).mp.tx = s.mp.tx ∧ (takeGoodFrame h r s).mp.txBefore = s.mp.txBefore ∧
    (takeGoodFrame h r s).mp.loopback = s.mp.loopback ∧ (takeGoodFrame h r s).sf.locked = s.sf.locked := by
  refine ⟨?_, ?_, ?_, ?_, ?_, ?_, ?_, ?_⟩ <;>
    simp [takeGoodFrame]

@[simp] theorem takeGoodFrame_frame_2 (h : Header) (r : Received) (s : State) :
    (takeGoodFrame h r s).ps.active = s.ps.active ∧ (takeGoodFrame h r s).ps.fallback = s.ps.fallback ∧
    (takeGoodFrame h r s).ps.previous = s.ps.previous ∧ (takeGoodFrame h r s).ps.idleDue = s.ps.idleDue ∧
    (takeGoodFrame h r s).mc.restart = s.mc.restart ∧ (takeGoodFrame h r s).mc.flagCount = s.mc.flagCount ∧
    (takeGoodFrame h r s).lc.role = s.lc.role ∧ (takeGoodFrame h r s).lc.identity = s.lc.identity := by
  refine ⟨?_, ?_, ?_, ?_, ?_, ?_, ?_, ?_⟩ <;>
    simp [takeGoodFrame]

@[simp] theorem takeGoodFrame_frame_3 (h : Header) (r : Received) (s : State) :
    (takeGoodFrame h r s).lc.stop = s.lc.stop ∧ (takeGoodFrame h r s).lc.history = s.lc.history ∧
    (takeGoodFrame h r s).lc.hostMax = s.lc.hostMax ∧ (takeGoodFrame h r s).tn.free = s.tn.free ∧
    (takeGoodFrame h r s).ca.fixed = s.ca.fixed ∧ (takeGoodFrame h r s).ca.fixedCounts = s.ca.fixedCounts ∧
    (takeGoodFrame h r s).tm.time = s.tm.time ∧ (takeGoodFrame h r s).tm.config = s.tm.config := by
  refine ⟨?_, ?_, ?_, ?_, ?_, ?_, ?_, ?_⟩ <;>
    simp [takeGoodFrame]

@[simp] theorem takeGoodFrame_frame_4 (h : Header) (r : Received) (s : State) :
    (takeGoodFrame h r s).tm.current = s.tm.current ∧ (takeGoodFrame h r s).tm.before = s.tm.before ∧
    (takeGoodFrame h r s).tm.integrator = s.tm.integrator ∧ (takeGoodFrame h r s).tm.sequence = s.tm.sequence ∧
    (takeGoodFrame h r s).cb.snapshot = s.cb.snapshot ∧ (takeGoodFrame h r s).cb.valid = s.cb.valid ∧
    (takeGoodFrame h r s).cb.capture = s.cb.capture ∧ (takeGoodFrame h r s).cb.pending = s.cb.pending := by
  refine ⟨?_, ?_, ?_, ?_, ?_, ?_, ?_, ?_⟩ <;>
    simp [takeGoodFrame]

@[simp] theorem takeGoodFrame_frame_5 (h : Header) (r : Received) (s : State) :
    (takeGoodFrame h r s).cb.captureDue = s.cb.captureDue ∧ (takeGoodFrame h r s).cb.live.timing = s.cb.live.timing ∧
    (takeGoodFrame h r s).cb.live.test = s.cb.live.test ∧ (takeGoodFrame h r s).cp.rate = s.cp.rate ∧
    (takeGoodFrame h r s).cp.receiver = s.cp.receiver ∧ (takeGoodFrame h r s).cp.buffer = s.cp.buffer ∧
    (takeGoodFrame h r s).cp.service = s.cp.service ∧ (takeGoodFrame h r s).cp.attention = s.cp.attention := by
  refine ⟨?_, ?_, ?_, ?_, ?_, ?_, ?_, ?_⟩ <;>
    simp [takeGoodFrame]

@[simp] theorem takeGoodFrame_frame_6 (h : Header) (r : Received) (s : State) :
    (takeGoodFrame h r s).cp.resetDue = s.cp.resetDue := by
  simp [takeGoodFrame]

end Sys2Proof.Machine
end

