-- ==== Sys2Proof/Laws/ControlPort.lean ====
section
/-! SUPPORT. What the operations of the Control Port leave alone. -/

set_option linter.unusedSimpArgs false

namespace Sys2Proof.Machine

/-! `setService` -/

@[simp] theorem setService_frame (v : Service) (s : State) :
    (setService v s).mp = s.mp ∧ (setService v s).sf = s.sf ∧ (setService v s).ps = s.ps ∧
    (setService v s).mc = s.mc ∧ (setService v s).lc = s.lc ∧ (setService v s).tn = s.tn ∧
    (setService v s).ca = s.ca ∧ (setService v s).tm = s.tm ∧ (setService v s).st = s.st ∧
    (setService v s).cb = s.cb ∧ (setService v s).pending = s.pending ∧ (setService v s).cp.rate = s.cp.rate ∧
    (setService v s).cp.receiver = s.cp.receiver ∧ (setService v s).cp.buffer = s.cp.buffer ∧
    (setService v s).cp.reports = s.cp.reports ∧ (setService v s).cp.attention = s.cp.attention ∧
    (setService v s).cp.resetDue = s.cp.resetDue :=
  ⟨rfl, rfl, rfl, rfl, rfl, rfl, rfl, rfl, rfl, rfl, rfl, rfl, rfl, rfl, rfl, rfl, rfl⟩

/-! `serveNext` -/

@[simp] theorem serveNext_frame (s : State) :
    (serveNext s).mp = s.mp ∧ (serveNext s).sf = s.sf ∧ (serveNext s).ps = s.ps ∧ (serveNext s).mc = s.mc ∧
    (serveNext s).lc = s.lc ∧ (serveNext s).tn = s.tn ∧ (serveNext s).ca = s.ca ∧ (serveNext s).tm = s.tm := by
  refine ⟨?_, ?_, ?_, ?_, ?_, ?_, ?_, ?_⟩ <;>
    (unfold serveNext; (repeat' split) <;> simp)

@[simp] theorem serveNext_frame_2 (s : State) :
    (serveNext s).st = s.st ∧ (serveNext s).pending = s.pending ∧ (serveNext s).cb.snapshot = s.cb.snapshot ∧
    (serveNext s).cb.valid = s.cb.valid ∧ (serveNext s).cb.capture = s.cb.capture ∧
    (serveNext s).cb.pending = s.cb.pending ∧ (serveNext s).cb.captureDue = s.cb.captureDue ∧
    (serveNext s).cb.live.tenants = s.cb.live.tenants := by
  refine ⟨?_, ?_, ?_, ?_, ?_, ?_, ?_, ?_⟩ <;>
    (unfold serveNext; (repeat' split) <;> simp)

@[simp] theorem serveNext_frame_3 (s : State) :
    (serveNext s).cb.live.timing = s.cb.live.timing ∧ (serveNext s).cb.live.test = s.cb.live.test ∧
    (serveNext s).cp.rate = s.cp.rate ∧ (serveNext s).cp.receiver = s.cp.receiver ∧
    (serveNext s).cp.buffer = s.cp.buffer ∧ (serveNext s).cp.reports = s.cp.reports ∧
    (serveNext s).cp.attention = s.cp.attention ∧ (serveNext s).cp.resetDue = s.cp.resetDue := by
  refine ⟨?_, ?_, ?_, ?_, ?_, ?_, ?_, ?_⟩ <;>
    (unfold serveNext; (repeat' split) <;> simp)

/-! `joinBuffer` -/

@[simp] theorem joinBuffer_frame (r : Request) (s : State) :
    (joinBuffer r s).mp = s.mp ∧ (joinBuffer r s).sf = s.sf ∧ (joinBuffer r s).ps = s.ps ∧
    (joinBuffer r s).mc = s.mc ∧ (joinBuffer r s).lc = s.lc ∧ (joinBuffer r s).tn = s.tn ∧
    (joinBuffer r s).ca = s.ca ∧ (joinBuffer r s).tm = s.tm := by
  refine ⟨?_, ?_, ?_, ?_, ?_, ?_, ?_, ?_⟩
  · simp [joinBuffer, apply_ite State.mp]
  · simp [joinBuffer, apply_ite State.sf]
  · simp [joinBuffer, apply_ite State.ps]
  · simp [joinBuffer, apply_ite State.mc]
  · simp [joinBuffer, apply_ite State.lc]
  · simp [joinBuffer, apply_ite State.tn]
  · simp [joinBuffer, apply_ite State.ca]
  · simp [joinBuffer, apply_ite State.tm]

@[simp] theorem joinBuffer_frame_2 (r : Request) (s : State) :
    (joinBuffer r s).st = s.st ∧ (joinBuffer r s).pending = s.pending ∧ (joinBuffer r s).cb.snapshot = s.cb.snapshot ∧
    (joinBuffer r s).cb.valid = s.cb.valid ∧ (joinBuffer r s).cb.capture = s.cb.capture ∧
    (joinBuffer r s).cb.pending = s.cb.pending ∧ (joinBuffer r s).cb.captureDue = s.cb.captureDue ∧
    (joinBuffer r s).cb.live.tenants = s.cb.live.tenants := by
  refine ⟨?_, ?_, ?_, ?_, ?_, ?_, ?_, ?_⟩
  · simp [joinBuffer, apply_ite State.st]
  · simp [joinBuffer, apply_ite State.pending]
  · simp [joinBuffer, apply_ite State.cb, apply_ite CB.snapshot]
  · simp [joinBuffer, apply_ite State.cb, apply_ite CB.valid]
  · simp [joinBuffer, apply_ite State.cb, apply_ite CB.capture]
  · simp [joinBuffer, apply_ite State.cb, apply_ite CB.pending]
  · simp [joinBuffer, apply_ite State.cb, apply_ite CB.captureDue]
  · simp [joinBuffer, apply_ite State.cb, apply_ite CB.live, apply_ite Bank.tenants]

@[simp] theorem joinBuffer_frame_3 (r : Request) (s : State) :
    (joinBuffer r s).cb.live.timing = s.cb.live.timing ∧ (joinBuffer r s).cb.live.test = s.cb.live.test ∧
    (joinBuffer r s).cp.rate = s.cp.rate ∧ (joinBuffer r s).cp.receiver = s.cp.receiver ∧
    (joinBuffer r s).cp.reports = s.cp.reports ∧ (joinBuffer r s).cp.attention = s.cp.attention ∧
    (joinBuffer r s).cp.resetDue = s.cp.resetDue := by
  refine ⟨?_, ?_, ?_, ?_, ?_, ?_, ?_⟩
  · simp [joinBuffer, apply_ite State.cb, apply_ite CB.live, apply_ite Bank.timing]
  · simp [joinBuffer, apply_ite State.cb, apply_ite CB.live, apply_ite Bank.test]
  · simp [joinBuffer, apply_ite State.cp, apply_ite CP.rate]
  · simp [joinBuffer, apply_ite State.cp, apply_ite CP.receiver]
  · simp [joinBuffer, apply_ite State.cp, apply_ite CP.reports]
  · simp [joinBuffer, apply_ite State.cp, apply_ite CP.attention]
  · simp [joinBuffer, apply_ite State.cp, apply_ite CP.resetDue]

/-! `setReceiver` -/

@[simp] theorem setReceiver_frame (v : Receiver) (s : State) :
    (setReceiver v s).mp = s.mp ∧ (setReceiver v s).sf = s.sf ∧ (setReceiver v s).ps = s.ps ∧
    (setReceiver v s).mc = s.mc ∧ (setReceiver v s).lc = s.lc ∧ (setReceiver v s).tn = s.tn ∧
    (setReceiver v s).ca = s.ca ∧ (setReceiver v s).tm = s.tm ∧ (setReceiver v s).st = s.st ∧
    (setReceiver v s).cb = s.cb ∧ (setReceiver v s).pending = s.pending ∧ (setReceiver v s).cp.rate = s.cp.rate ∧
    (setReceiver v s).cp.buffer = s.cp.buffer ∧ (setReceiver v s).cp.service = s.cp.service ∧
    (setReceiver v s).cp.reports = s.cp.reports ∧ (setReceiver v s).cp.attention = s.cp.attention ∧
    (setReceiver v s).cp.resetDue = s.cp.resetDue :=
  ⟨rfl, rfl, rfl, rfl, rfl, rfl, rfl, rfl, rfl, rfl, rfl, rfl, rfl, rfl, rfl, rfl, rfl⟩

/-! `completeFrame` -/

@[simp] theorem completeFrame_frame (g : List Byte) (s : State) :
    (completeFrame g s).mp = s.mp ∧ (completeFrame g s).sf = s.sf ∧ (completeFrame g s).ps = s.ps ∧
    (completeFrame g s).mc = s.mc ∧ (completeFrame g s).lc = s.lc ∧ (completeFrame g s).tn = s.tn ∧
    (completeFrame g s).ca = s.ca ∧ (completeFrame g s).tm = s.tm := by
  refine ⟨?_, ?_, ?_, ?_, ?_, ?_, ?_, ?_⟩
  · simp [completeFrame, apply_ite State.mp]
  · simp [completeFrame, apply_ite State.sf]
  · simp [completeFrame, apply_ite State.ps]
  · simp [completeFrame, apply_ite State.mc]
  · simp [completeFrame, apply_ite State.lc]
  · simp [completeFrame, apply_ite State.tn]
  · simp [completeFrame, apply_ite State.ca]
  · simp [completeFrame, apply_ite State.tm]

@[simp] theorem completeFrame_frame_2 (g : List Byte) (s : State) :
    (completeFrame g s).st = s.st ∧ (completeFrame g s).pending = s.pending ∧
    (completeFrame g s).cb.snapshot = s.cb.snapshot ∧ (completeFrame g s).cb.valid = s.cb.valid ∧
    (completeFrame g s).cb.capture = s.cb.capture ∧ (completeFrame g s).cb.pending = s.cb.pending ∧
    (completeFrame g s).cb.captureDue = s.cb.captureDue ∧ (completeFrame g s).cb.live.tenants = s.cb.live.tenants := by
  refine ⟨?_, ?_, ?_, ?_, ?_, ?_, ?_, ?_⟩
  · simp [completeFrame, apply_ite State.st]
  · simp [completeFrame, apply_ite State.pending]
  · simp [completeFrame, apply_ite State.cb, apply_ite CB.snapshot]
  · simp [completeFrame, apply_ite State.cb, apply_ite CB.valid]
  · simp [completeFrame, apply_ite State.cb, apply_ite CB.capture]
  · simp [completeFrame, apply_ite State.cb, apply_ite CB.pending]
  · simp [completeFrame, apply_ite State.cb, apply_ite CB.captureDue]
  · simp [completeFrame, apply_ite State.cb, apply_ite CB.live, apply_ite Bank.tenants]

@[simp] theorem completeFrame_frame_3 (g : List Byte) (s : State) :
    (completeFrame g s).cb.live.timing = s.cb.live.timing ∧ (completeFrame g s).cb.live.test = s.cb.live.test ∧
    (completeFrame g s).cp.rate = s.cp.rate ∧ (completeFrame g s).cp.receiver = s.cp.receiver ∧
    (completeFrame g s).cp.reports = s.cp.reports ∧ (completeFrame g s).cp.attention = s.cp.attention ∧
    (completeFrame g s).cp.resetDue = s.cp.resetDue := by
  refine ⟨?_, ?_, ?_, ?_, ?_, ?_, ?_⟩
  · simp [completeFrame, apply_ite State.cb, apply_ite CB.live, apply_ite Bank.timing]
  · simp [completeFrame, apply_ite State.cb, apply_ite CB.live, apply_ite Bank.test]
  · simp [completeFrame, apply_ite State.cp, apply_ite CP.rate]
  · simp [completeFrame, apply_ite State.cp, apply_ite CP.receiver]
  · simp [completeFrame, apply_ite State.cp, apply_ite CP.reports]
  · simp [completeFrame, apply_ite State.cp, apply_ite CP.attention]
  · simp [completeFrame, apply_ite State.cp, apply_ite CP.resetDue]

/-! `takeChar` -/

@[simp] theorem takeChar_frame (s : State) (c : Byte) :
    (takeChar s c).mp = s.mp ∧ (takeChar s c).sf = s.sf ∧ (takeChar s c).ps = s.ps ∧ (takeChar s c).mc = s.mc ∧
    (takeChar s c).lc = s.lc ∧ (takeChar s c).tn = s.tn ∧ (takeChar s c).ca = s.ca ∧ (takeChar s c).tm = s.tm := by
  refine ⟨?_, ?_, ?_, ?_, ?_, ?_, ?_, ?_⟩ <;>
    (simp only [takeChar]; (repeat' split) <;> simp_all)

@[simp] theorem takeChar_frame_2 (s : State) (c : Byte) :
    (takeChar s c).st = s.st ∧ (takeChar s c).pending = s.pending ∧ (takeChar s c).cb.snapshot = s.cb.snapshot ∧
    (takeChar s c).cb.valid = s.cb.valid ∧ (takeChar s c).cb.capture = s.cb.capture ∧
    (takeChar s c).cb.pending = s.cb.pending ∧ (takeChar s c).cb.captureDue = s.cb.captureDue ∧
    (takeChar s c).cb.live.tenants = s.cb.live.tenants := by
  refine ⟨?_, ?_, ?_, ?_, ?_, ?_, ?_, ?_⟩ <;>
    (simp only [takeChar]; (repeat' split) <;> simp_all)

@[simp] theorem takeChar_frame_3 (s : State) (c : Byte) :
    (takeChar s c).cb.live.timing = s.cb.live.timing ∧ (takeChar s c).cb.live.test = s.cb.live.test ∧
    (takeChar s c).cp.rate = s.cp.rate ∧ (takeChar s c).cp.reports = s.cp.reports ∧
    (takeChar s c).cp.attention = s.cp.attention ∧ (takeChar s c).cp.resetDue = s.cp.resetDue := by
  refine ⟨?_, ?_, ?_, ?_, ?_, ?_⟩ <;>
    (simp only [takeChar]; (repeat' split) <;> simp_all)

/-! `discardFrame` -/

@[simp] theorem discardFrame_frame (c : ControlCounter) (s : State) :
    (discardFrame c s).mp = s.mp ∧ (discardFrame c s).sf = s.sf ∧ (discardFrame c s).ps = s.ps ∧
    (discardFrame c s).mc = s.mc ∧ (discardFrame c s).lc = s.lc ∧ (discardFrame c s).tn = s.tn ∧
    (discardFrame c s).ca = s.ca ∧ (discardFrame c s).tm = s.tm := by
  refine ⟨?_, ?_, ?_, ?_, ?_, ?_, ?_, ?_⟩ <;>
    (unfold discardFrame; split <;> simp)

@[simp] theorem discardFrame_frame_2 (c : ControlCounter) (s : State) :
    (discardFrame c s).st = s.st ∧ (discardFrame c s).pending = s.pending ∧
    (discardFrame c s).cb.snapshot = s.cb.snapshot ∧ (discardFrame c s).cb.valid = s.cb.valid ∧
    (discardFrame c s).cb.capture = s.cb.capture ∧ (discardFrame c s).cb.pending = s.cb.pending ∧
    (discardFrame c s).cb.captureDue = s.cb.captureDue ∧ (discardFrame c s).cb.live.tenants = s.cb.live.tenants := by
  refine ⟨?_, ?_, ?_, ?_, ?_, ?_, ?_, ?_⟩ <;>
    (unfold discardFrame; split <;> simp)

@[simp] theorem discardFrame_frame_3 (c : ControlCounter) (s : State) :
    (discardFrame c s).cb.live.timing = s.cb.live.timing ∧ (discardFrame c s).cb.live.test = s.cb.live.test ∧
    (discardFrame c s).cp.rate = s.cp.rate ∧ (discardFrame c s).cp.buffer = s.cp.buffer ∧
    (discardFrame c s).cp.service = s.cp.service ∧ (discardFrame c s).cp.reports = s.cp.reports ∧
    (discardFrame c s).cp.attention = s.cp.attention ∧ (discardFrame c s).cp.resetDue = s.cp.resetDue := by
  refine ⟨?_, ?_, ?_, ?_, ?_, ?_, ?_, ?_⟩ <;>
    (unfold discardFrame; split <;> simp)

/-! `endReply` -/

@[simp] theorem endReply_frame (s : State) :
    (endReply s).mp = s.mp ∧ (endReply s).sf = s.sf ∧ (endReply s).ps = s.ps ∧ (endReply s).mc = s.mc ∧
    (endReply s).lc = s.lc ∧ (endReply s).tn = s.tn ∧ (endReply s).ca = s.ca ∧ (endReply s).tm = s.tm := by
  refine ⟨?_, ?_, ?_, ?_, ?_, ?_, ?_, ?_⟩ <;>
    (unfold endReply; (repeat' split) <;> simp)

@[simp] theorem endReply_frame_2 (s : State) :
    (endReply s).st = s.st ∧ (endReply s).pending = s.pending ∧ (endReply s).cb.snapshot = s.cb.snapshot ∧
    (endReply s).cb.valid = s.cb.valid ∧ (endReply s).cb.capture = s.cb.capture ∧
    (endReply s).cb.pending = s.cb.pending ∧ (endReply s).cb.captureDue = s.cb.captureDue ∧
    (endReply s).cb.live.tenants = s.cb.live.tenants := by
  refine ⟨?_, ?_, ?_, ?_, ?_, ?_, ?_, ?_⟩ <;>
    (unfold endReply; (repeat' split) <;> simp)

@[simp] theorem endReply_frame_3 (s : State) :
    (endReply s).cb.live.timing = s.cb.live.timing ∧ (endReply s).cb.live.test = s.cb.live.test ∧
    (endReply s).cp.rate = s.cp.rate ∧ (endReply s).cp.receiver = s.cp.receiver ∧
    (endReply s).cp.reports = s.cp.reports ∧ (endReply s).cp.attention = s.cp.attention := by
  refine ⟨?_, ?_, ?_, ?_, ?_, ?_⟩ <;>
    (unfold endReply; (repeat' split) <;> simp)

end Sys2Proof.Machine
end

