-- ==== Sys2Proof/Laws/Exec.lean ====
section
/-! SUPPORT. What the meanings of the messages, the steps of a boundary and the timing and test events leave alone. -/

set_option linter.unusedSimpArgs false

namespace Sys2Proof.Machine

/-! `unexpected` -/

@[simp] theorem unexpected_frame (s : State) :
    (unexpected s).mp = s.mp ∧ (unexpected s).sf = s.sf ∧ (unexpected s).ps = s.ps ∧ (unexpected s).mc = s.mc ∧
    (unexpected s).lc = s.lc ∧ (unexpected s).tn = s.tn ∧ (unexpected s).ca = s.ca ∧ (unexpected s).tm = s.tm := by
  refine ⟨?_, ?_, ?_, ?_, ?_, ?_, ?_, ?_⟩ <;>
    simp [unexpected]

@[simp] theorem unexpected_frame_2 (s : State) :
    (unexpected s).st = s.st ∧ (unexpected s).cp = s.cp ∧ (unexpected s).pending = s.pending ∧
    (unexpected s).cb.snapshot = s.cb.snapshot ∧ (unexpected s).cb.valid = s.cb.valid ∧
    (unexpected s).cb.capture = s.cb.capture ∧ (unexpected s).cb.pending = s.cb.pending ∧
    (unexpected s).cb.captureDue = s.cb.captureDue := by
  refine ⟨?_, ?_, ?_, ?_, ?_, ?_, ?_, ?_⟩ <;>
    simp [unexpected]

@[simp] theorem unexpected_frame_3 (s : State) :
    (unexpected s).cb.live.tenants = s.cb.live.tenants ∧ (unexpected s).cb.live.timing = s.cb.live.timing ∧
    (unexpected s).cb.live.test = s.cb.live.test := by
  refine ⟨?_, ?_, ?_⟩ <;>
    simp [unexpected]

/-! `acceptHello` -/

@[simp] theorem acceptHello_frame (i : SiteId) (s : State) :
    (acceptHello i s).mp = s.mp ∧ (acceptHello i s).sf = s.sf ∧ (acceptHello i s).ps = s.ps ∧
    (acceptHello i s).tn = s.tn ∧ (acceptHello i s).ca = s.ca ∧ (acceptHello i s).tm = s.tm ∧
    (acceptHello i s).pending = s.pending ∧ (acceptHello i s).mc.restart = s.mc.restart := by
  refine ⟨?_, ?_, ?_, ?_, ?_, ?_, ?_, ?_⟩ <;>
    simp [acceptHello]

@[simp] theorem acceptHello_frame_2 (i : SiteId) (s : State) :
    (acceptHello i s).mc.inbox = s.mc.inbox ∧ (acceptHello i s).mc.flagCount = s.mc.flagCount ∧
    (acceptHello i s).lc.role = s.lc.role ∧ (acceptHello i s).lc.identity = s.lc.identity ∧
    (acceptHello i s).lc.stop = s.lc.stop ∧ (acceptHello i s).lc.history = s.lc.history ∧
    (acceptHello i s).lc.hostMax = s.lc.hostMax ∧ (acceptHello i s).st.errored = s.st.errored := by
  refine ⟨?_, ?_, ?_, ?_, ?_, ?_, ?_, ?_⟩ <;>
    simp [acceptHello]

@[simp] theorem acceptHello_frame_3 (i : SiteId) (s : State) :
    (acceptHello i s).st.bits = s.st.bits ∧ (acceptHello i s).st.commissioned = s.st.commissioned ∧
    (acceptHello i s).st.kind = s.st.kind ∧ (acceptHello i s).st.frames = s.st.frames ∧
    (acceptHello i s).st.test = s.st.test ∧ (acceptHello i s).cb.snapshot = s.cb.snapshot ∧
    (acceptHello i s).cb.valid = s.cb.valid ∧ (acceptHello i s).cb.capture = s.cb.capture := by
  refine ⟨?_, ?_, ?_, ?_, ?_, ?_, ?_, ?_⟩ <;>
    simp [acceptHello]

@[simp] theorem acceptHello_frame_4 (i : SiteId) (s : State) :
    (acceptHello i s).cb.pending = s.cb.pending ∧ (acceptHello i s).cb.captureDue = s.cb.captureDue ∧
    (acceptHello i s).cb.live.tenants = s.cb.live.tenants ∧ (acceptHello i s).cb.live.timing = s.cb.live.timing ∧
    (acceptHello i s).cb.live.test = s.cb.live.test ∧ (acceptHello i s).cp.rate = s.cp.rate ∧
    (acceptHello i s).cp.receiver = s.cp.receiver ∧ (acceptHello i s).cp.buffer = s.cp.buffer := by
  refine ⟨?_, ?_, ?_, ?_, ?_, ?_, ?_, ?_⟩ <;>
    simp [acceptHello]

@[simp] theorem acceptHello_frame_5 (i : SiteId) (s : State) :
    (acceptHello i s).cp.service = s.cp.service ∧ (acceptHello i s).cp.attention = s.cp.attention ∧
    (acceptHello i s).cp.resetDue = s.cp.resetDue := by
  refine ⟨?_, ?_, ?_⟩ <;>
    simp [acceptHello]

/-! `roleClash` -/

@[simp] theorem roleClash_frame (i : SiteId) (s : State) :
    (roleClash i s).mp = s.mp ∧ (roleClash i s).sf = s.sf ∧ (roleClash i s).ps = s.ps ∧ (roleClash i s).mc = s.mc ∧
    (roleClash i s).tn = s.tn ∧ (roleClash i s).ca = s.ca ∧ (roleClash i s).tm = s.tm ∧ (roleClash i s).st = s.st := by
  refine ⟨?_, ?_, ?_, ?_, ?_, ?_, ?_, ?_⟩
  · simp [roleClash, apply_ite State.mp]
  · simp [roleClash, apply_ite State.sf]
  · simp [roleClash, apply_ite State.ps]
  · simp [roleClash, apply_ite State.mc]
  · simp [roleClash, apply_ite State.tn]
  · simp [roleClash, apply_ite State.ca]
  · simp [roleClash, apply_ite State.tm]
  · simp [roleClash, apply_ite State.st]

@[simp] theorem roleClash_frame_2 (i : SiteId) (s : State) :
    (roleClash i s).pending = s.pending ∧ (roleClash i s).lc.role = s.lc.role ∧
    (roleClash i s).lc.identity = s.lc.identity ∧ (roleClash i s).lc.link = s.lc.link ∧
    (roleClash i s).lc.stop = s.lc.stop ∧ (roleClash i s).lc.history = s.lc.history ∧
    (roleClash i s).lc.hostMax = s.lc.hostMax ∧ (roleClash i s).cb.snapshot = s.cb.snapshot := by
  refine ⟨?_, ?_, ?_, ?_, ?_, ?_, ?_, ?_⟩
  · simp [roleClash, apply_ite State.pending]
  · simp [roleClash, apply_ite State.lc, apply_ite LC.role]
  · simp [roleClash, apply_ite State.lc, apply_ite LC.identity]
  · simp [roleClash, apply_ite State.lc, apply_ite LC.link]
  · simp [roleClash, apply_ite State.lc, apply_ite LC.stop]
  · simp [roleClash, apply_ite State.lc, apply_ite LC.history]
  · simp [roleClash, apply_ite State.lc, apply_ite LC.hostMax]
  · simp [roleClash, apply_ite State.cb, apply_ite CB.snapshot]

@[simp] theorem roleClash_frame_3 (i : SiteId) (s : State) :
    (roleClash i s).cb.valid = s.cb.valid ∧ (roleClash i s).cb.capture = s.cb.capture ∧
    (roleClash i s).cb.pending = s.cb.pending ∧ (roleClash i s).cb.captureDue = s.cb.captureDue ∧
    (roleClash i s).cb.live.tenants = s.cb.live.tenants ∧ (roleClash i s).cb.live.timing = s.cb.live.timing ∧
    (roleClash i s).cb.live.test = s.cb.live.test ∧ (roleClash i s).cp.rate = s.cp.rate := by
  refine ⟨?_, ?_, ?_, ?_, ?_, ?_, ?_, ?_⟩
  · simp [roleClash, apply_ite State.cb, apply_ite CB.valid]
  · simp [roleClash, apply_ite State.cb, apply_ite CB.capture]
  · simp [roleClash, apply_ite State.cb, apply_ite CB.pending]
  · simp [roleClash, apply_ite State.cb, apply_ite CB.captureDue]
  · simp [roleClash, apply_ite State.cb, apply_ite CB.live, apply_ite Bank.tenants]
  · simp [roleClash, apply_ite State.cb, apply_ite CB.live, apply_ite Bank.timing]
  · simp [roleClash, apply_ite State.cb, apply_ite CB.live, apply_ite Bank.test]
  · simp [roleClash, apply_ite State.cp, apply_ite CP.rate]

@[simp] theorem roleClash_frame_4 (i : SiteId) (s : State) :
    (roleClash i s).cp.receiver = s.cp.receiver ∧ (roleClash i s).cp.buffer = s.cp.buffer ∧
    (roleClash i s).cp.service = s.cp.service ∧ (roleClash i s).cp.attention = s.cp.attention ∧
    (roleClash i s).cp.resetDue = s.cp.resetDue := by
  refine ⟨?_, ?_, ?_, ?_, ?_⟩
  · simp [roleClash, apply_ite State.cp, apply_ite CP.receiver]
  · simp [roleClash, apply_ite State.cp, apply_ite CP.buffer]
  · simp [roleClash, apply_ite State.cp, apply_ite CP.service]
  · simp [roleClash, apply_ite State.cp, apply_ite CP.attention]
  · simp [roleClash, apply_ite State.cp, apply_ite CP.resetDue]

/-! `partnerRestart` -/

@[simp] theorem partnerRestart_frame (s : State) :
    (partnerRestart s).pending = s.pending ∧ (partnerRestart s).mp.frame = s.mp.frame ∧
    (partnerRestart s).mp.composed = s.mp.composed ∧ (partnerRestart s).mp.rxTaken = s.mp.rxTaken ∧
    (partnerRestart s).mp.txBefore = s.mp.txBefore ∧ (partnerRestart s).mp.loopback = s.mp.loopback ∧
    (partnerRestart s).sf.locked = s.sf.locked ∧ (partnerRestart s).ps.active = s.ps.active := by
  refine ⟨?_, ?_, ?_, ?_, ?_, ?_, ?_, ?_⟩ <;>
    simp [partnerRestart]

@[simp] theorem partnerRestart_frame_2 (s : State) :
    (partnerRestart s).ps.fallback = s.ps.fallback ∧ (partnerRestart s).mc.flagCount = s.mc.flagCount ∧
    (partnerRestart s).lc.role = s.lc.role ∧ (partnerRestart s).lc.identity = s.lc.identity ∧
    (partnerRestart s).lc.stop = s.lc.stop ∧ (partnerRestart s).tn.free = s.tn.free ∧
    (partnerRestart s).ca.fixed = s.ca.fixed ∧ (partnerRestart s).ca.fixedCounts = s.ca.fixedCounts := by
  refine ⟨?_, ?_, ?_, ?_, ?_, ?_, ?_, ?_⟩ <;>
    simp [partnerRestart]

@[simp] theorem partnerRestart_frame_3 (s : State) :
    (partnerRestart s).tm.time = s.tm.time ∧ (partnerRestart s).tm.config = s.tm.config ∧
    (partnerRestart s).tm.current = s.tm.current ∧ (partnerRestart s).tm.before = s.tm.before ∧
    (partnerRestart s).tm.integrator = s.tm.integrator ∧ (partnerRestart s).tm.sequence = s.tm.sequence ∧
    (partnerRestart s).st.errored = s.st.errored ∧ (partnerRestart s).st.bits = s.st.bits := by
  refine ⟨?_, ?_, ?_, ?_, ?_, ?_, ?_, ?_⟩ <;>
    simp [partnerRestart]

@[simp] theorem partnerRestart_frame_4 (s : State) :
    (partnerRestart s).st.kind = s.st.kind ∧ (partnerRestart s).st.frames = s.st.frames ∧
    (partnerRestart s).st.test = s.st.test ∧ (partnerRestart s).cb.snapshot = s.cb.snapshot ∧
    (partnerRestart s).cb.valid = s.cb.valid ∧ (partnerRestart s).cb.capture = s.cb.capture ∧
    (partnerRestart s).cb.pending = s.cb.pending ∧ (partnerRestart s).cb.captureDue = s.cb.captureDue := by
  refine ⟨?_, ?_, ?_, ?_, ?_, ?_, ?_, ?_⟩ <;>
    simp [partnerRestart]

@[simp] theorem partnerRestart_frame_5 (s : State) :
    (partnerRestart s).cb.live.tenants = s.cb.live.tenants ∧ (partnerRestart s).cb.live.test = s.cb.live.test ∧
    (partnerRestart s).cp.rate = s.cp.rate ∧ (partnerRestart s).cp.receiver = s.cp.receiver ∧
    (partnerRestart s).cp.buffer = s.cp.buffer ∧ (partnerRestart s).cp.service = s.cp.service ∧
    (partnerRestart s).cp.attention = s.cp.attention ∧ (partnerRestart s).cp.resetDue = s.cp.resetDue := by
  refine ⟨?_, ?_, ?_, ?_, ?_, ?_, ?_, ?_⟩ <;>
    simp [partnerRestart]

/-! `takeHello` -/

@[simp] theorem takeHello_frame (r : Byte) (i p : SiteId) (s : State) :
    (takeHello r i p s).pending = s.pending ∧ (takeHello r i p s).mp.frame = s.mp.frame ∧
    (takeHello r i p s).mp.composed = s.mp.composed ∧ (takeHello r i p s).mp.rxTaken = s.mp.rxTaken ∧
    (takeHello r i p s).mp.txBefore = s.mp.txBefore ∧ (takeHello r i p s).mp.loopback = s.mp.loopback ∧
    (takeHello r i p s).sf.locked = s.sf.locked ∧ (takeHello r i p s).ps.active = s.ps.active := by
  refine ⟨?_, ?_, ?_, ?_, ?_, ?_, ?_, ?_⟩ <;>
    ((simp only [takeHello]; (repeat' split) <;> simp))

@[simp] theorem takeHello_frame_2 (r : Byte) (i p : SiteId) (s : State) :
    (takeHello r i p s).ps.fallback = s.ps.fallback ∧ (takeHello r i p s).mc.flagCount = s.mc.flagCount ∧
    (takeHello r i p s).lc.role = s.lc.role ∧ (takeHello r i p s).lc.identity = s.lc.identity ∧
    (takeHello r i p s).lc.stop = s.lc.stop ∧ (takeHello r i p s).tn.free = s.tn.free ∧
    (takeHello r i p s).ca.fixed = s.ca.fixed ∧ (takeHello r i p s).ca.fixedCounts = s.ca.fixedCounts := by
  refine ⟨?_, ?_, ?_, ?_, ?_, ?_, ?_, ?_⟩ <;>
    ((simp only [takeHello]; (repeat' split) <;> simp))

@[simp] theorem takeHello_frame_3 (r : Byte) (i p : SiteId) (s : State) :
    (takeHello r i p s).tm.time = s.tm.time ∧ (takeHello r i p s).tm.config = s.tm.config ∧
    (takeHello r i p s).tm.current = s.tm.current ∧ (takeHello r i p s).tm.before = s.tm.before ∧
    (takeHello r i p s).tm.integrator = s.tm.integrator ∧ (takeHello r i p s).tm.sequence = s.tm.sequence ∧
    (takeHello r i p s).st.errored = s.st.errored ∧ (takeHello r i p s).st.bits = s.st.bits := by
  refine ⟨?_, ?_, ?_, ?_, ?_, ?_, ?_, ?_⟩ <;>
    ((simp only [takeHello]; (repeat' split) <;> simp))

@[simp] theorem takeHello_frame_4 (r : Byte) (i p : SiteId) (s : State) :
    (takeHello r i p s).st.kind = s.st.kind ∧ (takeHello r i p s).st.frames = s.st.frames ∧
    (takeHello r i p s).st.test = s.st.test ∧ (takeHello r i p s).cb.snapshot = s.cb.snapshot ∧
    (takeHello r i p s).cb.valid = s.cb.valid ∧ (takeHello r i p s).cb.capture = s.cb.capture ∧
    (takeHello r i p s).cb.pending = s.cb.pending ∧ (takeHello r i p s).cb.captureDue = s.cb.captureDue := by
  refine ⟨?_, ?_, ?_, ?_, ?_, ?_, ?_, ?_⟩ <;>
    ((simp only [takeHello]; (repeat' split) <;> simp))

@[simp] theorem takeHello_frame_5 (r : Byte) (i p : SiteId) (s : State) :
    (takeHello r i p s).cb.live.tenants = s.cb.live.tenants ∧ (takeHello r i p s).cb.live.test = s.cb.live.test ∧
    (takeHello r i p s).cp.rate = s.cp.rate ∧ (takeHello r i p s).cp.receiver = s.cp.receiver ∧
    (takeHello r i p s).cp.buffer = s.cp.buffer ∧ (takeHello r i p s).cp.service = s.cp.service ∧
    (takeHello r i p s).cp.attention = s.cp.attention ∧ (takeHello r i p s).cp.resetDue = s.cp.resetDue := by
  refine ⟨?_, ?_, ?_, ?_, ?_, ?_, ?_, ?_⟩ <;>
    ((simp only [takeHello]; (repeat' split) <;> simp))

theorem takeJoinInSearch_eq (i : SiteId) (e : FrameNo) (c : PerTenant Nat) (s : State) :
    takeJoinInSearch i e c s =
      if joinAcceptable i e c s then
        if (offerPlan (firstPlan e c) s).2 = none then
          send .linkController (.joinAck (ownSiteId (offerPlan (firstPlan e c) s).1) e)
            (clearRepeat ((offerPlan (firstPlan e c) s).1.modLC fun lc => { lc with partner := some i }))
        else countLink .joinRefusals s
      else countLink .joinRefusals s := by
  unfold takeJoinInSearch
  split
  · rcases offerPlan (firstPlan e c) s with ⟨s', r⟩
    cases r <;> rfl
  · rfl

/-! `takeJoinInSearch` -/

@[simp] theorem takeJoinInSearch_frame (i : SiteId) (e : FrameNo) (c : PerTenant Nat) (s : State) :
    (takeJoinInSearch i e c s).mp = s.mp ∧ (takeJoinInSearch i e c s).sf = s.sf ∧
    (takeJoinInSearch i e c s).ca = s.ca ∧ (takeJoinInSearch i e c s).tm = s.tm ∧
    (takeJoinInSearch i e c s).pending = s.pending ∧ (takeJoinInSearch i e c s).ps.active = s.ps.active ∧
    (takeJoinInSearch i e c s).ps.fallback = s.ps.fallback ∧ (takeJoinInSearch i e c s).ps.previous = s.ps.previous := by
  refine ⟨?_, ?_, ?_, ?_, ?_, ?_, ?_, ?_⟩ <;>
    ((rw [takeJoinInSearch_eq]; (repeat' split) <;> simp))

@[simp] theorem takeJoinInSearch_frame_2 (i : SiteId) (e : FrameNo) (c : PerTenant Nat) (s : State) :
    (takeJoinInSearch i e c s).ps.idleDue = s.ps.idleDue ∧ (takeJoinInSearch i e c s).mc.restart = s.mc.restart ∧
    (takeJoinInSearch i e c s).mc.inbox = s.mc.inbox ∧ (takeJoinInSearch i e c s).mc.flagCount = s.mc.flagCount ∧
    (takeJoinInSearch i e c s).lc.role = s.lc.role ∧ (takeJoinInSearch i e c s).lc.identity = s.lc.identity ∧
    (takeJoinInSearch i e c s).lc.link = s.lc.link ∧ (takeJoinInSearch i e c s).lc.stop = s.lc.stop := by
  refine ⟨?_, ?_, ?_, ?_, ?_, ?_, ?_, ?_⟩ <;>
    ((rw [takeJoinInSearch_eq]; (repeat' split) <;> simp))

@[simp] theorem takeJoinInSearch_frame_3 (i : SiteId) (e : FrameNo) (c : PerTenant Nat) (s : State) :
    (takeJoinInSearch i e c s).lc.history = s.lc.history ∧ (takeJoinInSearch i e c s).lc.hostMax = s.lc.hostMax ∧
    (takeJoinInSearch i e c s).tn.free = s.tn.free ∧ (takeJoinInSearch i e c s).st.errored = s.st.errored ∧
    (takeJoinInSearch i e c s).st.bits = s.st.bits ∧ (takeJoinInSearch i e c s).st.commissioned = s.st.commissioned ∧
    (takeJoinInSearch i e c s).st.kind = s.st.kind ∧ (takeJoinInSearch i e c s).st.frames = s.st.frames := by
  refine ⟨?_, ?_, ?_, ?_, ?_, ?_, ?_, ?_⟩ <;>
    ((rw [takeJoinInSearch_eq]; (repeat' split) <;> simp))

@[simp] theorem takeJoinInSearch_frame_4 (i : SiteId) (e : FrameNo) (c : PerTenant Nat) (s : State) :
    (takeJoinInSearch i e c s).st.test = s.st.test ∧ (takeJoinInSearch i e c s).cb.snapshot = s.cb.snapshot ∧
    (takeJoinInSearch i e c s).cb.valid = s.cb.valid ∧ (takeJoinInSearch i e c s).cb.capture = s.cb.capture ∧
    (takeJoinInSearch i e c s).cb.pending = s.cb.pending ∧
    (takeJoinInSearch i e c s).cb.captureDue = s.cb.captureDue ∧
    (takeJoinInSearch i e c s).cb.live.tenants = s.cb.live.tenants ∧
    (takeJoinInSearch i e c s).cb.live.timing = s.cb.live.timing := by
  refine ⟨?_, ?_, ?_, ?_, ?_, ?_, ?_, ?_⟩ <;>
    ((rw [takeJoinInSearch_eq]; (repeat' split) <;> simp))

@[simp] theorem takeJoinInSearch_frame_5 (i : SiteId) (e : FrameNo) (c : PerTenant Nat) (s : State) :
    (takeJoinInSearch i e c s).cb.live.test = s.cb.live.test ∧ (takeJoinInSearch i e c s).cp.rate = s.cp.rate ∧
    (takeJoinInSearch i e c s).cp.receiver = s.cp.receiver ∧ (takeJoinInSearch i e c s).cp.buffer = s.cp.buffer ∧
    (takeJoinInSearch i e c s).cp.service = s.cp.service ∧ (takeJoinInSearch i e c s).cp.attention = s.cp.attention ∧
    (takeJoinInSearch i e c s).cp.resetDue = s.cp.resetDue := by
  refine ⟨?_, ?_, ?_, ?_, ?_, ?_, ?_⟩ <;>
    ((rw [takeJoinInSearch_eq]; (repeat' split) <;> simp))

/-! `takeJoin` -/

@[simp] theorem takeJoin_frame (i : SiteId) (e : FrameNo) (c : PerTenant Nat) (s : State) :
    (takeJoin i e c s).pending = s.pending ∧ (takeJoin i e c s).mp.frame = s.mp.frame ∧
    (takeJoin i e c s).mp.composed = s.mp.composed ∧ (takeJoin i e c s).mp.rxTaken = s.mp.rxTaken ∧
    (takeJoin i e c s).mp.txBefore = s.mp.txBefore ∧ (takeJoin i e c s).mp.loopback = s.mp.loopback ∧
    (takeJoin i e c s).sf.locked = s.sf.locked ∧ (takeJoin i e c s).ps.active = s.ps.active := by
  refine ⟨?_, ?_, ?_, ?_, ?_, ?_, ?_, ?_⟩ <;>
    ((simp only [takeJoin]; (repeat' split) <;> simp))

@[simp] theorem takeJoin_frame_2 (i : SiteId) (e : FrameNo) (c : PerTenant Nat) (s : State) :
    (takeJoin i e c s).ps.fallback = s.ps.fallback ∧ (takeJoin i e c s).mc.flagCount = s.mc.flagCount ∧
    (takeJoin i e c s).lc.role = s.lc.role ∧ (takeJoin i e c s).lc.identity = s.lc.identity ∧
    (takeJoin i e c s).lc.stop = s.lc.stop ∧ (takeJoin i e c s).tn.free = s.tn.free ∧
    (takeJoin i e c s).ca.fixed = s.ca.fixed ∧ (takeJoin i e c s).ca.fixedCounts = s.ca.fixedCounts := by
  refine ⟨?_, ?_, ?_, ?_, ?_, ?_, ?_, ?_⟩ <;>
    ((simp only [takeJoin]; (repeat' split) <;> simp))

@[simp] theorem takeJoin_frame_3 (i : SiteId) (e : FrameNo) (c : PerTenant Nat) (s : State) :
    (takeJoin i e c s).tm.time = s.tm.time ∧ (takeJoin i e c s).tm.config = s.tm.config ∧
    (takeJoin i e c s).tm.current = s.tm.current ∧ (takeJoin i e c s).tm.before = s.tm.before ∧
    (takeJoin i e c s).tm.integrator = s.tm.integrator ∧ (takeJoin i e c s).tm.sequence = s.tm.sequence ∧
    (takeJoin i e c s).st.errored = s.st.errored ∧ (takeJoin i e c s).st.bits = s.st.bits := by
  refine ⟨?_, ?_, ?_, ?_, ?_, ?_, ?_, ?_⟩ <;>
    ((simp only [takeJoin]; (repeat' split) <;> simp))

@[simp] theorem takeJoin_frame_4 (i : SiteId) (e : FrameNo) (c : PerTenant Nat) (s : State) :
    (takeJoin i e c s).st.kind = s.st.kind ∧ (takeJoin i e c s).st.frames = s.st.frames ∧
    (takeJoin i e c s).st.test = s.st.test ∧ (takeJoin i e c s).cb.snapshot = s.cb.snapshot ∧
    (takeJoin i e c s).cb.valid = s.cb.valid ∧ (takeJoin i e c s).cb.capture = s.cb.capture ∧
    (takeJoin i e c s).cb.pending = s.cb.pending ∧ (takeJoin i e c s).cb.captureDue = s.cb.captureDue := by
  refine ⟨?_, ?_, ?_, ?_, ?_, ?_, ?_, ?_⟩ <;>
    ((simp only [takeJoin]; (repeat' split) <;> simp))

@[simp] theorem takeJoin_frame_5 (i : SiteId) (e : FrameNo) (c : PerTenant Nat) (s : State) :
    (takeJoin i e c s).cb.live.tenants = s.cb.live.tenants ∧ (takeJoin i e c s).cb.live.test = s.cb.live.test ∧
    (takeJoin i e c s).cp.rate = s.cp.rate ∧ (takeJoin i e c s).cp.receiver = s.cp.receiver ∧
    (takeJoin i e c s).cp.buffer = s.cp.buffer ∧ (takeJoin i e c s).cp.service = s.cp.service ∧
    (takeJoin i e c s).cp.attention = s.cp.attention ∧ (takeJoin i e c s).cp.resetDue = s.cp.resetDue := by
  refine ⟨?_, ?_, ?_, ?_, ?_, ?_, ?_, ?_⟩ <;>
    ((simp only [takeJoin]; (repeat' split) <;> simp))

/-! `takeJoinAck` -/

@[simp] theorem takeJoinAck_frame (i : SiteId) (e : FrameNo) (s : State) :
    (takeJoinAck i e s).mp = s.mp ∧ (takeJoinAck i e s).sf = s.sf ∧ (takeJoinAck i e s).mc = s.mc ∧
    (takeJoinAck i e s).lc = s.lc ∧ (takeJoinAck i e s).ca = s.ca ∧ (takeJoinAck i e s).tm = s.tm ∧
    (takeJoinAck i e s).st = s.st ∧ (takeJoinAck i e s).pending = s.pending := by
  refine ⟨?_, ?_, ?_, ?_, ?_, ?_, ?_, ?_⟩ <;>
    ((simp only [takeJoinAck]; (repeat' split) <;> simp))

@[simp] theorem takeJoinAck_frame_2 (i : SiteId) (e : FrameNo) (s : State) :
    (takeJoinAck i e s).ps.active = s.ps.active ∧ (takeJoinAck i e s).ps.fallback = s.ps.fallback ∧
    (takeJoinAck i e s).ps.previous = s.ps.previous ∧ (takeJoinAck i e s).ps.idleDue = s.ps.idleDue ∧
    (takeJoinAck i e s).tn.free = s.tn.free ∧ (takeJoinAck i e s).cb.snapshot = s.cb.snapshot ∧
    (takeJoinAck i e s).cb.valid = s.cb.valid ∧ (takeJoinAck i e s).cb.capture = s.cb.capture := by
  refine ⟨?_, ?_, ?_, ?_, ?_, ?_, ?_, ?_⟩ <;>
    ((simp only [takeJoinAck]; (repeat' split) <;> simp))

@[simp] theorem takeJoinAck_frame_3 (i : SiteId) (e : FrameNo) (s : State) :
    (takeJoinAck i e s).cb.pending = s.cb.pending ∧ (takeJoinAck i e s).cb.captureDue = s.cb.captureDue ∧
    (takeJoinAck i e s).cb.live.tenants = s.cb.live.tenants ∧ (takeJoinAck i e s).cb.live.timing = s.cb.live.timing ∧
    (takeJoinAck i e s).cb.live.test = s.cb.live.test ∧ (takeJoinAck i e s).cp.rate = s.cp.rate ∧
    (takeJoinAck i e s).cp.receiver = s.cp.receiver ∧ (takeJoinAck i e s).cp.buffer = s.cp.buffer := by
  refine ⟨?_, ?_, ?_, ?_, ?_, ?_, ?_, ?_⟩ <;>
    ((simp only [takeJoinAck]; (repeat' split) <;> simp))

@[simp] theorem takeJoinAck_frame_4 (i : SiteId) (e : FrameNo) (s : State) :
    (takeJoinAck i e s).cp.service = s.cp.service ∧ (takeJoinAck i e s).cp.attention = s.cp.attention ∧
    (takeJoinAck i e s).cp.resetDue = s.cp.resetDue := by
  refine ⟨?_, ?_, ?_⟩ <;>
    ((simp only [takeJoinAck]; (repeat' split) <;> simp))

/-! `sendNak` -/

@[simp] theorem sendNak_frame (n r : Byte) (s : State) :
    (sendNak n r s).mp = s.mp ∧ (sendNak n r s).sf = s.sf ∧ (sendNak n r s).ps = s.ps ∧ (sendNak n r s).tn = s.tn ∧
    (sendNak n r s).ca = s.ca ∧ (sendNak n r s).tm = s.tm ∧ (sendNak n r s).cp = s.cp ∧
    (sendNak n r s).pending = s.pending := by
  refine ⟨?_, ?_, ?_, ?_, ?_, ?_, ?_, ?_⟩ <;>
    simp [sendNak]

@[simp] theorem sendNak_frame_2 (n r : Byte) (s : State) :
    (sendNak n r s).mc.restart = s.mc.restart ∧ (sendNak n r s).mc.inbox = s.mc.inbox ∧
    (sendNak n r s).mc.flagCount = s.mc.flagCount ∧ (sendNak n r s).lc.role = s.lc.role ∧
    (sendNak n r s).lc.identity = s.lc.identity ∧ (sendNak n r s).lc.link = s.lc.link ∧
    (sendNak n r s).lc.stop = s.lc.stop ∧ (sendNak n r s).lc.history = s.lc.history := by
  refine ⟨?_, ?_, ?_, ?_, ?_, ?_, ?_, ?_⟩ <;>
    simp [sendNak]

@[simp] theorem sendNak_frame_3 (n r : Byte) (s : State) :
    (sendNak n r s).lc.hostMax = s.lc.hostMax ∧ (sendNak n r s).st.errored = s.st.errored ∧
    (sendNak n r s).st.bits = s.st.bits ∧ (sendNak n r s).st.commissioned = s.st.commissioned ∧
    (sendNak n r s).st.kind = s.st.kind ∧ (sendNak n r s).st.frames = s.st.frames ∧
    (sendNak n r s).st.test = s.st.test ∧ (sendNak n r s).cb.snapshot = s.cb.snapshot := by
  refine ⟨?_, ?_, ?_, ?_, ?_, ?_, ?_, ?_⟩ <;>
    simp [sendNak]

@[simp] theorem sendNak_frame_4 (n r : Byte) (s : State) :
    (sendNak n r s).cb.valid = s.cb.valid ∧ (sendNak n r s).cb.capture = s.cb.capture ∧
    (sendNak n r s).cb.pending = s.cb.pending ∧ (sendNak n r s).cb.captureDue = s.cb.captureDue ∧
    (sendNak n r s).cb.live.tenants = s.cb.live.tenants ∧ (sendNak n r s).cb.live.timing = s.cb.live.timing ∧
    (sendNak n r s).cb.live.test = s.cb.live.test := by
  refine ⟨?_, ?_, ?_, ?_, ?_, ?_, ?_⟩ <;>
    simp [sendNak]

theorem takeShift_eq (p : Pending) (s : State) :
    takeShift p s =
      if s.lc.role = .hub ∧ inPair s.lc.link ∧ s.lc.stop = none then
        match judgeShift p s with
        | some reason => sendNak p.plan.number reason s
        | none =>
          match (offerPlan p s).2 with
          | some r => sendNak p.plan.number (refusalReason r) (offerPlan p s).1
          | none =>
            if (countLink .acksSent (send .linkController (.shiftAck p.plan.number) (offerPlan p s).1)).lc.link = .up
            then reportLink .up .shiftBegin 0
              ((countLink .acksSent (send .linkController (.shiftAck p.plan.number) (offerPlan p s).1)).modLC
                fun lc => { lc with link := .shift })
            else countLink .acksSent (send .linkController (.shiftAck p.plan.number) (offerPlan p s).1)
      else unexpected s := by
  unfold takeShift
  split
  · cases judgeShift p s with
    | some reason => rfl
    | none =>
      rcases offerPlan p s with ⟨s', r⟩
      cases r <;> rfl
  · rfl

/-! `takeShift` -/

@[simp] theorem takeShift_frame (p : Pending) (s : State) :
    (takeShift p s).mp = s.mp ∧ (takeShift p s).sf = s.sf ∧ (takeShift p s).ca = s.ca ∧ (takeShift p s).tm = s.tm ∧
    (takeShift p s).pending = s.pending ∧ (takeShift p s).ps.active = s.ps.active ∧
    (takeShift p s).ps.fallback = s.ps.fallback ∧ (takeShift p s).ps.previous = s.ps.previous := by
  refine ⟨?_, ?_, ?_, ?_, ?_, ?_, ?_, ?_⟩ <;>
    ((rw [takeShift_eq]; (repeat' split) <;> simp))

@[simp] theorem takeShift_frame_2 (p : Pending) (s : State) :
    (takeShift p s).ps.idleDue = s.ps.idleDue ∧ (takeShift p s).mc.restart = s.mc.restart ∧
    (takeShift p s).mc.inbox = s.mc.inbox ∧ (takeShift p s).mc.flagCount = s.mc.flagCount ∧
    (takeShift p s).lc.role = s.lc.role ∧ (takeShift p s).lc.identity = s.lc.identity ∧
    (takeShift p s).lc.stop = s.lc.stop ∧ (takeShift p s).lc.history = s.lc.history := by
  refine ⟨?_, ?_, ?_, ?_, ?_, ?_, ?_, ?_⟩ <;>
    ((rw [takeShift_eq]; (repeat' split) <;> simp))

@[simp] theorem takeShift_frame_3 (p : Pending) (s : State) :
    (takeShift p s).lc.hostMax = s.lc.hostMax ∧ (takeShift p s).tn.free = s.tn.free ∧
    (takeShift p s).st.errored = s.st.errored ∧ (takeShift p s).st.bits = s.st.bits ∧
    (takeShift p s).st.commissioned = s.st.commissioned ∧ (takeShift p s).st.kind = s.st.kind ∧
    (takeShift p s).st.frames = s.st.frames ∧ (takeShift p s).st.test = s.st.test := by
  refine ⟨?_, ?_, ?_, ?_, ?_, ?_, ?_, ?_⟩ <;>
    ((rw [takeShift_eq]; (repeat' split) <;> simp))

@[simp] theorem takeShift_frame_4 (p : Pending) (s : State) :
    (takeShift p s).cb.snapshot = s.cb.snapshot ∧ (takeShift p s).cb.valid = s.cb.valid ∧
    (takeShift p s).cb.capture = s.cb.capture ∧ (takeShift p s).cb.pending = s.cb.pending ∧
    (takeShift p s).cb.captureDue = s.cb.captureDue ∧ (takeShift p s).cb.live.tenants = s.cb.live.tenants ∧
    (takeShift p s).cb.live.timing = s.cb.live.timing ∧ (takeShift p s).cb.live.test = s.cb.live.test := by
  refine ⟨?_, ?_, ?_, ?_, ?_, ?_, ?_, ?_⟩ <;>
    ((rw [takeShift_eq]; (repeat' split) <;> simp))

@[simp] theorem takeShift_frame_5 (p : Pending) (s : State) :
    (takeShift p s).cp.rate = s.cp.rate ∧ (takeShift p s).cp.receiver = s.cp.receiver ∧
    (takeShift p s).cp.buffer = s.cp.buffer ∧ (takeShift p s).cp.service = s.cp.service ∧
    (takeShift p s).cp.attention = s.cp.attention ∧ (takeShift p s).cp.resetDue = s.cp.resetDue := by
  refine ⟨?_, ?_, ?_, ?_, ?_, ?_⟩ <;>
    ((rw [takeShift_eq]; (repeat' split) <;> simp))

/-! `takeShiftAck` -/

@[simp] theorem takeShiftAck_frame (n : Byte) (s : State) :
    (takeShiftAck n s).mp = s.mp ∧ (takeShiftAck n s).sf = s.sf ∧ (takeShiftAck n s).mc = s.mc ∧
    (takeShiftAck n s).tn = s.tn ∧ (takeShiftAck n s).ca = s.ca ∧ (takeShiftAck n s).tm = s.tm ∧
    (takeShiftAck n s).st = s.st ∧ (takeShiftAck n s).cp = s.cp := by
  refine ⟨?_, ?_, ?_, ?_, ?_, ?_, ?_, ?_⟩ <;>
    ((simp only [takeShiftAck]; (repeat' split) <;> simp))

@[simp] theorem takeShiftAck_frame_2 (n : Byte) (s : State) :
    (takeShiftAck n s).pending = s.pending ∧ (takeShiftAck n s).ps.active = s.ps.active ∧
    (takeShiftAck n s).ps.fallback = s.ps.fallback ∧ (takeShiftAck n s).ps.previous = s.ps.previous ∧
    (takeShiftAck n s).ps.idleDue = s.ps.idleDue ∧ (takeShiftAck n s).lc.role = s.lc.role ∧
    (takeShiftAck n s).lc.identity = s.lc.identity ∧ (takeShiftAck n s).lc.link = s.lc.link := by
  refine ⟨?_, ?_, ?_, ?_, ?_, ?_, ?_, ?_⟩ <;>
    ((simp only [takeShiftAck]; (repeat' split) <;> simp))

@[simp] theorem takeShiftAck_frame_3 (n : Byte) (s : State) :
    (takeShiftAck n s).lc.stop = s.lc.stop ∧ (takeShiftAck n s).lc.history = s.lc.history ∧
    (takeShiftAck n s).lc.hostMax = s.lc.hostMax ∧ (takeShiftAck n s).cb.snapshot = s.cb.snapshot ∧
    (takeShiftAck n s).cb.valid = s.cb.valid ∧ (takeShiftAck n s).cb.capture = s.cb.capture ∧
    (takeShiftAck n s).cb.pending = s.cb.pending ∧ (takeShiftAck n s).cb.captureDue = s.cb.captureDue := by
  refine ⟨?_, ?_, ?_, ?_, ?_, ?_, ?_, ?_⟩ <;>
    ((simp only [takeShiftAck]; (repeat' split) <;> simp))

@[simp] theorem takeShiftAck_frame_4 (n : Byte) (s : State) :
    (takeShiftAck n s).cb.live.tenants = s.cb.live.tenants ∧ (takeShiftAck n s).cb.live.timing = s.cb.live.timing ∧
    (takeShiftAck n s).cb.live.test = s.cb.live.test := by
  refine ⟨?_, ?_, ?_⟩ <;>
    ((simp only [takeShiftAck]; (repeat' split) <;> simp))

/-! `resolveFailed` -/

@[simp] theorem resolveFailed_frame (f : ShiftFailure) (p : Proposal) (s : State) :
    (resolveFailed f p s).mp = s.mp ∧ (resolveFailed f p s).sf = s.sf ∧ (resolveFailed f p s).ps = s.ps ∧
    (resolveFailed f p s).mc = s.mc ∧ (resolveFailed f p s).tn = s.tn ∧ (resolveFailed f p s).ca = s.ca ∧
    (resolveFailed f p s).tm = s.tm ∧ (resolveFailed f p s).st = s.st := by
  refine ⟨?_, ?_, ?_, ?_, ?_, ?_, ?_, ?_⟩ <;>
    simp [resolveFailed]

@[simp] theorem resolveFailed_frame_2 (f : ShiftFailure) (p : Proposal) (s : State) :
    (resolveFailed f p s).pending = s.pending ∧ (resolveFailed f p s).lc.role = s.lc.role ∧
    (resolveFailed f p s).lc.identity = s.lc.identity ∧ (resolveFailed f p s).lc.stop = s.lc.stop ∧
    (resolveFailed f p s).lc.history = s.lc.history ∧ (resolveFailed f p s).lc.hostMax = s.lc.hostMax ∧
    (resolveFailed f p s).cb.snapshot = s.cb.snapshot ∧ (resolveFailed f p s).cb.valid = s.cb.valid := by
  refine ⟨?_, ?_, ?_, ?_, ?_, ?_, ?_, ?_⟩ <;>
    simp [resolveFailed]

@[simp] theorem resolveFailed_frame_3 (f : ShiftFailure) (p : Proposal) (s : State) :
    (resolveFailed f p s).cb.capture = s.cb.capture ∧ (resolveFailed f p s).cb.pending = s.cb.pending ∧
    (resolveFailed f p s).cb.captureDue = s.cb.captureDue ∧
    (resolveFailed f p s).cb.live.tenants = s.cb.live.tenants ∧
    (resolveFailed f p s).cb.live.timing = s.cb.live.timing ∧ (resolveFailed f p s).cb.live.test = s.cb.live.test ∧
    (resolveFailed f p s).cp.rate = s.cp.rate ∧ (resolveFailed f p s).cp.receiver = s.cp.receiver := by
  refine ⟨?_, ?_, ?_, ?_, ?_, ?_, ?_, ?_⟩ <;>
    simp [resolveFailed]

@[simp] theorem resolveFailed_frame_4 (f : ShiftFailure) (p : Proposal) (s : State) :
    (resolveFailed f p s).cp.buffer = s.cp.buffer ∧ (resolveFailed f p s).cp.service = s.cp.service ∧
    (resolveFailed f p s).cp.attention = s.cp.attention ∧ (resolveFailed f p s).cp.resetDue = s.cp.resetDue := by
  refine ⟨?_, ?_, ?_, ?_⟩ <;>
    simp [resolveFailed]

/-! `takeShiftNak` -/

@[simp] theorem takeShiftNak_frame (n r : Byte) (s : State) :
    (takeShiftNak n r s).sf = s.sf ∧ (takeShiftNak n r s).tm = s.tm ∧ (takeShiftNak n r s).pending = s.pending ∧
    (takeShiftNak n r s).mp.frame = s.mp.frame ∧ (takeShiftNak n r s).mp.composed = s.mp.composed ∧
    (takeShiftNak n r s).mp.rxTaken = s.mp.rxTaken ∧ (takeShiftNak n r s).mp.tx = s.mp.tx ∧
    (takeShiftNak n r s).mp.txBefore = s.mp.txBefore := by
  refine ⟨?_, ?_, ?_, ?_, ?_, ?_, ?_, ?_⟩ <;>
    ((simp only [takeShiftNak]; (repeat' split) <;> simp))

@[simp] theorem takeShiftNak_frame_2 (n r : Byte) (s : State) :
    (takeShiftNak n r s).mp.loopback = s.mp.loopback ∧ (takeShiftNak n r s).ps.active = s.ps.active ∧
    (takeShiftNak n r s).ps.fallback = s.ps.fallback ∧ (takeShiftNak n r s).ps.previous = s.ps.previous ∧
    (takeShiftNak n r s).ps.idleDue = s.ps.idleDue ∧ (takeShiftNak n r s).mc.restart = s.mc.restart ∧
    (takeShiftNak n r s).mc.inbox = s.mc.inbox ∧ (takeShiftNak n r s).mc.flagCount = s.mc.flagCount := by
  refine ⟨?_, ?_, ?_, ?_, ?_, ?_, ?_, ?_⟩ <;>
    ((simp only [takeShiftNak]; (repeat' split) <;> simp))

@[simp] theorem takeShiftNak_frame_3 (n r : Byte) (s : State) :
    (takeShiftNak n r s).lc.role = s.lc.role ∧ (takeShiftNak n r s).lc.identity = s.lc.identity ∧
    (takeShiftNak n r s).lc.stop = s.lc.stop ∧ (takeShiftNak n r s).lc.history = s.lc.history ∧
    (takeShiftNak n r s).lc.hostMax = s.lc.hostMax ∧ (takeShiftNak n r s).tn.free = s.tn.free ∧
    (takeShiftNak n r s).ca.fixed = s.ca.fixed ∧ (takeShiftNak n r s).ca.fixedCounts = s.ca.fixedCounts := by
  refine ⟨?_, ?_, ?_, ?_, ?_, ?_, ?_, ?_⟩ <;>
    ((simp only [takeShiftNak]; (repeat' split) <;> simp))

@[simp] theorem takeShiftNak_frame_4 (n r : Byte) (s : State) :
    (takeShiftNak n r s).st.errored = s.st.errored ∧ (takeShiftNak n r s).st.bits = s.st.bits ∧
    (takeShiftNak n r s).st.kind = s.st.kind ∧ (takeShiftNak n r s).st.frames = s.st.frames ∧
    (takeShiftNak n r s).st.test = s.st.test ∧ (takeShiftNak n r s).cb.snapshot = s.cb.snapshot ∧
    (takeShiftNak n r s).cb.valid = s.cb.valid ∧ (takeShiftNak n r s).cb.capture = s.cb.capture := by
  refine ⟨?_, ?_, ?_, ?_, ?_, ?_, ?_, ?_⟩ <;>
    ((simp only [takeShiftNak]; (repeat' split) <;> simp))

@[simp] theorem takeShiftNak_frame_5 (n r : Byte) (s : State) :
    (takeShiftNak n r s).cb.pending = s.cb.pending ∧ (takeShiftNak n r s).cb.captureDue = s.cb.captureDue ∧
    (takeShiftNak n r s).cb.live.tenants = s.cb.live.tenants ∧
    (takeShiftNak n r s).cb.live.timing = s.cb.live.timing ∧ (takeShiftNak n r s).cb.live.test = s.cb.live.test ∧
    (takeShiftNak n r s).cp.rate = s.cp.rate ∧ (takeShiftNak n r s).cp.receiver = s.cp.receiver ∧
    (takeShiftNak n r s).cp.buffer = s.cp.buffer := by
  refine ⟨?_, ?_, ?_, ?_, ?_, ?_, ?_, ?_⟩ <;>
    ((simp only [takeShiftNak]; (repeat' split) <;> simp))

@[simp] theorem takeShiftNak_frame_6 (n r : Byte) (s : State) :
    (takeShiftNak n r s).cp.service = s.cp.service ∧ (takeShiftNak n r s).cp.attention = s.cp.attention ∧
    (takeShiftNak n r s).cp.resetDue = s.cp.resetDue := by
  refine ⟨?_, ?_, ?_⟩ <;>
    ((simp only [takeShiftNak]; (repeat' split) <;> simp))

/-! `takeStatus` -/

@[simp] theorem takeStatus_frame (f w : Nat) (d : PerTenant Nat) (h : PerTenant Bool) (s : State) :
    (takeStatus f w d h s).mp = s.mp ∧ (takeStatus f w d h s).sf = s.sf ∧ (takeStatus f w d h s).ps = s.ps ∧
    (takeStatus f w d h s).mc = s.mc ∧ (takeStatus f w d h s).tn = s.tn ∧ (takeStatus f w d h s).tm = s.tm ∧
    (takeStatus f w d h s).st = s.st ∧ (takeStatus f w d h s).cp = s.cp := by
  refine ⟨?_, ?_, ?_, ?_, ?_, ?_, ?_, ?_⟩
  · simp [takeStatus, apply_ite State.mp]
  · simp [takeStatus, apply_ite State.sf]
  · simp [takeStatus, apply_ite State.ps]
  · simp [takeStatus, apply_ite State.mc]
  · simp [takeStatus, apply_ite State.tn]
  · simp [takeStatus, apply_ite State.tm]
  · simp [takeStatus, apply_ite State.st]
  · simp [takeStatus, apply_ite State.cp]

@[simp] theorem takeStatus_frame_2 (f w : Nat) (d : PerTenant Nat) (h : PerTenant Bool) (s : State) :
    (takeStatus f w d h s).pending = s.pending ∧ (takeStatus f w d h s).lc.role = s.lc.role ∧
    (takeStatus f w d h s).lc.identity = s.lc.identity ∧ (takeStatus f w d h s).lc.link = s.lc.link ∧
    (takeStatus f w d h s).lc.stop = s.lc.stop ∧ (takeStatus f w d h s).lc.history = s.lc.history ∧
    (takeStatus f w d h s).lc.hostMax = s.lc.hostMax ∧ (takeStatus f w d h s).ca.fixed = s.ca.fixed := by
  refine ⟨?_, ?_, ?_, ?_, ?_, ?_, ?_, ?_⟩
  · simp [takeStatus, apply_ite State.pending]
  · simp [takeStatus, apply_ite State.lc, apply_ite LC.role]
  · simp [takeStatus, apply_ite State.lc, apply_ite LC.identity]
  · simp [takeStatus, apply_ite State.lc, apply_ite LC.link]
  · simp [takeStatus, apply_ite State.lc, apply_ite LC.stop]
  · simp [takeStatus, apply_ite State.lc, apply_ite LC.history]
  · simp [takeStatus, apply_ite State.lc, apply_ite LC.hostMax]
  · simp [takeStatus, apply_ite State.ca, apply_ite CA.fixed]

@[simp] theorem takeStatus_frame_3 (f w : Nat) (d : PerTenant Nat) (h : PerTenant Bool) (s : State) :
    (takeStatus f w d h s).ca.fixedCounts = s.ca.fixedCounts ∧ (takeStatus f w d h s).cb.snapshot = s.cb.snapshot ∧
    (takeStatus f w d h s).cb.valid = s.cb.valid ∧ (takeStatus f w d h s).cb.capture = s.cb.capture ∧
    (takeStatus f w d h s).cb.pending = s.cb.pending ∧ (takeStatus f w d h s).cb.captureDue = s.cb.captureDue ∧
    (takeStatus f w d h s).cb.live.tenants = s.cb.live.tenants ∧
    (takeStatus f w d h s).cb.live.timing = s.cb.live.timing := by
  refine ⟨?_, ?_, ?_, ?_, ?_, ?_, ?_, ?_⟩
  · simp [takeStatus, apply_ite State.ca, apply_ite CA.fixedCounts]
  · simp [takeStatus, apply_ite State.cb, apply_ite CB.snapshot]
  · simp [takeStatus, apply_ite State.cb, apply_ite CB.valid]
  · simp [takeStatus, apply_ite State.cb, apply_ite CB.capture]
  · simp [takeStatus, apply_ite State.cb, apply_ite CB.pending]
  · simp [takeStatus, apply_ite State.cb, apply_ite CB.captureDue]
  · simp [takeStatus, apply_ite State.cb, apply_ite CB.live, apply_ite Bank.tenants]
  · simp [takeStatus, apply_ite State.cb, apply_ite CB.live, apply_ite Bank.timing]

@[simp] theorem takeStatus_frame_4 (f w : Nat) (d : PerTenant Nat) (h : PerTenant Bool) (s : State) :
    (takeStatus f w d h s).cb.live.test = s.cb.live.test := by
  simp [takeStatus, apply_ite State.cb, apply_ite CB.live, apply_ite Bank.test]

/-! `takeBye` -/

@[simp] theorem takeBye_frame (r : Byte) (s : State) :
    (takeBye r s).pending = s.pending ∧ (takeBye r s).mp.frame = s.mp.frame ∧
    (takeBye r s).mp.composed = s.mp.composed ∧ (takeBye r s).mp.rxTaken = s.mp.rxTaken ∧
    (takeBye r s).mp.txBefore = s.mp.txBefore ∧ (takeBye r s).mp.loopback = s.mp.loopback ∧
    (takeBye r s).sf.locked = s.sf.locked ∧ (takeBye r s).ps.active = s.ps.active := by
  refine ⟨?_, ?_, ?_, ?_, ?_, ?_, ?_, ?_⟩
  · simp [takeBye, apply_ite State.pending]
  · simp [takeBye, apply_ite State.mp, apply_ite MP.frame]
  · simp [takeBye, apply_ite State.mp, apply_ite MP.composed]
  · simp [takeBye, apply_ite State.mp, apply_ite MP.rxTaken]
  · simp [takeBye, apply_ite State.mp, apply_ite MP.txBefore]
  · simp [takeBye, apply_ite State.mp, apply_ite MP.loopback]
  · simp [takeBye, apply_ite State.sf, apply_ite SF.locked]
  · simp [takeBye, apply_ite State.ps, apply_ite PS.active]

@[simp] theorem takeBye_frame_2 (r : Byte) (s : State) :
    (takeBye r s).ps.fallback = s.ps.fallback ∧ (takeBye r s).mc.flagCount = s.mc.flagCount ∧
    (takeBye r s).lc.role = s.lc.role ∧ (takeBye r s).lc.identity = s.lc.identity ∧
    (takeBye r s).lc.stop = s.lc.stop ∧ (takeBye r s).tn.free = s.tn.free ∧ (takeBye r s).ca.fixed = s.ca.fixed ∧
    (takeBye r s).ca.fixedCounts = s.ca.fixedCounts := by
  refine ⟨?_, ?_, ?_, ?_, ?_, ?_, ?_, ?_⟩
  · simp [takeBye, apply_ite State.ps, apply_ite PS.fallback]
  · simp [takeBye, apply_ite State.mc, apply_ite MC.flagCount]
  · simp [takeBye, apply_ite State.lc, apply_ite LC.role]
  · simp [takeBye, apply_ite State.lc, apply_ite LC.identity]
  · simp [takeBye, apply_ite State.lc, apply_ite LC.stop]
  · simp [takeBye, apply_ite State.tn, apply_ite TN.free]
  · simp [takeBye, apply_ite State.ca, apply_ite CA.fixed]
  · simp [takeBye, apply_ite State.ca, apply_ite CA.fixedCounts]

@[simp] theorem takeBye_frame_3 (r : Byte) (s : State) :
    (takeBye r s).tm.time = s.tm.time ∧ (takeBye r s).tm.config = s.tm.config ∧
    (takeBye r s).tm.current = s.tm.current ∧ (takeBye r s).tm.before = s.tm.before ∧
    (takeBye r s).tm.integrator = s.tm.integrator ∧ (takeBye r s).tm.sequence = s.tm.sequence ∧
    (takeBye r s).st.errored = s.st.errored ∧ (takeBye r s).st.bits = s.st.bits := by
  refine ⟨?_, ?_, ?_, ?_, ?_, ?_, ?_, ?_⟩
  · simp [takeBye, apply_ite State.tm, apply_ite TM.time]
  · simp [takeBye, apply_ite State.tm, apply_ite TM.config]
  · simp [takeBye, apply_ite State.tm, apply_ite TM.current]
  · simp [takeBye, apply_ite State.tm, apply_ite TM.before]
  · simp [takeBye, apply_ite State.tm, apply_ite TM.integrator]
  · simp [takeBye, apply_ite State.tm, apply_ite TM.sequence]
  · simp [takeBye, apply_ite State.st, apply_ite ST.errored]
  · simp [takeBye, apply_ite State.st, apply_ite ST.bits]

@[simp] theorem takeBye_frame_4 (r : Byte) (s : State) :
    (takeBye r s).st.kind = s.st.kind ∧ (takeBye r s).st.frames = s.st.frames ∧ (takeBye r s).st.test = s.st.test ∧
    (takeBye r s).cb.snapshot = s.cb.snapshot ∧ (takeBye r s).cb.valid = s.cb.valid ∧
    (takeBye r s).cb.capture = s.cb.capture ∧ (takeBye r s).cb.pending = s.cb.pending ∧
    (takeBye r s).cb.captureDue = s.cb.captureDue := by
  refine ⟨?_, ?_, ?_, ?_, ?_, ?_, ?_, ?_⟩
  · simp [takeBye, apply_ite State.st, apply_ite ST.kind]
  · simp [takeBye, apply_ite State.st, apply_ite ST.frames]
  · simp [takeBye, apply_ite State.st, apply_ite ST.test]
  · simp [takeBye, apply_ite State.cb, apply_ite CB.snapshot]
  · simp [takeBye, apply_ite State.cb, apply_ite CB.valid]
  · simp [takeBye, apply_ite State.cb, apply_ite CB.capture]
  · simp [takeBye, apply_ite State.cb, apply_ite CB.pending]
  · simp [takeBye, apply_ite State.cb, apply_ite CB.captureDue]

@[simp] theorem takeBye_frame_5 (r : Byte) (s : State) :
    (takeBye r s).cb.live.tenants = s.cb.live.tenants ∧ (takeBye r s).cb.live.test = s.cb.live.test ∧
    (takeBye r s).cp.rate = s.cp.rate ∧ (takeBye r s).cp.receiver = s.cp.receiver ∧
    (takeBye r s).cp.buffer = s.cp.buffer ∧ (takeBye r s).cp.service = s.cp.service ∧
    (takeBye r s).cp.attention = s.cp.attention ∧ (takeBye r s).cp.resetDue = s.cp.resetDue := by
  refine ⟨?_, ?_, ?_, ?_, ?_, ?_, ?_, ?_⟩
  · simp [takeBye, apply_ite State.cb, apply_ite CB.live, apply_ite Bank.tenants]
  · simp [takeBye, apply_ite State.cb, apply_ite CB.live, apply_ite Bank.test]
  · simp [takeBye, apply_ite State.cp, apply_ite CP.rate]
  · simp [takeBye, apply_ite State.cp, apply_ite CP.receiver]
  · simp [takeBye, apply_ite State.cp, apply_ite CP.buffer]
  · simp [takeBye, apply_ite State.cp, apply_ite CP.service]
  · simp [takeBye, apply_ite State.cp, apply_ite CP.attention]
  · simp [takeBye, apply_ite State.cp, apply_ite CP.resetDue]

/-! `startTest` -/

@[simp] theorem startTest_frame (s : State) :
    (startTest s).mp = s.mp ∧ (startTest s).sf = s.sf ∧ (startTest s).ps = s.ps ∧ (startTest s).mc = s.mc ∧
    (startTest s).lc = s.lc ∧ (startTest s).tn = s.tn ∧ (startTest s).ca = s.ca ∧ (startTest s).tm = s.tm := by
  refine ⟨?_, ?_, ?_, ?_, ?_, ?_, ?_, ?_⟩ <;>
    simp [startTest]

@[simp] theorem startTest_frame_2 (s : State) :
    (startTest s).cb = s.cb ∧ (startTest s).cp = s.cp ∧ (startTest s).pending = s.pending ∧
    (startTest s).st.errored = s.st.errored ∧ (startTest s).st.bits = s.st.bits ∧
    (startTest s).st.commissioned = s.st.commissioned ∧ (startTest s).st.kind = s.st.kind ∧
    (startTest s).st.frames = s.st.frames := by
  refine ⟨?_, ?_, ?_, ?_, ?_, ?_, ?_, ?_⟩ <;>
    simp [startTest]

@[simp] theorem startTest_frame_3 (s : State) :
    (startTest s).st.test = s.st.test := by
  simp [startTest]

/-! `takeTestAck` -/

@[simp] theorem takeTestAck_frame (a c : Byte) (f b e : Nat) (s : State) :
    (takeTestAck a c f b e s).sf = s.sf ∧ (takeTestAck a c f b e s).tm = s.tm ∧
    (takeTestAck a c f b e s).pending = s.pending ∧ (takeTestAck a c f b e s).mp.frame = s.mp.frame ∧
    (takeTestAck a c f b e s).mp.composed = s.mp.composed ∧ (takeTestAck a c f b e s).mp.rxTaken = s.mp.rxTaken ∧
    (takeTestAck a c f b e s).mp.tx = s.mp.tx ∧ (takeTestAck a c f b e s).mp.txBefore = s.mp.txBefore := by
  refine ⟨?_, ?_, ?_, ?_, ?_, ?_, ?_, ?_⟩ <;>
    ((simp only [takeTestAck]; (repeat' split) <;> simp))

@[simp] theorem takeTestAck_frame_2 (a c : Byte) (f b e : Nat) (s : State) :
    (takeTestAck a c f b e s).mp.loopback = s.mp.loopback ∧ (takeTestAck a c f b e s).ps.active = s.ps.active ∧
    (takeTestAck a c f b e s).ps.fallback = s.ps.fallback ∧ (takeTestAck a c f b e s).ps.previous = s.ps.previous ∧
    (takeTestAck a c f b e s).ps.idleDue = s.ps.idleDue ∧ (takeTestAck a c f b e s).mc.restart = s.mc.restart ∧
    (takeTestAck a c f b e s).mc.inbox = s.mc.inbox ∧ (takeTestAck a c f b e s).mc.flagCount = s.mc.flagCount := by
  refine ⟨?_, ?_, ?_, ?_, ?_, ?_, ?_, ?_⟩ <;>
    ((simp only [takeTestAck]; (repeat' split) <;> simp))

@[simp] theorem takeTestAck_frame_3 (a c : Byte) (f b e : Nat) (s : State) :
    (takeTestAck a c f b e s).lc.role = s.lc.role ∧ (takeTestAck a c f b e s).lc.identity = s.lc.identity ∧
    (takeTestAck a c f b e s).lc.stop = s.lc.stop ∧ (takeTestAck a c f b e s).lc.history = s.lc.history ∧
    (takeTestAck a c f b e s).lc.hostMax = s.lc.hostMax ∧ (takeTestAck a c f b e s).tn.free = s.tn.free ∧
    (takeTestAck a c f b e s).ca.fixed = s.ca.fixed ∧ (takeTestAck a c f b e s).ca.fixedCounts = s.ca.fixedCounts := by
  refine ⟨?_, ?_, ?_, ?_, ?_, ?_, ?_, ?_⟩ <;>
    ((simp only [takeTestAck]; (repeat' split) <;> simp))

@[simp] theorem takeTestAck_frame_4 (a c : Byte) (f b e : Nat) (s : State) :
    (takeTestAck a c f b e s).st.kind = s.st.kind ∧ (takeTestAck a c f b e s).st.frames = s.st.frames ∧
    (takeTestAck a c f b e s).st.test = s.st.test ∧ (takeTestAck a c f b e s).cb.snapshot = s.cb.snapshot ∧
    (takeTestAck a c f b e s).cb.valid = s.cb.valid ∧ (takeTestAck a c f b e s).cb.capture = s.cb.capture ∧
    (takeTestAck a c f b e s).cb.pending = s.cb.pending ∧ (takeTestAck a c f b e s).cb.captureDue = s.cb.captureDue := by
  refine ⟨?_, ?_, ?_, ?_, ?_, ?_, ?_, ?_⟩ <;>
    ((simp only [takeTestAck]; (repeat' split) <;> simp))

@[simp] theorem takeTestAck_frame_5 (a c : Byte) (f b e : Nat) (s : State) :
    (takeTestAck a c f b e s).cb.live.tenants = s.cb.live.tenants ∧
    (takeTestAck a c f b e s).cb.live.timing = s.cb.live.timing ∧ (takeTestAck a c f b e s).cp.rate = s.cp.rate ∧
    (takeTestAck a c f b e s).cp.receiver = s.cp.receiver ∧ (takeTestAck a c f b e s).cp.buffer = s.cp.buffer ∧
    (takeTestAck a c f b e s).cp.service = s.cp.service ∧ (takeTestAck a c f b e s).cp.attention = s.cp.attention ∧
    (takeTestAck a c f b e s).cp.resetDue = s.cp.resetDue := by
  refine ⟨?_, ?_, ?_, ?_, ?_, ?_, ?_, ?_⟩ <;>
    ((simp only [takeTestAck]; (repeat' split) <;> simp))

/-! `discardUnadopted` -/

@[simp] theorem discardUnadopted_frame (s : State) :
    (discardUnadopted s).sf = s.sf ∧ (discardUnadopted s).tm = s.tm ∧ (discardUnadopted s).pending = s.pending ∧
    (discardUnadopted s).mp.frame = s.mp.frame ∧ (discardUnadopted s).mp.composed = s.mp.composed ∧
    (discardUnadopted s).mp.rxTaken = s.mp.rxTaken ∧ (discardUnadopted s).mp.tx = s.mp.tx ∧
    (discardUnadopted s).mp.txBefore = s.mp.txBefore := by
  refine ⟨?_, ?_, ?_, ?_, ?_, ?_, ?_, ?_⟩ <;>
    ((simp only [discardUnadopted]; (repeat' split) <;> simp))

@[simp] theorem discardUnadopted_frame_2 (s : State) :
    (discardUnadopted s).mp.loopback = s.mp.loopback ∧ (discardUnadopted s).ps.active = s.ps.active ∧
    (discardUnadopted s).ps.fallback = s.ps.fallback ∧ (discardUnadopted s).ps.previous = s.ps.previous ∧
    (discardUnadopted s).ps.idleDue = s.ps.idleDue ∧ (discardUnadopted s).mc.restart = s.mc.restart ∧
    (discardUnadopted s).mc.inbox = s.mc.inbox ∧ (discardUnadopted s).mc.flagCount = s.mc.flagCount := by
  refine ⟨?_, ?_, ?_, ?_, ?_, ?_, ?_, ?_⟩ <;>
    ((simp only [discardUnadopted]; (repeat' split) <;> simp))

@[simp] theorem discardUnadopted_frame_3 (s : State) :
    (discardUnadopted s).lc.role = s.lc.role ∧ (discardUnadopted s).lc.identity = s.lc.identity ∧
    (discardUnadopted s).lc.stop = s.lc.stop ∧ (discardUnadopted s).lc.history = s.lc.history ∧
    (discardUnadopted s).lc.hostMax = s.lc.hostMax ∧ (discardUnadopted s).tn.free = s.tn.free ∧
    (discardUnadopted s).ca.fixed = s.ca.fixed ∧ (discardUnadopted s).ca.fixedCounts = s.ca.fixedCounts := by
  refine ⟨?_, ?_, ?_, ?_, ?_, ?_, ?_, ?_⟩ <;>
    ((simp only [discardUnadopted]; (repeat' split) <;> simp))

@[simp] theorem discardUnadopted_frame_4 (s : State) :
    (discardUnadopted s).st.errored = s.st.errored ∧ (discardUnadopted s).st.bits = s.st.bits ∧
    (discardUnadopted s).st.kind = s.st.kind ∧ (discardUnadopted s).st.frames = s.st.frames ∧
    (discardUnadopted s).st.test = s.st.test ∧ (discardUnadopted s).cb.snapshot = s.cb.snapshot ∧
    (discardUnadopted s).cb.valid = s.cb.valid ∧ (discardUnadopted s).cb.capture = s.cb.capture := by
  refine ⟨?_, ?_, ?_, ?_, ?_, ?_, ?_, ?_⟩ <;>
    ((simp only [discardUnadopted]; (repeat' split) <;> simp))

@[simp] theorem discardUnadopted_frame_5 (s : State) :
    (discardUnadopted s).cb.pending = s.cb.pending ∧ (discardUnadopted s).cb.captureDue = s.cb.captureDue ∧
    (discardUnadopted s).cb.live.tenants = s.cb.live.tenants ∧
    (discardUnadopted s).cb.live.timing = s.cb.live.timing ∧ (discardUnadopted s).cb.live.test = s.cb.live.test ∧
    (discardUnadopted s).cp.rate = s.cp.rate ∧ (discardUnadopted s).cp.receiver = s.cp.receiver ∧
    (discardUnadopted s).cp.buffer = s.cp.buffer := by
  refine ⟨?_, ?_, ?_, ?_, ?_, ?_, ?_, ?_⟩ <;>
    ((simp only [discardUnadopted]; (repeat' split) <;> simp))

@[simp] theorem discardUnadopted_frame_6 (s : State) :
    (discardUnadopted s).cp.service = s.cp.service ∧ (discardUnadopted s).cp.attention = s.cp.attention ∧
    (discardUnadopted s).cp.resetDue = s.cp.resetDue := by
  refine ⟨?_, ?_, ?_⟩ <;>
    ((simp only [discardUnadopted]; (repeat' split) <;> simp))

/-! `endRetry` -/

@[simp] theorem endRetry_frame (s : State) :
    (endRetry s).sf = s.sf ∧ (endRetry s).tm = s.tm ∧ (endRetry s).pending = s.pending ∧
    (endRetry s).mp.frame = s.mp.frame ∧ (endRetry s).mp.composed = s.mp.composed ∧
    (endRetry s).mp.rxTaken = s.mp.rxTaken ∧ (endRetry s).mp.tx = s.mp.tx ∧ (endRetry s).mp.txBefore = s.mp.txBefore := by
  refine ⟨?_, ?_, ?_, ?_, ?_, ?_, ?_, ?_⟩ <;>
    simp [endRetry]

@[simp] theorem endRetry_frame_2 (s : State) :
    (endRetry s).mp.loopback = s.mp.loopback ∧ (endRetry s).ps.active = s.ps.active ∧
    (endRetry s).ps.fallback = s.ps.fallback ∧ (endRetry s).ps.previous = s.ps.previous ∧
    (endRetry s).ps.idleDue = s.ps.idleDue ∧ (endRetry s).mc.restart = s.mc.restart ∧
    (endRetry s).mc.inbox = s.mc.inbox ∧ (endRetry s).mc.flagCount = s.mc.flagCount := by
  refine ⟨?_, ?_, ?_, ?_, ?_, ?_, ?_, ?_⟩ <;>
    simp [endRetry]

@[simp] theorem endRetry_frame_3 (s : State) :
    (endRetry s).lc.role = s.lc.role ∧ (endRetry s).lc.identity = s.lc.identity ∧ (endRetry s).lc.stop = s.lc.stop ∧
    (endRetry s).lc.history = s.lc.history ∧ (endRetry s).lc.hostMax = s.lc.hostMax ∧
    (endRetry s).tn.free = s.tn.free ∧ (endRetry s).ca.fixed = s.ca.fixed ∧
    (endRetry s).ca.fixedCounts = s.ca.fixedCounts := by
  refine ⟨?_, ?_, ?_, ?_, ?_, ?_, ?_, ?_⟩ <;>
    simp [endRetry]

@[simp] theorem endRetry_frame_4 (s : State) :
    (endRetry s).st.errored = s.st.errored ∧ (endRetry s).st.bits = s.st.bits ∧ (endRetry s).st.kind = s.st.kind ∧
    (endRetry s).st.frames = s.st.frames ∧ (endRetry s).st.test = s.st.test ∧
    (endRetry s).cb.snapshot = s.cb.snapshot ∧ (endRetry s).cb.valid = s.cb.valid ∧
    (endRetry s).cb.capture = s.cb.capture := by
  refine ⟨?_, ?_, ?_, ?_, ?_, ?_, ?_, ?_⟩ <;>
    simp [endRetry]

@[simp] theorem endRetry_frame_5 (s : State) :
    (endRetry s).cb.pending = s.cb.pending ∧ (endRetry s).cb.captureDue = s.cb.captureDue ∧
    (endRetry s).cb.live.tenants = s.cb.live.tenants ∧ (endRetry s).cb.live.timing = s.cb.live.timing ∧
    (endRetry s).cb.live.test = s.cb.live.test ∧ (endRetry s).cp.rate = s.cp.rate ∧
    (endRetry s).cp.receiver = s.cp.receiver ∧ (endRetry s).cp.buffer = s.cp.buffer := by
  refine ⟨?_, ?_, ?_, ?_, ?_, ?_, ?_, ?_⟩ <;>
    simp [endRetry]

@[simp] theorem endRetry_frame_6 (s : State) :
    (endRetry s).cp.service = s.cp.service ∧ (endRetry s).cp.attention = s.cp.attention ∧
    (endRetry s).cp.resetDue = s.cp.resetDue := by
  refine ⟨?_, ?_, ?_⟩ <;>
    simp [endRetry]

/-! `noticeFree` -/

@[simp] theorem noticeFree_frame (s : State) :
    (noticeFree s).sf = s.sf ∧ (noticeFree s).tm = s.tm ∧ (noticeFree s).pending = s.pending ∧
    (noticeFree s).mp.frame = s.mp.frame ∧ (noticeFree s).mp.composed = s.mp.composed ∧
    (noticeFree s).mp.rxTaken = s.mp.rxTaken ∧ (noticeFree s).mp.tx = s.mp.tx ∧
    (noticeFree s).mp.txBefore = s.mp.txBefore := by
  refine ⟨?_, ?_, ?_, ?_, ?_, ?_, ?_, ?_⟩ <;>
    simp [noticeFree]

@[simp] theorem noticeFree_frame_2 (s : State) :
    (noticeFree s).mp.loopback = s.mp.loopback ∧ (noticeFree s).ps.active = s.ps.active ∧
    (noticeFree s).ps.fallback = s.ps.fallback ∧ (noticeFree s).ps.previous = s.ps.previous ∧
    (noticeFree s).ps.idleDue = s.ps.idleDue ∧ (noticeFree s).mc.restart = s.mc.restart ∧
    (noticeFree s).mc.inbox = s.mc.inbox ∧ (noticeFree s).mc.flagCount = s.mc.flagCount := by
  refine ⟨?_, ?_, ?_, ?_, ?_, ?_, ?_, ?_⟩ <;>
    simp [noticeFree]

@[simp] theorem noticeFree_frame_3 (s : State) :
    (noticeFree s).lc.role = s.lc.role ∧ (noticeFree s).lc.identity = s.lc.identity ∧
    (noticeFree s).lc.stop = s.lc.stop ∧ (noticeFree s).lc.history = s.lc.history ∧
    (noticeFree s).lc.hostMax = s.lc.hostMax ∧ (noticeFree s).tn.free = s.tn.free ∧
    (noticeFree s).ca.fixed = s.ca.fixed ∧ (noticeFree s).ca.fixedCounts = s.ca.fixedCounts := by
  refine ⟨?_, ?_, ?_, ?_, ?_, ?_, ?_, ?_⟩ <;>
    simp [noticeFree]

@[simp] theorem noticeFree_frame_4 (s : State) :
    (noticeFree s).st.errored = s.st.errored ∧ (noticeFree s).st.bits = s.st.bits ∧
    (noticeFree s).st.kind = s.st.kind ∧ (noticeFree s).st.frames = s.st.frames ∧ (noticeFree s).st.test = s.st.test ∧
    (noticeFree s).cb.snapshot = s.cb.snapshot ∧ (noticeFree s).cb.valid = s.cb.valid ∧
    (noticeFree s).cb.capture = s.cb.capture := by
  refine ⟨?_, ?_, ?_, ?_, ?_, ?_, ?_, ?_⟩ <;>
    simp [noticeFree]

@[simp] theorem noticeFree_frame_5 (s : State) :
    (noticeFree s).cb.pending = s.cb.pending ∧ (noticeFree s).cb.captureDue = s.cb.captureDue ∧
    (noticeFree s).cb.live.tenants = s.cb.live.tenants ∧ (noticeFree s).cb.live.timing = s.cb.live.timing ∧
    (noticeFree s).cb.live.test = s.cb.live.test ∧ (noticeFree s).cp.rate = s.cp.rate ∧
    (noticeFree s).cp.receiver = s.cp.receiver ∧ (noticeFree s).cp.buffer = s.cp.buffer := by
  refine ⟨?_, ?_, ?_, ?_, ?_, ?_, ?_, ?_⟩ <;>
    simp [noticeFree]

@[simp] theorem noticeFree_frame_6 (s : State) :
    (noticeFree s).cp.service = s.cp.service ∧ (noticeFree s).cp.attention = s.cp.attention ∧
    (noticeFree s).cp.resetDue = s.cp.resetDue := by
  refine ⟨?_, ?_, ?_⟩ <;>
    simp [noticeFree]

/-! `endStop` -/

@[simp] theorem endStop_frame (s : State) :
    (endStop s).pending = s.pending ∧ (endStop s).mp.frame = s.mp.frame ∧ (endStop s).mp.composed = s.mp.composed ∧
    (endStop s).mp.rxTaken = s.mp.rxTaken ∧ (endStop s).mp.txBefore = s.mp.txBefore ∧
    (endStop s).mp.loopback = s.mp.loopback ∧ (endStop s).sf.locked = s.sf.locked ∧
    (endStop s).ps.active = s.ps.active := by
  refine ⟨?_, ?_, ?_, ?_, ?_, ?_, ?_, ?_⟩ <;>
    ((simp only [endStop]; (repeat' split) <;> simp))

@[simp] theorem endStop_frame_2 (s : State) :
    (endStop s).ps.fallback = s.ps.fallback ∧ (endStop s).mc.flagCount = s.mc.flagCount ∧
    (endStop s).lc.role = s.lc.role ∧ (endStop s).lc.identity = s.lc.identity ∧ (endStop s).tn.free = s.tn.free ∧
    (endStop s).ca.fixed = s.ca.fixed ∧ (endStop s).ca.fixedCounts = s.ca.fixedCounts ∧
    (endStop s).tm.time = s.tm.time := by
  refine ⟨?_, ?_, ?_, ?_, ?_, ?_, ?_, ?_⟩ <;>
    ((simp only [endStop]; (repeat' split) <;> simp))

@[simp] theorem endStop_frame_3 (s : State) :
    (endStop s).tm.config = s.tm.config ∧ (endStop s).tm.current = s.tm.current ∧
    (endStop s).tm.before = s.tm.before ∧ (endStop s).tm.integrator = s.tm.integrator ∧
    (endStop s).tm.sequence = s.tm.sequence ∧ (endStop s).st.errored = s.st.errored ∧
    (endStop s).st.bits = s.st.bits ∧ (endStop s).st.kind = s.st.kind := by
  refine ⟨?_, ?_, ?_, ?_, ?_, ?_, ?_, ?_⟩ <;>
    ((simp only [endStop]; (repeat' split) <;> simp))

@[simp] theorem endStop_frame_4 (s : State) :
    (endStop s).st.frames = s.st.frames ∧ (endStop s).st.test = s.st.test ∧ (endStop s).cb.snapshot = s.cb.snapshot ∧
    (endStop s).cb.valid = s.cb.valid ∧ (endStop s).cb.capture = s.cb.capture ∧
    (endStop s).cb.pending = s.cb.pending ∧ (endStop s).cb.captureDue = s.cb.captureDue ∧
    (endStop s).cb.live.tenants = s.cb.live.tenants := by
  refine ⟨?_, ?_, ?_, ?_, ?_, ?_, ?_, ?_⟩ <;>
    ((simp only [endStop]; (repeat' split) <;> simp))

@[simp] theorem endStop_frame_5 (s : State) :
    (endStop s).cb.live.test = s.cb.live.test ∧ (endStop s).cp.rate = s.cp.rate ∧
    (endStop s).cp.receiver = s.cp.receiver ∧ (endStop s).cp.buffer = s.cp.buffer ∧
    (endStop s).cp.service = s.cp.service ∧ (endStop s).cp.attention = s.cp.attention ∧
    (endStop s).cp.resetDue = s.cp.resetDue := by
  refine ⟨?_, ?_, ?_, ?_, ?_, ?_, ?_⟩ <;>
    ((simp only [endStop]; (repeat' split) <;> simp))

theorem retryKept_eq (p : Producer) (s : State) :
    retryKept p s =
      match p with
      | .linkController =>
        setKept p (retryMessages s.lc.kept (s.modLC fun lc => { lc with retryDue := false })).2
          (retryMessages s.lc.kept (s.modLC fun lc => { lc with retryDue := false })).1
      | .selfTest =>
        setKept p (retryMessages s.st.kept (s.modST fun st => { st with retryDue := false })).2
          (retryMessages s.st.kept (s.modST fun st => { st with retryDue := false })).1 := by
  cases p <;> rfl

/-! `retryKept` -/

@[simp] theorem retryKept_frame (p : Producer) (s : State) :
    (retryKept p s).mp = s.mp ∧ (retryKept p s).sf = s.sf ∧ (retryKept p s).ps = s.ps ∧ (retryKept p s).tn = s.tn ∧
    (retryKept p s).ca = s.ca ∧ (retryKept p s).tm = s.tm ∧ (retryKept p s).cp = s.cp ∧
    (retryKept p s).pending = s.pending := by
  refine ⟨?_, ?_, ?_, ?_, ?_, ?_, ?_, ?_⟩ <;>
    ((rw [retryKept_eq]; cases p <;> simp))

@[simp] theorem retryKept_frame_2 (p : Producer) (s : State) :
    (retryKept p s).mc.restart = s.mc.restart ∧ (retryKept p s).mc.inbox = s.mc.inbox ∧
    (retryKept p s).mc.flagCount = s.mc.flagCount ∧ (retryKept p s).lc.role = s.lc.role ∧
    (retryKept p s).lc.identity = s.lc.identity ∧ (retryKept p s).lc.link = s.lc.link ∧
    (retryKept p s).lc.stop = s.lc.stop ∧ (retryKept p s).lc.history = s.lc.history := by
  refine ⟨?_, ?_, ?_, ?_, ?_, ?_, ?_, ?_⟩ <;>
    ((rw [retryKept_eq]; cases p <;> simp))

@[simp] theorem retryKept_frame_3 (p : Producer) (s : State) :
    (retryKept p s).lc.hostMax = s.lc.hostMax ∧ (retryKept p s).st.errored = s.st.errored ∧
    (retryKept p s).st.bits = s.st.bits ∧ (retryKept p s).st.commissioned = s.st.commissioned ∧
    (retryKept p s).st.kind = s.st.kind ∧ (retryKept p s).st.frames = s.st.frames ∧
    (retryKept p s).st.test = s.st.test ∧ (retryKept p s).cb.snapshot = s.cb.snapshot := by
  refine ⟨?_, ?_, ?_, ?_, ?_, ?_, ?_, ?_⟩ <;>
    ((rw [retryKept_eq]; cases p <;> simp))

@[simp] theorem retryKept_frame_4 (p : Producer) (s : State) :
    (retryKept p s).cb.valid = s.cb.valid ∧ (retryKept p s).cb.capture = s.cb.capture ∧
    (retryKept p s).cb.pending = s.cb.pending ∧ (retryKept p s).cb.captureDue = s.cb.captureDue ∧
    (retryKept p s).cb.live.tenants = s.cb.live.tenants ∧ (retryKept p s).cb.live.timing = s.cb.live.timing ∧
    (retryKept p s).cb.live.test = s.cb.live.test := by
  refine ⟨?_, ?_, ?_, ?_, ?_, ?_, ?_⟩ <;>
    ((rw [retryKept_eq]; cases p <;> simp))

/-! `buildStatus` -/

@[simp] theorem buildStatus_frame (s : State) :
    (buildStatus s).mp = s.mp ∧ (buildStatus s).sf = s.sf ∧ (buildStatus s).ps = s.ps ∧ (buildStatus s).tn = s.tn ∧
    (buildStatus s).ca = s.ca ∧ (buildStatus s).tm = s.tm ∧ (buildStatus s).cp = s.cp ∧
    (buildStatus s).pending = s.pending := by
  refine ⟨?_, ?_, ?_, ?_, ?_, ?_, ?_, ?_⟩ <;>
    simp [buildStatus]

@[simp] theorem buildStatus_frame_2 (s : State) :
    (buildStatus s).mc.restart = s.mc.restart ∧ (buildStatus s).mc.inbox = s.mc.inbox ∧
    (buildStatus s).mc.flagCount = s.mc.flagCount ∧ (buildStatus s).lc.role = s.lc.role ∧
    (buildStatus s).lc.identity = s.lc.identity ∧ (buildStatus s).lc.link = s.lc.link ∧
    (buildStatus s).lc.stop = s.lc.stop ∧ (buildStatus s).lc.history = s.lc.history := by
  refine ⟨?_, ?_, ?_, ?_, ?_, ?_, ?_, ?_⟩ <;>
    simp [buildStatus]

@[simp] theorem buildStatus_frame_3 (s : State) :
    (buildStatus s).lc.hostMax = s.lc.hostMax ∧ (buildStatus s).st.errored = s.st.errored ∧
    (buildStatus s).st.bits = s.st.bits ∧ (buildStatus s).st.commissioned = s.st.commissioned ∧
    (buildStatus s).st.kind = s.st.kind ∧ (buildStatus s).st.frames = s.st.frames ∧
    (buildStatus s).st.test = s.st.test ∧ (buildStatus s).cb.snapshot = s.cb.snapshot := by
  refine ⟨?_, ?_, ?_, ?_, ?_, ?_, ?_, ?_⟩ <;>
    simp [buildStatus]

@[simp] theorem buildStatus_frame_4 (s : State) :
    (buildStatus s).cb.valid = s.cb.valid ∧ (buildStatus s).cb.capture = s.cb.capture ∧
    (buildStatus s).cb.pending = s.cb.pending ∧ (buildStatus s).cb.captureDue = s.cb.captureDue ∧
    (buildStatus s).cb.live.tenants = s.cb.live.tenants ∧ (buildStatus s).cb.live.timing = s.cb.live.timing ∧
    (buildStatus s).cb.live.test = s.cb.live.test := by
  refine ⟨?_, ?_, ?_, ?_, ?_, ?_, ?_⟩ <;>
    simp [buildStatus]

/-! `evaluateRise` -/

@[simp] theorem evaluateRise_frame (s : State) :
    (evaluateRise s).sf = s.sf ∧ (evaluateRise s).tm = s.tm ∧ (evaluateRise s).pending = s.pending ∧
    (evaluateRise s).mp.frame = s.mp.frame ∧ (evaluateRise s).mp.composed = s.mp.composed ∧
    (evaluateRise s).mp.rxTaken = s.mp.rxTaken ∧ (evaluateRise s).mp.tx = s.mp.tx ∧
    (evaluateRise s).mp.txBefore = s.mp.txBefore := by
  refine ⟨?_, ?_, ?_, ?_, ?_, ?_, ?_, ?_⟩
  · simp [evaluateRise, apply_ite State.sf]
  · simp [evaluateRise, apply_ite State.tm]
  · simp [evaluateRise, apply_ite State.pending]
  · simp [evaluateRise, apply_ite State.mp, apply_ite MP.frame]
  · simp [evaluateRise, apply_ite State.mp, apply_ite MP.composed]
  · simp [evaluateRise, apply_ite State.mp, apply_ite MP.rxTaken]
  · simp [evaluateRise, apply_ite State.mp, apply_ite MP.tx]
  · simp [evaluateRise, apply_ite State.mp, apply_ite MP.txBefore]

@[simp] theorem evaluateRise_frame_2 (s : State) :
    (evaluateRise s).mp.loopback = s.mp.loopback ∧ (evaluateRise s).ps.active = s.ps.active ∧
    (evaluateRise s).ps.fallback = s.ps.fallback ∧ (evaluateRise s).ps.previous = s.ps.previous ∧
    (evaluateRise s).ps.idleDue = s.ps.idleDue ∧ (evaluateRise s).mc.restart = s.mc.restart ∧
    (evaluateRise s).mc.inbox = s.mc.inbox ∧ (evaluateRise s).mc.flagCount = s.mc.flagCount := by
  refine ⟨?_, ?_, ?_, ?_, ?_, ?_, ?_, ?_⟩
  · simp [evaluateRise, apply_ite State.mp, apply_ite MP.loopback]
  · simp [evaluateRise, apply_ite State.ps, apply_ite PS.active]
  · simp [evaluateRise, apply_ite State.ps, apply_ite PS.fallback]
  · simp [evaluateRise, apply_ite State.ps, apply_ite PS.previous]
  · simp [evaluateRise, apply_ite State.ps, apply_ite PS.idleDue]
  · simp [evaluateRise, apply_ite State.mc, apply_ite MC.restart]
  · simp [evaluateRise, apply_ite State.mc, apply_ite MC.inbox]
  · simp [evaluateRise, apply_ite State.mc, apply_ite MC.flagCount]

@[simp] theorem evaluateRise_frame_3 (s : State) :
    (evaluateRise s).lc.role = s.lc.role ∧ (evaluateRise s).lc.identity = s.lc.identity ∧
    (evaluateRise s).lc.stop = s.lc.stop ∧ (evaluateRise s).lc.history = s.lc.history ∧
    (evaluateRise s).lc.hostMax = s.lc.hostMax ∧ (evaluateRise s).tn.free = s.tn.free ∧
    (evaluateRise s).ca.fixed = s.ca.fixed ∧ (evaluateRise s).ca.fixedCounts = s.ca.fixedCounts := by
  refine ⟨?_, ?_, ?_, ?_, ?_, ?_, ?_, ?_⟩
  · simp [evaluateRise, apply_ite State.lc, apply_ite LC.role]
  · simp [evaluateRise, apply_ite State.lc, apply_ite LC.identity]
  · simp [evaluateRise, apply_ite State.lc, apply_ite LC.stop]
  · simp [evaluateRise, apply_ite State.lc, apply_ite LC.history]
  · simp [evaluateRise, apply_ite State.lc, apply_ite LC.hostMax]
  · simp [evaluateRise, apply_ite State.tn, apply_ite TN.free]
  · simp [evaluateRise, apply_ite State.ca, apply_ite CA.fixed]
  · simp [evaluateRise, apply_ite State.ca, apply_ite CA.fixedCounts]

@[simp] theorem evaluateRise_frame_4 (s : State) :
    (evaluateRise s).st.errored = s.st.errored ∧ (evaluateRise s).st.bits = s.st.bits ∧
    (evaluateRise s).st.kind = s.st.kind ∧ (evaluateRise s).st.frames = s.st.frames ∧
    (evaluateRise s).st.test = s.st.test ∧ (evaluateRise s).cb.snapshot = s.cb.snapshot ∧
    (evaluateRise s).cb.valid = s.cb.valid ∧ (evaluateRise s).cb.capture = s.cb.capture := by
  refine ⟨?_, ?_, ?_, ?_, ?_, ?_, ?_, ?_⟩
  · simp [evaluateRise, apply_ite State.st, apply_ite ST.errored]
  · simp [evaluateRise, apply_ite State.st, apply_ite ST.bits]
  · simp [evaluateRise, apply_ite State.st, apply_ite ST.kind]
  · simp [evaluateRise, apply_ite State.st, apply_ite ST.frames]
  · simp [evaluateRise, apply_ite State.st, apply_ite ST.test]
  · simp [evaluateRise, apply_ite State.cb, apply_ite CB.snapshot]
  · simp [evaluateRise, apply_ite State.cb, apply_ite CB.valid]
  · simp [evaluateRise, apply_ite State.cb, apply_ite CB.capture]

@[simp] theorem evaluateRise_frame_5 (s : State) :
    (evaluateRise s).cb.pending = s.cb.pending ∧ (evaluateRise s).cb.captureDue = s.cb.captureDue ∧
    (evaluateRise s).cb.live.tenants = s.cb.live.tenants ∧ (evaluateRise s).cb.live.timing = s.cb.live.timing ∧
    (evaluateRise s).cb.live.test = s.cb.live.test ∧ (evaluateRise s).cp.rate = s.cp.rate ∧
    (evaluateRise s).cp.receiver = s.cp.receiver ∧ (evaluateRise s).cp.buffer = s.cp.buffer := by
  refine ⟨?_, ?_, ?_, ?_, ?_, ?_, ?_, ?_⟩
  · simp [evaluateRise, apply_ite State.cb, apply_ite CB.pending]
  · simp [evaluateRise, apply_ite State.cb, apply_ite CB.captureDue]
  · simp [evaluateRise, apply_ite State.cb, apply_ite CB.live, apply_ite Bank.tenants]
  · simp [evaluateRise, apply_ite State.cb, apply_ite CB.live, apply_ite Bank.timing]
  · simp [evaluateRise, apply_ite State.cb, apply_ite CB.live, apply_ite Bank.test]
  · simp [evaluateRise, apply_ite State.cp, apply_ite CP.rate]
  · simp [evaluateRise, apply_ite State.cp, apply_ite CP.receiver]
  · simp [evaluateRise, apply_ite State.cp, apply_ite CP.buffer]

@[simp] theorem evaluateRise_frame_6 (s : State) :
    (evaluateRise s).cp.service = s.cp.service ∧ (evaluateRise s).cp.attention = s.cp.attention ∧
    (evaluateRise s).cp.resetDue = s.cp.resetDue := by
  refine ⟨?_, ?_, ?_⟩
  · simp [evaluateRise, apply_ite State.cp, apply_ite CP.service]
  · simp [evaluateRise, apply_ite State.cp, apply_ite CP.attention]
  · simp [evaluateRise, apply_ite State.cp, apply_ite CP.resetDue]

/-! `closeDemandWindow` -/

@[simp] theorem closeDemandWindow_frame (s : State) :
    (closeDemandWindow s).sf = s.sf ∧ (closeDemandWindow s).tm = s.tm ∧ (closeDemandWindow s).pending = s.pending ∧
    (closeDemandWindow s).mp.frame = s.mp.frame ∧ (closeDemandWindow s).mp.composed = s.mp.composed ∧
    (closeDemandWindow s).mp.rxTaken = s.mp.rxTaken ∧ (closeDemandWindow s).mp.tx = s.mp.tx ∧
    (closeDemandWindow s).mp.txBefore = s.mp.txBefore := by
  refine ⟨?_, ?_, ?_, ?_, ?_, ?_, ?_, ?_⟩ <;>
    ((simp only [closeDemandWindow]; (repeat' split) <;> simp))

@[simp] theorem closeDemandWindow_frame_2 (s : State) :
    (closeDemandWindow s).mp.loopback = s.mp.loopback ∧ (closeDemandWindow s).ps.active = s.ps.active ∧
    (closeDemandWindow s).ps.fallback = s.ps.fallback ∧ (closeDemandWindow s).ps.previous = s.ps.previous ∧
    (closeDemandWindow s).ps.idleDue = s.ps.idleDue ∧ (closeDemandWindow s).mc.restart = s.mc.restart ∧
    (closeDemandWindow s).mc.inbox = s.mc.inbox ∧ (closeDemandWindow s).mc.flagCount = s.mc.flagCount := by
  refine ⟨?_, ?_, ?_, ?_, ?_, ?_, ?_, ?_⟩ <;>
    ((simp only [closeDemandWindow]; (repeat' split) <;> simp))

@[simp] theorem closeDemandWindow_frame_3 (s : State) :
    (closeDemandWindow s).lc.role = s.lc.role ∧ (closeDemandWindow s).lc.identity = s.lc.identity ∧
    (closeDemandWindow s).lc.stop = s.lc.stop ∧ (closeDemandWindow s).lc.history = s.lc.history ∧
    (closeDemandWindow s).lc.hostMax = s.lc.hostMax ∧ (closeDemandWindow s).tn.free = s.tn.free ∧
    (closeDemandWindow s).st.errored = s.st.errored ∧ (closeDemandWindow s).st.bits = s.st.bits := by
  refine ⟨?_, ?_, ?_, ?_, ?_, ?_, ?_, ?_⟩ <;>
    ((simp only [closeDemandWindow]; (repeat' split) <;> simp))

@[simp] theorem closeDemandWindow_frame_4 (s : State) :
    (closeDemandWindow s).st.kind = s.st.kind ∧ (closeDemandWindow s).st.frames = s.st.frames ∧
    (closeDemandWindow s).st.test = s.st.test ∧ (closeDemandWindow s).cb.snapshot = s.cb.snapshot ∧
    (closeDemandWindow s).cb.valid = s.cb.valid ∧ (closeDemandWindow s).cb.capture = s.cb.capture ∧
    (closeDemandWindow s).cb.pending = s.cb.pending ∧ (closeDemandWindow s).cb.captureDue = s.cb.captureDue := by
  refine ⟨?_, ?_, ?_, ?_, ?_, ?_, ?_, ?_⟩ <;>
    ((simp only [closeDemandWindow]; (repeat' split) <;> simp))

@[simp] theorem closeDemandWindow_frame_5 (s : State) :
    (closeDemandWindow s).cb.live.tenants = s.cb.live.tenants ∧
    (closeDemandWindow s).cb.live.timing = s.cb.live.timing ∧ (closeDemandWindow s).cb.live.test = s.cb.live.test ∧
    (closeDemandWindow s).cp.rate = s.cp.rate ∧ (closeDemandWindow s).cp.receiver = s.cp.receiver ∧
    (closeDemandWindow s).cp.buffer = s.cp.buffer ∧ (closeDemandWindow s).cp.service = s.cp.service ∧
    (closeDemandWindow s).cp.attention = s.cp.attention := by
  refine ⟨?_, ?_, ?_, ?_, ?_, ?_, ?_, ?_⟩ <;>
    ((simp only [closeDemandWindow]; (repeat' split) <;> simp))

@[simp] theorem closeDemandWindow_frame_6 (s : State) :
    (closeDemandWindow s).cp.resetDue = s.cp.resetDue := by
  (simp only [closeDemandWindow]; (repeat' split) <;> simp)

/-! `drainFlush` -/

@[simp] theorem drainFlush_frame (t : Tenant) (s : State) :
    (drainFlush t s).sf = s.sf ∧ (drainFlush t s).tm = s.tm ∧ (drainFlush t s).pending = s.pending ∧
    (drainFlush t s).mp.frame = s.mp.frame ∧ (drainFlush t s).mp.composed = s.mp.composed ∧
    (drainFlush t s).mp.rxTaken = s.mp.rxTaken ∧ (drainFlush t s).mp.tx = s.mp.tx ∧
    (drainFlush t s).mp.txBefore = s.mp.txBefore := by
  refine ⟨?_, ?_, ?_, ?_, ?_, ?_, ?_, ?_⟩ <;>
    simp [drainFlush]

@[simp] theorem drainFlush_frame_2 (t : Tenant) (s : State) :
    (drainFlush t s).mp.loopback = s.mp.loopback ∧ (drainFlush t s).ps.active = s.ps.active ∧
    (drainFlush t s).ps.fallback = s.ps.fallback ∧ (drainFlush t s).ps.previous = s.ps.previous ∧
    (drainFlush t s).ps.idleDue = s.ps.idleDue ∧ (drainFlush t s).mc.restart = s.mc.restart ∧
    (drainFlush t s).mc.inbox = s.mc.inbox ∧ (drainFlush t s).mc.flagCount = s.mc.flagCount := by
  refine ⟨?_, ?_, ?_, ?_, ?_, ?_, ?_, ?_⟩ <;>
    simp [drainFlush]

@[simp] theorem drainFlush_frame_3 (t : Tenant) (s : State) :
    (drainFlush t s).lc.role = s.lc.role ∧ (drainFlush t s).lc.identity = s.lc.identity ∧
    (drainFlush t s).lc.stop = s.lc.stop ∧ (drainFlush t s).lc.history = s.lc.history ∧
    (drainFlush t s).lc.hostMax = s.lc.hostMax ∧ (drainFlush t s).ca.fixed = s.ca.fixed ∧
    (drainFlush t s).ca.fixedCounts = s.ca.fixedCounts ∧ (drainFlush t s).st.errored = s.st.errored := by
  refine ⟨?_, ?_, ?_, ?_, ?_, ?_, ?_, ?_⟩ <;>
    simp [drainFlush]

@[simp] theorem drainFlush_frame_4 (t : Tenant) (s : State) :
    (drainFlush t s).st.bits = s.st.bits ∧ (drainFlush t s).st.kind = s.st.kind ∧
    (drainFlush t s).st.frames = s.st.frames ∧ (drainFlush t s).st.test = s.st.test ∧
    (drainFlush t s).cb.snapshot = s.cb.snapshot ∧ (drainFlush t s).cb.valid = s.cb.valid ∧
    (drainFlush t s).cb.capture = s.cb.capture ∧ (drainFlush t s).cb.pending = s.cb.pending := by
  refine ⟨?_, ?_, ?_, ?_, ?_, ?_, ?_, ?_⟩ <;>
    simp [drainFlush]

@[simp] theorem drainFlush_frame_5 (t : Tenant) (s : State) :
    (drainFlush t s).cb.captureDue = s.cb.captureDue ∧ (drainFlush t s).cb.live.timing = s.cb.live.timing ∧
    (drainFlush t s).cb.live.test = s.cb.live.test ∧ (drainFlush t s).cp.rate = s.cp.rate ∧
    (drainFlush t s).cp.receiver = s.cp.receiver ∧ (drainFlush t s).cp.buffer = s.cp.buffer ∧
    (drainFlush t s).cp.service = s.cp.service ∧ (drainFlush t s).cp.attention = s.cp.attention := by
  refine ⟨?_, ?_, ?_, ?_, ?_, ?_, ?_, ?_⟩ <;>
    simp [drainFlush]

@[simp] theorem drainFlush_frame_6 (t : Tenant) (s : State) :
    (drainFlush t s).cp.resetDue = s.cp.resetDue := by
  simp [drainFlush]

/-! `offerRequest` -/

@[simp] theorem offerRequest_frame (s : State) :
    (offerRequest s).mp = s.mp ∧ (offerRequest s).sf = s.sf ∧ (offerRequest s).ps = s.ps ∧
    (offerRequest s).lc = s.lc ∧ (offerRequest s).tn = s.tn ∧ (offerRequest s).ca = s.ca ∧
    (offerRequest s).st = s.st ∧ (offerRequest s).cp = s.cp := by
  refine ⟨?_, ?_, ?_, ?_, ?_, ?_, ?_, ?_⟩ <;>
    simp [offerRequest]

@[simp] theorem offerRequest_frame_2 (s : State) :
    (offerRequest s).pending = s.pending ∧ (offerRequest s).mc.restart = s.mc.restart ∧
    (offerRequest s).mc.inbox = s.mc.inbox ∧ (offerRequest s).mc.flagCount = s.mc.flagCount ∧
    (offerRequest s).tm.time = s.tm.time ∧ (offerRequest s).tm.state = s.tm.state ∧
    (offerRequest s).tm.expired = s.tm.expired ∧ (offerRequest s).tm.config = s.tm.config := by
  refine ⟨?_, ?_, ?_, ?_, ?_, ?_, ?_, ?_⟩ <;>
    simp [offerRequest]

@[simp] theorem offerRequest_frame_3 (s : State) :
    (offerRequest s).tm.steer = s.tm.steer ∧ (offerRequest s).tm.pps = s.tm.pps ∧
    (offerRequest s).tm.current = s.tm.current ∧ (offerRequest s).tm.before = s.tm.before ∧
    (offerRequest s).tm.window = s.tm.window ∧ (offerRequest s).tm.integrator = s.tm.integrator ∧
    (offerRequest s).cb.snapshot = s.cb.snapshot ∧ (offerRequest s).cb.valid = s.cb.valid := by
  refine ⟨?_, ?_, ?_, ?_, ?_, ?_, ?_, ?_⟩ <;>
    simp [offerRequest]

@[simp] theorem offerRequest_frame_4 (s : State) :
    (offerRequest s).cb.capture = s.cb.capture ∧ (offerRequest s).cb.pending = s.cb.pending ∧
    (offerRequest s).cb.captureDue = s.cb.captureDue ∧ (offerRequest s).cb.live.tenants = s.cb.live.tenants ∧
    (offerRequest s).cb.live.timing = s.cb.live.timing ∧ (offerRequest s).cb.live.test = s.cb.live.test := by
  refine ⟨?_, ?_, ?_, ?_, ?_, ?_⟩ <;>
    simp [offerRequest]

/-! `loseReference` -/

@[simp] theorem loseReference_frame (s : State) :
    (loseReference s).sf = s.sf ∧ (loseReference s).pending = s.pending ∧ (loseReference s).mp.frame = s.mp.frame ∧
    (loseReference s).mp.composed = s.mp.composed ∧ (loseReference s).mp.rxTaken = s.mp.rxTaken ∧
    (loseReference s).mp.tx = s.mp.tx ∧ (loseReference s).mp.txBefore = s.mp.txBefore ∧
    (loseReference s).mp.loopback = s.mp.loopback := by
  refine ⟨?_, ?_, ?_, ?_, ?_, ?_, ?_, ?_⟩ <;>
    simp [loseReference]

@[simp] theorem loseReference_frame_2 (s : State) :
    (loseReference s).ps.active = s.ps.active ∧ (loseReference s).ps.fallback = s.ps.fallback ∧
    (loseReference s).ps.previous = s.ps.previous ∧ (loseReference s).ps.idleDue = s.ps.idleDue ∧
    (loseReference s).mc.restart = s.mc.restart ∧ (loseReference s).mc.inbox = s.mc.inbox ∧
    (loseReference s).mc.flagCount = s.mc.flagCount ∧ (loseReference s).lc.role = s.lc.role := by
  refine ⟨?_, ?_, ?_, ?_, ?_, ?_, ?_, ?_⟩ <;>
    simp [loseReference]

@[simp] theorem loseReference_frame_3 (s : State) :
    (loseReference s).lc.identity = s.lc.identity ∧ (loseReference s).lc.stop = s.lc.stop ∧
    (loseReference s).lc.history = s.lc.history ∧ (loseReference s).lc.hostMax = s.lc.hostMax ∧
    (loseReference s).tn.free = s.tn.free ∧ (loseReference s).ca.fixed = s.ca.fixed ∧
    (loseReference s).ca.fixedCounts = s.ca.fixedCounts ∧ (loseReference s).tm.time = s.tm.time := by
  refine ⟨?_, ?_, ?_, ?_, ?_, ?_, ?_, ?_⟩ <;>
    simp [loseReference]

@[simp] theorem loseReference_frame_4 (s : State) :
    (loseReference s).tm.expired = s.tm.expired ∧ (loseReference s).tm.config = s.tm.config ∧
    (loseReference s).tm.steer = s.tm.steer ∧ (loseReference s).tm.current = s.tm.current ∧
    (loseReference s).tm.before = s.tm.before ∧ (loseReference s).tm.window = s.tm.window ∧
    (loseReference s).tm.integrator = s.tm.integrator ∧ (loseReference s).tm.sequence = s.tm.sequence := by
  refine ⟨?_, ?_, ?_, ?_, ?_, ?_, ?_, ?_⟩ <;>
    simp [loseReference]

@[simp] theorem loseReference_frame_5 (s : State) :
    (loseReference s).st.errored = s.st.errored ∧ (loseReference s).st.bits = s.st.bits ∧
    (loseReference s).st.kind = s.st.kind ∧ (loseReference s).st.frames = s.st.frames ∧
    (loseReference s).st.test = s.st.test ∧ (loseReference s).cb.snapshot = s.cb.snapshot ∧
    (loseReference s).cb.valid = s.cb.valid ∧ (loseReference s).cb.capture = s.cb.capture := by
  refine ⟨?_, ?_, ?_, ?_, ?_, ?_, ?_, ?_⟩ <;>
    simp [loseReference]

@[simp] theorem loseReference_frame_6 (s : State) :
    (loseReference s).cb.pending = s.cb.pending ∧ (loseReference s).cb.captureDue = s.cb.captureDue ∧
    (loseReference s).cb.live.tenants = s.cb.live.tenants ∧ (loseReference s).cb.live.test = s.cb.live.test ∧
    (loseReference s).cp.rate = s.cp.rate ∧ (loseReference s).cp.receiver = s.cp.receiver ∧
    (loseReference s).cp.buffer = s.cp.buffer ∧ (loseReference s).cp.service = s.cp.service := by
  refine ⟨?_, ?_, ?_, ?_, ?_, ?_, ?_, ?_⟩ <;>
    simp [loseReference]

@[simp] theorem loseReference_frame_7 (s : State) :
    (loseReference s).cp.attention = s.cp.attention ∧ (loseReference s).cp.resetDue = s.cp.resetDue := by
  refine ⟨?_, ?_⟩ <;>
    simp [loseReference]

/-! `requestStage` -/

@[simp] theorem requestStage_frame (p : Nat) (s : State) :
    (requestStage p s).mp = s.mp ∧ (requestStage p s).sf = s.sf ∧ (requestStage p s).ps = s.ps ∧
    (requestStage p s).mc = s.mc ∧ (requestStage p s).lc = s.lc ∧ (requestStage p s).tn = s.tn ∧
    (requestStage p s).ca = s.ca ∧ (requestStage p s).tm = s.tm := by
  refine ⟨?_, ?_, ?_, ?_, ?_, ?_, ?_, ?_⟩ <;>
    simp [requestStage]

@[simp] theorem requestStage_frame_2 (p : Nat) (s : State) :
    (requestStage p s).cb = s.cb ∧ (requestStage p s).cp = s.cp ∧ (requestStage p s).pending = s.pending ∧
    (requestStage p s).st.errored = s.st.errored ∧ (requestStage p s).st.bits = s.st.bits ∧
    (requestStage p s).st.commissioned = s.st.commissioned ∧ (requestStage p s).st.kind = s.st.kind ∧
    (requestStage p s).st.frames = s.st.frames := by
  refine ⟨?_, ?_, ?_, ?_, ?_, ?_, ?_, ?_⟩ <;>
    simp [requestStage]

@[simp] theorem requestStage_frame_3 (p : Nat) (s : State) :
    (requestStage p s).st.test = s.st.test := by
  simp [requestStage]

/-! `completeStage` -/

@[simp] theorem completeStage_frame (s : State) :
    (completeStage s).sf = s.sf ∧ (completeStage s).ps = s.ps ∧ (completeStage s).tn = s.tn ∧
    (completeStage s).ca = s.ca ∧ (completeStage s).tm = s.tm ∧ (completeStage s).pending = s.pending ∧
    (completeStage s).mp.frame = s.mp.frame ∧ (completeStage s).mp.composed = s.mp.composed := by
  refine ⟨?_, ?_, ?_, ?_, ?_, ?_, ?_, ?_⟩
  · simp [completeStage, apply_ite State.sf]
  · simp [completeStage, apply_ite State.ps]
  · simp [completeStage, apply_ite State.tn]
  · simp [completeStage, apply_ite State.ca]
  · simp [completeStage, apply_ite State.tm]
  · simp [completeStage, apply_ite State.pending]
  · simp [completeStage, apply_ite State.mp, apply_ite MP.frame]
  · simp [completeStage, apply_ite State.mp, apply_ite MP.composed]

@[simp] theorem completeStage_frame_2 (s : State) :
    (completeStage s).mp.rxTaken = s.mp.rxTaken ∧ (completeStage s).mp.tx = s.mp.tx ∧
    (completeStage s).mp.txBefore = s.mp.txBefore ∧ (completeStage s).mp.loopback = s.mp.loopback ∧
    (completeStage s).mc.restart = s.mc.restart ∧ (completeStage s).mc.inbox = s.mc.inbox ∧
    (completeStage s).mc.flagCount = s.mc.flagCount ∧ (completeStage s).lc.role = s.lc.role := by
  refine ⟨?_, ?_, ?_, ?_, ?_, ?_, ?_, ?_⟩
  · simp [completeStage, apply_ite State.mp, apply_ite MP.rxTaken]
  · simp [completeStage, apply_ite State.mp, apply_ite MP.tx]
  · simp [completeStage, apply_ite State.mp, apply_ite MP.txBefore]
  · simp [completeStage, apply_ite State.mp, apply_ite MP.loopback]
  · simp [completeStage, apply_ite State.mc, apply_ite MC.restart]
  · simp [completeStage, apply_ite State.mc, apply_ite MC.inbox]
  · simp [completeStage, apply_ite State.mc, apply_ite MC.flagCount]
  · simp [completeStage, apply_ite State.lc, apply_ite LC.role]

@[simp] theorem completeStage_frame_3 (s : State) :
    (completeStage s).lc.identity = s.lc.identity ∧ (completeStage s).lc.link = s.lc.link ∧
    (completeStage s).lc.stop = s.lc.stop ∧ (completeStage s).lc.history = s.lc.history ∧
    (completeStage s).lc.hostMax = s.lc.hostMax ∧ (completeStage s).st.errored = s.st.errored ∧
    (completeStage s).st.bits = s.st.bits ∧ (completeStage s).st.kind = s.st.kind := by
  refine ⟨?_, ?_, ?_, ?_, ?_, ?_, ?_, ?_⟩
  · simp [completeStage, apply_ite State.lc, apply_ite LC.identity]
  · simp [completeStage, apply_ite State.lc, apply_ite LC.link]
  · simp [completeStage, apply_ite State.lc, apply_ite LC.stop]
  · simp [completeStage, apply_ite State.lc, apply_ite LC.history]
  · simp [completeStage, apply_ite State.lc, apply_ite LC.hostMax]
  · simp [completeStage, apply_ite State.st, apply_ite ST.errored]
  · simp [completeStage, apply_ite State.st, apply_ite ST.bits]
  · simp [completeStage, apply_ite State.st, apply_ite ST.kind]

@[simp] theorem completeStage_frame_4 (s : State) :
    (completeStage s).st.frames = s.st.frames ∧ (completeStage s).st.test = s.st.test ∧
    (completeStage s).cb.snapshot = s.cb.snapshot ∧ (completeStage s).cb.valid = s.cb.valid ∧
    (completeStage s).cb.capture = s.cb.capture ∧ (completeStage s).cb.pending = s.cb.pending ∧
    (completeStage s).cb.captureDue = s.cb.captureDue ∧ (completeStage s).cb.live.tenants = s.cb.live.tenants := by
  refine ⟨?_, ?_, ?_, ?_, ?_, ?_, ?_, ?_⟩
  · simp [completeStage, apply_ite State.st, apply_ite ST.frames]
  · simp [completeStage, apply_ite State.st, apply_ite ST.test]
  · simp [completeStage, apply_ite State.cb, apply_ite CB.snapshot]
  · simp [completeStage, apply_ite State.cb, apply_ite CB.valid]
  · simp [completeStage, apply_ite State.cb, apply_ite CB.capture]
  · simp [completeStage, apply_ite State.cb, apply_ite CB.pending]
  · simp [completeStage, apply_ite State.cb, apply_ite CB.captureDue]
  · simp [completeStage, apply_ite State.cb, apply_ite CB.live, apply_ite Bank.tenants]

@[simp] theorem completeStage_frame_5 (s : State) :
    (completeStage s).cb.live.timing = s.cb.live.timing ∧ (completeStage s).cb.live.test = s.cb.live.test ∧
    (completeStage s).cp.rate = s.cp.rate ∧ (completeStage s).cp.receiver = s.cp.receiver ∧
    (completeStage s).cp.buffer = s.cp.buffer ∧ (completeStage s).cp.service = s.cp.service ∧
    (completeStage s).cp.attention = s.cp.attention ∧ (completeStage s).cp.resetDue = s.cp.resetDue := by
  refine ⟨?_, ?_, ?_, ?_, ?_, ?_, ?_, ?_⟩
  · simp [completeStage, apply_ite State.cb, apply_ite CB.live, apply_ite Bank.timing]
  · simp [completeStage, apply_ite State.cb, apply_ite CB.live, apply_ite Bank.test]
  · simp [completeStage, apply_ite State.cp, apply_ite CP.rate]
  · simp [completeStage, apply_ite State.cp, apply_ite CP.receiver]
  · simp [completeStage, apply_ite State.cp, apply_ite CP.buffer]
  · simp [completeStage, apply_ite State.cp, apply_ite CP.service]
  · simp [completeStage, apply_ite State.cp, apply_ite CP.attention]
  · simp [completeStage, apply_ite State.cp, apply_ite CP.resetDue]

/-! `capture` -/

@[simp] theorem capture_frame (s : State) :
    (capture s).mp = s.mp ∧ (capture s).sf = s.sf ∧ (capture s).ps = s.ps ∧ (capture s).mc = s.mc ∧
    (capture s).lc = s.lc ∧ (capture s).tn = s.tn ∧ (capture s).ca = s.ca ∧ (capture s).tm = s.tm := by
  refine ⟨?_, ?_, ?_, ?_, ?_, ?_, ?_, ?_⟩ <;>
    ((simp only [capture]; (repeat' split) <;> simp))

@[simp] theorem capture_frame_2 (s : State) :
    (capture s).st = s.st ∧ (capture s).pending = s.pending ∧ (capture s).cp.rate = s.cp.rate ∧
    (capture s).cp.receiver = s.cp.receiver ∧ (capture s).cp.buffer = s.cp.buffer ∧
    (capture s).cp.reports = s.cp.reports ∧ (capture s).cp.attention = s.cp.attention ∧
    (capture s).cp.resetDue = s.cp.resetDue := by
  refine ⟨?_, ?_, ?_, ?_, ?_, ?_, ?_, ?_⟩ <;>
    ((simp only [capture]; (repeat' split) <;> simp))

/-! `receiveFrame` -/

@[simp] theorem receiveFrame_frame (m : ModemFrame) (s : State) :
    (receiveFrame m s).pending = s.pending ∧ (receiveFrame m s).mp.frame = s.mp.frame ∧
    (receiveFrame m s).mp.composed = s.mp.composed ∧ (receiveFrame m s).mp.tx = s.mp.tx ∧
    (receiveFrame m s).mp.txBefore = s.mp.txBefore ∧ (receiveFrame m s).mc.restart = s.mc.restart ∧
    (receiveFrame m s).mc.flagCount = s.mc.flagCount ∧ (receiveFrame m s).lc.role = s.lc.role := by
  refine ⟨?_, ?_, ?_, ?_, ?_, ?_, ?_, ?_⟩ <;>
    ((simp only [receiveFrame]; (repeat' split) <;> simp))

@[simp] theorem receiveFrame_frame_2 (m : ModemFrame) (s : State) :
    (receiveFrame m s).lc.identity = s.lc.identity ∧ (receiveFrame m s).lc.stop = s.lc.stop ∧
    (receiveFrame m s).lc.hostMax = s.lc.hostMax ∧ (receiveFrame m s).tn.free = s.tn.free ∧
    (receiveFrame m s).ca.fixed = s.ca.fixed ∧ (receiveFrame m s).ca.fixedCounts = s.ca.fixedCounts ∧
    (receiveFrame m s).tm.time = s.tm.time ∧ (receiveFrame m s).tm.config = s.tm.config := by
  refine ⟨?_, ?_, ?_, ?_, ?_, ?_, ?_, ?_⟩ <;>
    ((simp only [receiveFrame]; (repeat' split) <;> simp))

@[simp] theorem receiveFrame_frame_3 (m : ModemFrame) (s : State) :
    (receiveFrame m s).tm.current = s.tm.current ∧ (receiveFrame m s).tm.before = s.tm.before ∧
    (receiveFrame m s).tm.integrator = s.tm.integrator ∧ (receiveFrame m s).tm.sequence = s.tm.sequence ∧
    (receiveFrame m s).cb.snapshot = s.cb.snapshot ∧ (receiveFrame m s).cb.valid = s.cb.valid ∧
    (receiveFrame m s).cb.capture = s.cb.capture ∧ (receiveFrame m s).cb.pending = s.cb.pending := by
  refine ⟨?_, ?_, ?_, ?_, ?_, ?_, ?_, ?_⟩ <;>
    ((simp only [receiveFrame]; (repeat' split) <;> simp))

@[simp] theorem receiveFrame_frame_4 (m : ModemFrame) (s : State) :
    (receiveFrame m s).cb.captureDue = s.cb.captureDue ∧ (receiveFrame m s).cb.live.timing = s.cb.live.timing ∧
    (receiveFrame m s).cb.live.test = s.cb.live.test ∧ (receiveFrame m s).cp.rate = s.cp.rate ∧
    (receiveFrame m s).cp.receiver = s.cp.receiver ∧ (receiveFrame m s).cp.buffer = s.cp.buffer ∧
    (receiveFrame m s).cp.service = s.cp.service ∧ (receiveFrame m s).cp.attention = s.cp.attention := by
  refine ⟨?_, ?_, ?_, ?_, ?_, ?_, ?_, ?_⟩ <;>
    ((simp only [receiveFrame]; (repeat' split) <;> simp))

@[simp] theorem receiveFrame_frame_5 (m : ModemFrame) (s : State) :
    (receiveFrame m s).cp.resetDue = s.cp.resetDue := by
  (simp only [receiveFrame]; (repeat' split) <;> simp)

/-! `composeFrame` -/

@[simp] theorem composeFrame_frame (n : Nat) (s : State) :
    (composeFrame n s).pending = s.pending ∧ (composeFrame n s).mp.frame = s.mp.frame ∧
    (composeFrame n s).mp.rxTaken = s.mp.rxTaken ∧ (composeFrame n s).mc.restart = s.mc.restart ∧
    (composeFrame n s).mc.inbox = s.mc.inbox ∧ (composeFrame n s).mc.flagCount = s.mc.flagCount ∧
    (composeFrame n s).lc.role = s.lc.role ∧ (composeFrame n s).lc.identity = s.lc.identity := by
  refine ⟨?_, ?_, ?_, ?_, ?_, ?_, ?_, ?_⟩
  · simp [composeFrame, apply_ite State.pending]
  · simp [composeFrame, apply_ite State.mp, apply_ite MP.frame]
  · simp [composeFrame, apply_ite State.mp, apply_ite MP.rxTaken]
  · simp [composeFrame, apply_ite State.mc, apply_ite MC.restart]
  · simp [composeFrame, apply_ite State.mc, apply_ite MC.inbox]
  · simp [composeFrame, apply_ite State.mc, apply_ite MC.flagCount]
  · simp [composeFrame, apply_ite State.lc, apply_ite LC.role]
  · simp [composeFrame, apply_ite State.lc, apply_ite LC.identity]

@[simp] theorem composeFrame_frame_2 (n : Nat) (s : State) :
    (composeFrame n s).lc.history = s.lc.history ∧ (composeFrame n s).lc.hostMax = s.lc.hostMax ∧
    (composeFrame n s).ca.fixed = s.ca.fixed ∧ (composeFrame n s).ca.fixedCounts = s.ca.fixedCounts ∧
    (composeFrame n s).tm.config = s.tm.config ∧ (composeFrame n s).tm.integrator = s.tm.integrator ∧
    (composeFrame n s).tm.sequence = s.tm.sequence ∧ (composeFrame n s).cb.snapshot = s.cb.snapshot := by
  refine ⟨?_, ?_, ?_, ?_, ?_, ?_, ?_, ?_⟩
  · simp [composeFrame, apply_ite State.lc, apply_ite LC.history]
  · simp [composeFrame, apply_ite State.lc, apply_ite LC.hostMax]
  · simp [composeFrame, apply_ite State.ca, apply_ite CA.fixed]
  · simp [composeFrame, apply_ite State.ca, apply_ite CA.fixedCounts]
  · simp [composeFrame, apply_ite State.tm, apply_ite TM.config]
  · simp [composeFrame, apply_ite State.tm, apply_ite TM.integrator]
  · simp [composeFrame, apply_ite State.tm, apply_ite TM.sequence]
  · simp [composeFrame, apply_ite State.cb, apply_ite CB.snapshot]

@[simp] theorem composeFrame_frame_3 (n : Nat) (s : State) :
    (composeFrame n s).cb.valid = s.cb.valid ∧ (composeFrame n s).cb.capture = s.cb.capture ∧
    (composeFrame n s).cb.pending = s.cb.pending ∧ (composeFrame n s).cb.captureDue = s.cb.captureDue ∧
    (composeFrame n s).cb.live.test = s.cb.live.test ∧ (composeFrame n s).cp.rate = s.cp.rate ∧
    (composeFrame n s).cp.receiver = s.cp.receiver ∧ (composeFrame n s).cp.buffer = s.cp.buffer := by
  refine ⟨?_, ?_, ?_, ?_, ?_, ?_, ?_, ?_⟩
  · simp [composeFrame, apply_ite State.cb, apply_ite CB.valid]
  · simp [composeFrame, apply_ite State.cb, apply_ite CB.capture]
  · simp [composeFrame, apply_ite State.cb, apply_ite CB.pending]
  · simp [composeFrame, apply_ite State.cb, apply_ite CB.captureDue]
  · simp [composeFrame, apply_ite State.cb, apply_ite CB.live, apply_ite Bank.test]
  · simp [composeFrame, apply_ite State.cp, apply_ite CP.rate]
  · simp [composeFrame, apply_ite State.cp, apply_ite CP.receiver]
  · simp [composeFrame, apply_ite State.cp, apply_ite CP.buffer]

@[simp] theorem composeFrame_frame_4 (n : Nat) (s : State) :
    (composeFrame n s).cp.service = s.cp.service ∧ (composeFrame n s).cp.attention = s.cp.attention ∧
    (composeFrame n s).cp.resetDue = s.cp.resetDue := by
  refine ⟨?_, ?_, ?_⟩
  · simp [composeFrame, apply_ite State.cp, apply_ite CP.service]
  · simp [composeFrame, apply_ite State.cp, apply_ite CP.attention]
  · simp [composeFrame, apply_ite State.cp, apply_ite CP.resetDue]

end Sys2Proof.Machine
end

