-- ==== Sys2Proof/Laws/Commands.lean ====
section
/-! SUPPORT. What a step of a boundary, a message and a request can do, said once each, and the statements' vocabulary
taken apart. -/

namespace Sys2Proof.Machine

/-! ### Vocabulary -/

/-- A property of every part, part by part. -/
theorem forall_part (P : Part → Prop) :
    (∀ p, P p) ↔ P .mp ∧ P .sf ∧ P .ps ∧ P .mc ∧ P .lc ∧ P .tn ∧ P .ca ∧ P .tm ∧ P .st ∧ P .cb ∧ P .cp ∧ P .queue :=
  ⟨fun h => ⟨h _, h _, h _, h _, h _, h _, h _, h _, h _, h _, h _, h _⟩,
    fun ⟨h1, h2, h3, h4, h5, h6, h7, h8, h9, h10, h11, h12⟩ p => by cases p <;> assumption⟩

/-- Only the live counters differ: the other fields of the Counter Bank agree. -/
theorem onlyCounts_iff (s t : State) :
    onlyCounts s t ↔ t.cb.snapshot = s.cb.snapshot ∧ t.cb.valid = s.cb.valid ∧ t.cb.capture = s.cb.capture ∧
      t.cb.pending = s.cb.pending ∧ t.cb.captureDue = s.cb.captureDue ∧ t.cb.beforeArea = s.cb.beforeArea := by
  rcases t with ⟨⟩; rename_i cb _ _; cases cb
  simp [onlyCounts]

/-- Only the report queue and the lost flag differ: the other fields of the Control Port agree. -/
theorem onlyReports_iff (s t : State) :
    onlyReports s t ↔ t.cp.rate = s.cp.rate ∧ t.cp.receiver = s.cp.receiver ∧ t.cp.buffer = s.cp.buffer ∧
      t.cp.service = s.cp.service ∧ t.cp.attention = s.cp.attention ∧ t.cp.resetDue = s.cp.resetDue := by
  rcases t with ⟨⟩; rename_i cp _; cases cp
  simp [onlyReports]

/-! ### A step of a boundary -/

/-- A step whose condition holds at the boundary under way acts there. -/
theorem atBoundary_now {cond : State → Bool} {act : State → State} {s : State} (h : cond s = true) :
    atBoundary cond act s = act s := by simp [atBoundary, h]

/-- A step acts at the boundary under way, at the one it opens, or not at all. -/
theorem atBoundary_cases (cond : State → Bool) (act : State → State) (s : State) :
    (cond s = true ∧ atBoundary cond act s = act s) ∨
      (s.mp.composed = true ∧ cond (openBoundary s) = true ∧ atBoundary cond act s = act (openBoundary s)) ∨
      atBoundary cond act s = s := by
  unfold atBoundary
  split
  · exact .inl ⟨‹_›, rfl⟩
  · split
    · rename_i h; simp only [Bool.and_eq_true] at h; exact .inr (.inl ⟨h.1, h.2, rfl⟩)
    · exact .inr (.inr rfl)

/-! ### A message -/

/-- Dropping misplaced time messages changes the waiting messages and the counters of the message channel alone. -/
theorem skipMisplaced_only (ms : List RxMessage) (s : State) :
    skipMisplaced ms s =
      { s with
        mc := { s.mc with inbox := (skipMisplaced ms s).mc.inbox },
        cb := { s.cb with live := { s.cb.live with channel := (skipMisplaced ms s).cb.live.channel } } } := by
  induction ms generalizing s with
  | nil => rfl
  | cons m ms ih =>
    unfold skipMisplaced
    split
    · rw [ih]; rfl
    · rfl

/-- The state with these messages waiting for dispatch. -/
def withInbox (rest : List RxMessage) (s : State) : State := s.modMC fun mc => { mc with inbox := rest }

/-- The state with these messages waiting and these counts of the message channel. -/
def settleInbox (left : List RxMessage) (counted : List Nat) (s : State) : State :=
  { s with
    mc := { s.mc with inbox := left }, cb := { s.cb with live := { s.cb.live with channel := counted } } }

@[simp] theorem withInbox_frame (rest : List RxMessage) (s : State) :
    (withInbox rest s).mp = s.mp ∧ (withInbox rest s).sf = s.sf ∧ (withInbox rest s).ps = s.ps ∧
      (withInbox rest s).mc = { s.mc with inbox := rest } ∧ (withInbox rest s).lc = s.lc ∧
      (withInbox rest s).tn = s.tn ∧ (withInbox rest s).ca = s.ca ∧ (withInbox rest s).tm = s.tm ∧
      (withInbox rest s).st = s.st ∧ (withInbox rest s).cb = s.cb ∧ (withInbox rest s).cp = s.cp ∧
      (withInbox rest s).pending = s.pending :=
  ⟨rfl, rfl, rfl, rfl, rfl, rfl, rfl, rfl, rfl, rfl, rfl, rfl⟩

@[simp] theorem settleInbox_frame (left : List RxMessage) (counted : List Nat) (s : State) :
    (settleInbox left counted s).mp = s.mp ∧ (settleInbox left counted s).sf = s.sf ∧
      (settleInbox left counted s).ps = s.ps ∧ (settleInbox left counted s).mc = { s.mc with inbox := left } ∧
      (settleInbox left counted s).lc = s.lc ∧ (settleInbox left counted s).tn = s.tn ∧
      (settleInbox left counted s).ca = s.ca ∧ (settleInbox left counted s).tm = s.tm ∧
      (settleInbox left counted s).st = s.st ∧
      (settleInbox left counted s).cb = { s.cb with live := { s.cb.live with channel := counted } } ∧
      (settleInbox left counted s).cp = s.cp ∧ (settleInbox left counted s).pending = s.pending :=
  ⟨rfl, rfl, rfl, rfl, rfl, rfl, rfl, rfl, rfl, rfl, rfl, rfl⟩

/-- The state in which a message is acted on: it counts as received, and these wait behind it. -/
def takenUp (rest : List RxMessage) (s : State) : State := countChannel .messagesReceived (withInbox rest s)

@[simp] theorem takenUp_frame (rest : List RxMessage) (s : State) :
    (takenUp rest s).mp = s.mp ∧ (takenUp rest s).sf = s.sf ∧ (takenUp rest s).ps = s.ps ∧
      (takenUp rest s).mc = { s.mc with inbox := rest } ∧ (takenUp rest s).lc = s.lc ∧
      (takenUp rest s).tn = s.tn ∧ (takenUp rest s).ca = s.ca ∧ (takenUp rest s).tm = s.tm ∧
      (takenUp rest s).st = s.st ∧ (takenUp rest s).cb = (countChannel .messagesReceived s).cb ∧
      (takenUp rest s).cp = s.cp ∧ (takenUp rest s).pending = s.pending :=
  ⟨rfl, rfl, rfl, rfl, rfl, rfl, rfl, rfl, rfl, rfl, rfl, rfl⟩

/-- A state in which no message waits is its own state without waiting messages. -/
theorem takenUp_nil {s : State} (h : s.mc.inbox = []) : takenUp [] s = countChannel .messagesReceived s := by
  unfold takenUp withInbox
  rw [← h]; rfl

/-- A message is acted on with the others still waiting taken from the queue of those received, or changes nothing. -/
theorem dispatchMessage_cases (m : LinkMessage) (act : State → State) (s : State) :
    (s.mc.inbox = [] ∧ dispatchMessage m act s = act (countChannel .messagesReceived s)) ∨
      (∃ r rest, s.mc.inbox = r :: rest ∧ r.message = m ∧
        dispatchMessage m act s = skipMisplaced (act (takenUp rest s)).mc.inbox (act (takenUp rest s))) ∨
      dispatchMessage m act s = s := by
  unfold dispatchMessage
  split
  · exact .inl ⟨‹_›, rfl⟩
  · split
    · exact .inr (.inl ⟨_, _, ‹_›, ‹_›, rfl⟩)
    · exact .inr (.inr rfl)

/-- The message that comes next is acted on: on the state less that message, and the misplaced time messages behind it
are dropped. When no message waits, that is all. -/
theorem dispatchMessage_next {m : LinkMessage} {s : State} (act : State → State) (h : comesNext m s) :
    (s.mc.inbox = [] ∧ dispatchMessage m act s = act (countChannel .messagesReceived s)) ∨
      ∃ rest left counted, dispatchMessage m act s = settleInbox left counted (act (takenUp rest s)) := by
  rcases dispatchMessage_cases m act s with h1 | ⟨r, rest, -, -, h1⟩ | h1
  · exact .inl h1
  · exact .inr ⟨rest, _, _, h1.trans (skipMisplaced_only _ _)⟩
  · rcases h with h | h
    · exact .inl ⟨h, by simp only [dispatchMessage, h]⟩
    · cases hi : s.mc.inbox with
      | nil => rw [hi] at h; cases h
      | cons r rest =>
        rw [hi] at h
        simp only [List.head?_cons, Option.map_some, Option.some.injEq] at h
        have e : dispatchMessage m act s = skipMisplaced (act (takenUp rest s)).mc.inbox (act (takenUp rest s)) := by
          simp only [dispatchMessage, hi, h, if_true]; rfl
        exact .inr ⟨rest, _, _, e.trans (skipMisplaced_only _ _)⟩

/-- The message that comes next is acted on in the state less that message, where it counts as received; what follows
touches the waiting messages and the counts of the message channel alone. -/
theorem dispatchMessage_once {m : LinkMessage} {s : State} (act : State → State) (h : comesNext m s) :
    ∃ rest left counted, dispatchMessage m act s = settleInbox left counted (act (takenUp rest s)) := by
  rcases dispatchMessage_next act h with ⟨hi, e⟩ | ⟨rest, left, counted, e⟩
  · refine ⟨[], (act (takenUp [] s)).mc.inbox, (act (takenUp [] s)).cb.live.channel, ?_⟩
    rw [e, ← takenUp_nil hi]; rfl
  · exact ⟨rest, left, counted, e⟩

/-! ### A request -/

/-- A request that its owner does not take leaves the state as it is; one that it takes is counted, acted on and
answered. -/
theorem takeRequest_cases (kind : Byte) (body : List Byte) (owner : State → Answer) (s : State) :
    takeRequest kind body owner s = s ∨
      ∃ (r : Request) (s' : State),
        (s' = s ∨ s' = s.modCP fun cp => { cp with buffer := [⟨kind, 0, body⟩], service := .handed }) ∧
        takeRequest kind body owner s =
          setService (.replying (replyFrame r (owner (countControl .requestsServed s')).code
            (owner (countControl .requestsServed s')).content)) (owner (countControl .requestsServed s')).state := by
  unfold takeRequest handedRequest
  split
  · exact .inl rfl
  · rename_i r s' h
    refine .inr ⟨r, s', ?_, rfl⟩
    revert h
    split
    · split <;> intro h <;> simp_all
    · split
      · intro h; cases h
      · intro h; cases h; exact .inr rfl
    · intro h; cases h

/-- The request handed over is counted, acted on and answered. -/
theorem takeRequest_handed {kind : Byte} {body : List Byte} {tag : Byte} {s : State} (h : handsOver kind body tag s)
    (owner : State → Answer) :
    takeRequest kind body owner s =
      setService (.replying (replyFrame ⟨kind, tag, []⟩ (owner (countControl .requestsServed s)).code
        (owner (countControl .requestsServed s)).content)) (owner (countControl .requestsServed s)).state := by
  obtain ⟨h1, h2⟩ := h
  cases hb : s.cp.buffer with
  | nil => simp [hb] at h2
  | cons r rest =>
    simp only [hb, List.head?_cons, Option.some.injEq] at h2; subst h2
    simp [takeRequest, handedRequest, h1, hb, replyFrame]

/-- A request that finds the Control Port at rest is handed over with tag 0. -/
theorem handedRequest_idle (kind : Byte) (body : List Byte) {s : State} (h1 : s.cp.service = .idle)
    (h2 : s.cp.buffer = []) (h3 : s.cp.resetDue = false) :
    handedRequest kind body s =
      some (⟨kind, 0, body⟩, s.modCP fun cp => { cp with buffer := [⟨kind, 0, body⟩], service := .handed }) := by
  simp [handedRequest, h1, h2, h3]

/-- The request at the head of the buffer, once handed over, is the one taken. -/
theorem handedRequest_head {kind tag : Byte} {body : List Byte} {s : State} (h : handsOver kind body tag s) :
    handedRequest kind body s = some (⟨kind, tag, body⟩, s) := by
  obtain ⟨h1, h2⟩ := h
  cases hb : s.cp.buffer with
  | nil => simp [hb] at h2
  | cons r rest =>
    simp only [hb, List.head?_cons, Option.some.injEq] at h2; subst h2
    simp [handedRequest, h1, hb]

/-- A request that is not the one handed over is not taken while the buffer holds another. -/
theorem handedRequest_other {kind : Byte} {body : List Byte} {s : State} {r : Request} {rest : List Request}
    (h1 : s.cp.buffer = r :: rest) (h2 : s.cp.service ≠ .handed ∨ r.kind ≠ kind ∨ r.body ≠ body) :
    handedRequest kind body s = none := by
  unfold handedRequest
  split
  · rename_i hs hb
    rw [h1] at hb; cases hb
    rcases h2 with h2 | h2 | h2
    · exact absurd hs h2
    · simp [h2]
    · simp [h2]
  · rename_i hb; rw [h1] at hb; cases hb
  · rfl

@[simp] theorem replies_setService (kind tag : Byte) (code : ResultCode) (content : List Byte) (s : State) :
    replies kind tag code content (setService (.replying (replyFrame ⟨kind, tag, []⟩ code content)) s) := rfl

/-- An answer that leaves the owner's state as it was. -/
theorem onlyAnswered_setService (v : Service) (s : State) :
    onlyAnswered s (setService v (countControl .requestsServed s)) := by
  refine ⟨fun p hp => ?_, rfl, rfl⟩
  cases p <;> simp_all [Part.same]

end Sys2Proof.Machine
end

