-- ==== Sys2Proof/Laws/Records.lean ====
section
/-! SUPPORT. What the operations that evaluate close conditions, plans and allocations can do to a tenant's record: close a
DRAINING tenant whose queue is empty, and nothing else but its lines. -/

namespace Sys2Proof.Machine

/-- Every tenant's record is as before but for its lines, or the tenant was DRAINING with an empty queue and is
CLOSED. -/
def Settled (s t : State) : Prop :=
  t.tn.free = s.tn.free ∧ ∀ n : Tenant,
    (tenantRec t n).queue = (tenantRec s n).queue ∧ (tenantRec t n).config = (tenantRec s n).config ∧
      (tenantRec t n).syncOk = (tenantRec s n).syncOk ∧ (tenantRec t n).far = (tenantRec s n).far ∧
      (((tenantRec t n).state = (tenantRec s n).state ∧ (tenantRec t n).drain = (tenantRec s n).drain) ∨
        ((tenantRec s n).state = .draining ∧ (tenantRec s n).queue = [] ∧ (tenantRec t n).state = .closed))

theorem Settled.of_tn {s t : State} (h : t.tn = s.tn) : Settled s t := by
  refine ⟨by rw [h], fun n => ?_⟩
  simp [tenantRec, h]

theorem Settled.refl (s : State) : Settled s s := .of_tn rfl

theorem Settled.trans {s t u : State} (h1 : Settled s t) (h2 : Settled t u) : Settled s u := by
  refine ⟨h2.1.trans h1.1, fun n => ?_⟩
  obtain ⟨a1, a2, a3, a4, a5⟩ := h1.2 n
  obtain ⟨b1, b2, b3, b4, b5⟩ := h2.2 n
  refine ⟨b1.trans a1, b2.trans a2, b3.trans a3, b4.trans a4, ?_⟩
  rcases a5 with ⟨a5, a6⟩ | ⟨a5, a6, a7⟩
  · rcases b5 with ⟨b5, b6⟩ | ⟨b5, b6, b7⟩
    · exact .inl ⟨b5.trans a5, b6.trans a6⟩
    · exact .inr ⟨a5 ▸ b5, a1 ▸ b6, b7⟩
  · rcases b5 with ⟨b5, b6⟩ | ⟨b5, b6, b7⟩
    · exact .inr ⟨a5, a6, b5.trans a7⟩
    · exact .inr ⟨a5, a6, b7⟩

/-- A tenant that is ACTIVE or CLOSED stays as it is. -/
theorem Settled.state_of {s t : State} (h : Settled s t) {n : Tenant} (hn : (tenantRec s n).state ≠ .draining) :
    (tenantRec t n).state = (tenantRec s n).state := by
  rcases (h.2 n).2.2.2.2 with h | h
  · exact h.1
  · exact absurd h.1 hn

theorem refreshTenants_settled (s : State) : Settled s (refreshTenants s) := by
  refine ⟨by simp, fun n => ?_⟩
  simp [tenantRec]

theorem closeTenant_settled (t : Tenant) (s : State) : Settled s (closeTenant t s) := by
  unfold closeTenant
  split
  · rename_i h
    refine ⟨by simp, fun n => ?_⟩
    simp only [closeCondition, Bool.and_eq_true, beq_iff_eq, List.isEmpty_iff] at h
    by_cases hn : n = t
    · subst hn
      simp_all [tenantRec, modTenant]
    · simp [tenantRec, modTenant, PerTenant.get_set, hn]
  · exact .refl s

theorem closeEval_settled (s : State) : Settled s (closeEval s) :=
  ((((closeTenant_settled _ _).trans (closeTenant_settled _ _)).trans (closeTenant_settled _ _)).trans
    (closeTenant_settled _ _)).trans (refreshTenants_settled _)

theorem installPending_settled (p : Pending) (s : State) (h : s.lc.role = .site) : Settled s (installPending p s) := by
  unfold installPending
  dsimp only
  have e : ∀ s' : State, s'.lc.role = s.lc.role → (if s'.lc.role = .hub then partnerOpen p s' else s') = s' := by
    intro s' h'; simp [h', h]
  rw [e]
  · refine Settled.trans (.of_tn ?_) (closeEval_settled _)
    simp [apply_ite State.tn]
  · simp [apply_ite State.lc]

theorem offerPlan_settled (p : Pending) (s : State) (h : s.lc.role = .site) : Settled s (offerPlan p s).1 := by
  unfold offerPlan
  split
  · exact .refl s
  · exact installPending_settled p s h

theorem dropPending_settled (s : State) : Settled s (dropPending s) := by
  unfold dropPending
  split
  · exact Settled.trans (.of_tn (by simp)) (closeEval_settled _)
  · exact .refl s

theorem propose_settled (c : Candidate) (s : State) : Settled s (propose c s).1 := by
  rw [propose_eq]
  split
  · rename_i h
    have h1 := offerPlan_settled (proposalOf c s) s h.1
    split
    · exact Settled.trans h1 (.of_tn (by simp))
    · exact Settled.trans h1 (.of_tn (by simp))
  · exact .refl s

theorem allocateOnce_settled (cause : AllocCause) (target : Nat) (s : State) :
    Settled s (allocateOnce cause target s) := by
  rw [allocateOnce_eq]
  have h : Settled s
      (countLink .allocationsProposed
        ((if roomFails (allocInput s) (min target (ceiling s)) s.st.reqTest then roomAbort s else s).modCA
          fun ca => { ca with last := some (candidateFor s cause (min target (ceiling s)) s.st.reqTest),
                              waiting := false })) := .of_tn (by simp [apply_ite State.tn])
  generalize countLink .allocationsProposed _ = x at h ⊢
  split
  · split
    · exact h.trans (propose_settled _ _)
    · exact (h.trans (propose_settled _ _)).trans (.of_tn rfl)
  · exact .of_tn (by simp [apply_ite State.tn])

theorem allocate_settled (cause : AllocCause) (target : Nat) (s : State) : Settled s (allocate cause target s) := by
  unfold allocate
  dsimp only
  split
  · split
    · exact (allocateOnce_settled _ _ _).trans (allocateOnce_settled _ _ _)
    · exact (allocateOnce_settled cause target s).trans (.of_tn (by simp))
  · exact allocateOnce_settled _ _ _

theorem trigger_settled (cause : AllocCause) (s : State) : Settled s (trigger cause s) := by
  unfold trigger
  split
  · exact .refl s
  · split
    · exact allocate_settled _ _ _
    · exact .of_tn (by simp)

theorem triggerIf_settled (cause : AllocCause) (flag : Bool) (s : State) : Settled s (triggerIf cause flag s) := by
  unfold triggerIf
  split
  · exact trigger_settled _ _
  · exact .refl s

theorem serveWaiting_settled (s : State) : Settled s (serveWaiting s) := by
  unfold serveWaiting
  split
  · exact allocate_settled _ _ _
  · exact .refl s

theorem withTestTrigger_settled {f : State → State} {s : State} (h : Settled s (f s)) :
    Settled s (withTestTrigger f s) := by
  unfold withTestTrigger
  dsimp only
  split
  · exact h.trans (trigger_settled _ _)
  · exact h

theorem discardPending_settled (s : State) : Settled s (discardPending s) := by
  unfold discardPending
  split
  · exact (dropPending_settled s).trans (withTestTrigger_settled (.of_tn (by simp)))
  · exact .refl s

theorem drainCompletion_settled (t : Tenant) (before : TenantRec) (s : State) :
    Settled s (drainCompletion t before s) := triggerIf_settled _ _ _

end Sys2Proof.Machine
end

