-- ==== Sys2Proof/Laws/Effects.lean ====
section
/-! SUPPORT. What the shared operations do to their own block: the timing state, the end of a test, the plans, the
reports and the message queue. -/

set_option linter.unusedSimpArgs false

namespace Sys2Proof.Machine

/-! ### Timing -/

/-- Announcing a change leaves the Timing Unit alone but for the pulse output. -/
theorem announceTiming_tm (old : TimingState) (cause : TimingCause) (s : State) :
    (announceTiming old cause s).tm = { s.tm with pps := s.tm.pps && pulsing s.tm } := by
  simp [announceTiming]

/-- A change of timing state: the state, the runs and the pulse output. -/
theorem setTiming_tm (new : TimingState) (cause : TimingCause) (s : State) :
    (setTiming new cause s).tm =
      { s.tm with state := new, goodRun := 0, largeRun := 0,
                  pps := s.tm.pps && pulsing { s.tm with state := new, goodRun := 0, largeRun := 0 } } := by
  simp [setTiming, announceTiming_tm]

/-- An entry to HOLDOVER. -/
theorem enterHoldover_tm (cause : TimingCause) (s : State) :
    (enterHoldover cause s).tm =
      { s.tm with state := .holdover, goodRun := 0, largeRun := 0, expired := false, holdoverTimer := some 0,
                  holdoverCode := some (holdoverCodeOf s.tm), steer := holdoverCodeOf s.tm,
                  pps := s.tm.pps } := by
  simp [enterHoldover, setTiming_tm, pulsing]

/-! ### Triggers while the link is not UP -/

/-- Everything but the Capacity Allocator, the live counters and the tenants' and reports' side is as before. -/
def SameCore (s t : State) : Prop :=
  t.mp = s.mp ∧ t.sf = s.sf ∧ t.ps = s.ps ∧ t.mc = s.mc ∧ t.lc = s.lc ∧ t.st = s.st ∧ t.tm.state = s.tm.state ∧
    t.tm.time = s.tm.time ∧ t.pending = s.pending

theorem SameCore.refl (s : State) : SameCore s s := ⟨rfl, rfl, rfl, rfl, rfl, rfl, rfl, rfl, rfl⟩

theorem SameCore.trans {s t u : State} (h1 : SameCore s t) (h2 : SameCore t u) : SameCore s u := by
  obtain ⟨a1, a2, a3, a4, a5, a6, a7, a8, a9⟩ := h1
  obtain ⟨b1, b2, b3, b4, b5, b6, b7, b8, b9⟩ := h2
  exact ⟨b1.trans a1, b2.trans a2, b3.trans a3, b4.trans a4, b5.trans a5, b6.trans a6, b7.trans a7, b8.trans a8,
    b9.trans a9⟩

theorem SameCore.lc {s t : State} (h : SameCore s t) : t.lc = s.lc := h.2.2.2.2.1

/-- Outside UP a trigger only waits. -/
theorem trigger_notUp (cause : AllocCause) (s : State) (h : s.lc.link ≠ .up) : SameCore s (trigger cause s) := by
  have hf : lcFree s = false := by simp [lcFree, h]
  unfold trigger
  split
  · exact .refl s
  · rw [hf]
    exact ⟨by simp, by simp, by simp, by simp, by simp, by simp, by simp, by simp, by simp⟩

theorem triggerIf_notUp (cause : AllocCause) (flag : Bool) (s : State) (h : s.lc.link ≠ .up) :
    SameCore s (triggerIf cause flag s) := by
  unfold triggerIf
  split
  · exact trigger_notUp cause s h
  · exact .refl s

theorem evalSync_core (n : Tenant) (s : State) : SameCore s (evalSync n s).1 :=
  ⟨by simp, by simp, by simp, by simp, by simp, by simp, by simp, by simp, by simp⟩

theorem syncAll_notUp (s : State) (h : s.lc.link ≠ .up) : SameCore s (syncAll s) := by
  rw [syncAll_eq]
  have h4 := (((evalSync_core .t1 s).trans (evalSync_core .t2 _)).trans (evalSync_core .t3 _)).trans
    (evalSync_core .t4 _)
  have k1 := h4.trans (triggerIf_notUp .tenant (evalSync .t1 s).2 _ (by rw [h4.lc]; exact h))
  have k2 := k1.trans (triggerIf_notUp .tenant (evalSync .t2 (evalSync .t1 s).1).2 _ (by rw [k1.lc]; exact h))
  have k3 := k2.trans (triggerIf_notUp .tenant (evalSync .t3 (evalSync .t2 (evalSync .t1 s).1).1).2 _
    (by rw [k2.lc]; exact h))
  exact k3.trans (triggerIf_notUp _ _ _ (by rw [k3.lc]; exact h))

/-- Outside UP an event of the Self-Test Unit changes what it changes by itself. -/
theorem withTestTrigger_notUp (f : State → State) (s : State) (h : (f s).lc.link ≠ .up) :
    SameCore (f s) (withTestTrigger f s) := by
  unfold withTestTrigger
  dsimp only
  split
  · exact trigger_notUp .test _ h
  · exact .refl _

/-- Leaving the pair of states UP and SHIFT, outside UP, touches the Timing Unit alone of the blocks here. -/
theorem timingLinkDown_notUp (s : State) (h : s.lc.link ≠ .up) :
    (timingLinkDown s).mp = s.mp ∧ (timingLinkDown s).ps = s.ps ∧ (timingLinkDown s).mc = s.mc ∧
      (timingLinkDown s).lc = s.lc ∧ (timingLinkDown s).st = s.st := by
  unfold timingLinkDown
  dsimp only
  split
  · unfold setTiming announceTiming
    dsimp only
    have := fun x : State => fun hx : x.lc.link ≠ .up => syncAll_notUp x hx
    refine ⟨?_, ?_, ?_, ?_, ?_⟩ <;> simp <;>
      first
        | rw [(this _ (by simpa using h)).1] | rw [(this _ (by simpa using h)).2.2.1]
        | rw [(this _ (by simpa using h)).2.2.2.1] | rw [(this _ (by simpa using h)).2.2.2.2.1]
        | rw [(this _ (by simpa using h)).2.2.2.2.2.1]
    all_goals rfl
  · unfold enterHoldover setTiming announceTiming
    dsimp only
    have := fun x : State => fun hx : x.lc.link ≠ .up => syncAll_notUp x hx
    refine ⟨?_, ?_, ?_, ?_, ?_⟩ <;> simp <;>
      first
        | rw [(this _ (by simpa using h)).1] | rw [(this _ (by simpa using h)).2.2.1]
        | rw [(this _ (by simpa using h)).2.2.2.1] | rw [(this _ (by simpa using h)).2.2.2.2.1]
        | rw [(this _ (by simpa using h)).2.2.2.2.2.1]
    all_goals rfl
  · exact ⟨rfl, rfl, rfl, rfl, rfl⟩

/-! ### Entries to SEARCH and OFF -/

/-- A discard takes the pending plan and nothing else of the Plan Store. -/
theorem dropPending_ps (s : State) : (dropPending s).ps = { s.ps with pending := none } := by
  unfold dropPending
  split
  · simp
  · rename_i h
    simp only [Bool.not_eq_true, Option.isSome_eq_false_iff, Option.isNone_iff_eq_none] at h
    rcases s with ⟨⟩; rename_i ps _ _ _ _ _ _ _ _ _; cases ps; simp_all

/-- The first step of R22. -/
theorem plansToIdle_ps (s : State) :
    (plansToIdle s).ps = { s.ps with pending := none, previous := none,
                                     idleDue := if s.ps.idleDue = .now then .now else .next,
                                     fallbackDue := if s.ps.fallbackDue = .now then .now else .no } := by
  simp [plansToIdle, dropPending_ps]

/-- The finish of a restart. -/
theorem finishRestart_core (s : State) : (finishRestart s).lc = { s.lc with offReport := none } ∧
    (finishRestart s).mc = { s.mc with restart := .no } ∧ (finishRestart s).st = s.st ∧ (finishRestart s).mp = s.mp := by
  unfold finishRestart
  dsimp only
  split <;> simp

/-- The withdrawal of an area. -/
theorem withdrawArea_core (s : State) : (withdrawArea s).mc = { s.mc with released := 0 } ∧
    (withdrawArea s).lc = s.lc ∧ (withdrawArea s).st = s.st := by
  simp [withdrawArea]

/-- The restart before the withdrawal. -/
def restarted (hello : Option LinkMessage) (s : State) : State :=
  let s := countTimes (countChannel .withdrawn) (heldMessages s) s
  setKept .selfTest [] (setKept .linkController []
    (s.modMC fun mc =>
      { mc with restart := .next, timeHolder := none, repeatHolder := hello, queue := [], abortArea := !s.mp.composed }))

/-- What a restart leaves before the withdrawal. -/
theorem restarted_core (hello : Option LinkMessage) (s : State) :
    (restarted hello s).mc = { s.mc with restart := .next, timeHolder := none, repeatHolder := hello, queue := [], abortArea := !s.mp.composed } ∧
      (restarted hello s).lc = { s.lc with kept := [] } ∧ (restarted hello s).st = { s.st with kept := [] } ∧
      (restarted hello s).mp = s.mp := by
  simp [restarted, setKept]

/-- What the channel restart leaves in the Message Channel. -/
theorem restartChannel_mc (hello : Option LinkMessage) (inFrame : Bool) (s : State) :
    (restartChannel hello inFrame s).mc.restart = .next ∧ (restartChannel hello inFrame s).mc.queue = [] ∧
      (restartChannel hello inFrame s).mc.timeHolder = none ∧
      (restartChannel hello inFrame s).mc.repeatHolder = hello ∧
      (restartChannel hello inFrame s).lc = { s.lc with kept := [], offReport := (restartChannel hello inFrame s).lc.offReport } ∧
      (restartChannel hello inFrame s).st = { s.st with kept := [] } ∧
      (inFrame = true → (restartChannel hello inFrame s).mp = s.mp) := by
  have e : ∃ x, (x = s ∨ x = finishRestart s) ∧ restartChannel hello inFrame s =
      if (restarted hello x).mp.composed ∧ ¬ inFrame then withdrawArea (restarted hello x) else restarted hello x := by
    by_cases h : s.mc.restart = .now
    · exact ⟨finishRestart s, .inr rfl, by unfold restartChannel; rw [if_pos h]; rfl⟩
    · exact ⟨s, .inl rfl, by unfold restartChannel; rw [if_neg h]; rfl⟩
  obtain ⟨x, hx, e⟩ := e
  have hl : x.lc = { s.lc with offReport := x.lc.offReport } := by
    rcases hx with rfl | rfl
    · rfl
    · simp [finishRestart_core]
  have hst : x.st = s.st ∧ x.mp = s.mp := by
    rcases hx with rfl | rfl
    · exact ⟨rfl, rfl⟩
    · simp [finishRestart_core]
  obtain ⟨r1, r2, r3, r4⟩ := restarted_core hello x
  rw [e]
  split
  · rename_i hc
    obtain ⟨w1, w2, w3⟩ := withdrawArea_core (restarted hello x)
    rw [w1, w2, w3, r1, r2, r3, hl, hst.1]
    exact ⟨rfl, rfl, rfl, rfl, rfl, rfl, fun h => absurd h hc.2⟩
  · rw [r1, r2, r3, r4, hl, hst.1, hst.2]
    exact ⟨rfl, rfl, rfl, rfl, rfl, rfl, fun _ => rfl⟩

/-- A test that is done changes nothing of the channel, the link and the plans. -/
theorem tryDone_st (s : State) : (tryDone s).st.kept = s.st.kept ∧ (tryDone s).st.responder = s.st.responder ∧
   (tryDone s).mp = s.mp ∧ (tryDone s).mc = s.mc ∧ (tryDone s).lc = s.lc ∧ (tryDone s).ps = s.ps := by
  unfold tryDone; dsimp only; split <;> simp

/-- The Self-Test Unit's part in an entry to SEARCH or OFF. -/
theorem testDown_core (s : State) :
    let t := tryDone (testLinkDown false s)
    t.lc = s.lc ∧ t.mc = s.mc ∧ t.ps = s.ps ∧ t.mp = s.mp ∧ t.sf = s.sf ∧ t.tm = s.tm ∧ t.st.kept = s.st.kept ∧
      t.st.responder = none ∧ t.pending = s.pending := by
  intro t
  have h : ∀ x : State, x.st.kind ≠ some .loop →
      ∀ v, (stopTest v false false x).lc = x.lc ∧ (stopTest v false false x).mc = x.mc ∧ (stopTest v false false x).mp = x.mp ∧
        (stopTest v false false x).st.kept = x.st.kept ∧ (stopTest v false false x).st.responder = x.st.responder := by
    intro x hx v
    have hb : (x.st.kind == some .loop) = false := by simpa using hx
    unfold stopTest
    simp [hb, tryDone_st]
  have hd : testLinkDown false s = s.modST (fun st => { st with responder := none }) ∨
      (s.st.kind ≠ some .loop ∧ ∃ v, testLinkDown false s = stopTest v false false (s.modST fun st => { st with responder := none })) := by
    unfold testLinkDown; dsimp only
    split
    · rename_i hk; exact .inr ⟨hk.1, _, rfl⟩
    · exact .inl rfl
  obtain ⟨t1, t2, t3, t4, t5, t6⟩ := tryDone_st (testLinkDown false s)
  show (tryDone (testLinkDown false s)).lc = s.lc ∧ _
  rcases hd with hd | ⟨hk, v, hd⟩
  · rw [show t = tryDone (testLinkDown false s) from rfl, t1, t2, t3, t4, t5, hd]; simp
  · obtain ⟨a1, a2, a3, a4, a5⟩ := h (s.modST fun st => { st with responder := none }) hk v
    rw [show t = tryDone (testLinkDown false s) from rfl, t1, t2, t3, t4, t5, hd, a1, a2, a3, a4, a5]; simp

/-- What the neighbours do when the link leaves for SEARCH or OFF, said once for both entries (R61). -/
theorem linkDown_core (old : LinkState) (hello : Option LinkMessage) (kind : EntryKind) (s : State)
    (hne : s.lc.link ≠ .up) :
    let t := linkDownNeighbours old hello kind s
    t.lc = { s.lc with kept := [], offReport := t.lc.offReport } ∧
      t.ps = { s.ps with pending := none, previous := none,
                         idleDue := if s.ps.idleDue = .now then .now else .next,
                         fallbackDue := if s.ps.fallbackDue = .now then .now else .no } ∧
      t.mc.restart = .next ∧ t.mc.queue = [] ∧ t.mc.timeHolder = none ∧ t.mc.repeatHolder = hello ∧
      t.st.kept = [] ∧ t.st.responder = none ∧ t.sf = { s.sf with regainRun := none } ∧
      (kind = .request → t.mp = s.mp) ∧ (inPair old = false → t.tm.state = s.tm.state) := by
  intro t
  obtain ⟨s2, hs2⟩ : ∃ x, x = plansToIdle (s.modSF fun sf => { sf with regainRun := none }) := ⟨_, rfl⟩
  obtain ⟨s3, hs3⟩ : ∃ x, x = restartChannel hello (kind == .request) s2 := ⟨_, rfl⟩
  obtain ⟨s4, hs4⟩ : ∃ x, x = if inPair old then timingLinkDown s3 else s3 := ⟨_, rfl⟩
  obtain ⟨s5, hs5⟩ : ∃ x, x = withTestTrigger (fun s => tryDone (testLinkDown false s)) s4 := ⟨_, rfl⟩
  obtain ⟨s6, hs6⟩ : ∃ x, x = closeEval s5 := ⟨_, rfl⟩
  have hall : t = if kind = .dispatch then dropInbox s6 else s6 := by
    subst hs6 hs5 hs4 hs3 hs2; rfl
  have l2 : s2.lc = s.lc := by simp [hs2]
  obtain ⟨m1, m2, m3, m4, m5, m6, m7⟩ := restartChannel_mc hello (kind == .request) s2
  rw [← hs3] at m1 m2 m3 m4 m5 m6 m7
  have l3 : s3.lc.link ≠ .up := by rw [m5, l2]; exact hne
  obtain ⟨a1, a2, a3, a4, a5⟩ := timingLinkDown_notUp s3 l3
  have c4 : s4.mp = s3.mp ∧ s4.ps = s3.ps ∧ s4.mc = s3.mc ∧ s4.lc = s3.lc ∧ s4.st = s3.st ∧ s4.sf = s3.sf := by
    rw [hs4]; split
    · exact ⟨a1, a2, a3, a4, a5, by simp⟩
    · exact ⟨rfl, rfl, rfl, rfl, rfl, rfl⟩
  obtain ⟨b1, b2, b3, b4, b5, b6, b7, b8, b9⟩ := testDown_core s4
  have hn5 : (tryDone (testLinkDown false s4)).lc.link ≠ .up := by rw [b1, c4.2.2.2.1]; exact l3
  have c5 := withTestTrigger_notUp (fun s => tryDone (testLinkDown false s)) s4 hn5
  rw [← hs5] at c5
  have c6 : SameCore s5 s6 := by rw [hs6]; simp [SameCore]
  obtain ⟨e1, e2, e3, e4, e5, e6, i, e7⟩ : t.mp = s6.mp ∧ t.sf = s6.sf ∧ t.ps = s6.ps ∧ t.lc = s6.lc ∧
      t.st = s6.st ∧ t.tm = s6.tm ∧ ∃ i, t.mc = { s6.mc with inbox := i } := by
    rw [hall]; split
    · simp [dropInbox]
    · exact ⟨rfl, rfl, rfl, rfl, rfl, rfl, _, rfl⟩
  obtain ⟨c51, c52, c53, c54, c55, c56, c57, c58, c59⟩ := c5
  obtain ⟨c61, c62, c63, c64, c65, c66, c67, c68, c69⟩ := c6
  have hlc : s6.lc = s3.lc := by rw [c65, c55, b1, c4.2.2.2.1]
  have hps : s6.ps = s2.ps := by rw [c63, c53, b3, c4.2.1]; simp [hs3]
  have hmc : s6.mc = s3.mc := by rw [c64, c54, b2, c4.2.2.1]
  have hmp : s6.mp = s3.mp := by rw [c61, c51, b4, c4.1]
  have hsf : s6.sf = s2.sf := by rw [c62, c52, b5, c4.2.2.2.2.2]; simp [hs3]
  have hst : s6.st.kept = [] ∧ s6.st.responder = none := by
    rw [c66, c56, b7, b8, c4.2.2.2.2.1, m6]; exact ⟨rfl, rfl⟩
  rw [e1, e2, e3, e4, e5, e6, e7, hlc, hmc, hmp, hps, hsf, hst.1, hst.2, m1, m2, m3, m4, m5, l2]
  refine ⟨rfl, ?_, rfl, rfl, rfl, rfl, rfl, rfl, ?_, fun hk => ?_, fun hp => ?_⟩
  · rw [hs2, plansToIdle_ps]; rfl
  · simp [hs2]
  · rw [m7 (by simp [hk])]; simp [hs2]
  · rw [c67, c57, b6, hs4, if_neg (by simp [hp])]; simp [hs3, hs2]

/-- What every entry to SEARCH leaves (R61, R65). -/
theorem enterSearch_entered (cause : LinkCause) (extra : Byte) (kind : EntryKind) (s : State) :
    enteredSearch s (enterSearch cause extra kind s) ∧
      (kind = .request → (enterSearch cause extra kind s).mp = s.mp) ∧
      (inPair s.lc.link = false → (enterSearch cause extra kind s).tm.state = s.tm.state) := by
  obtain ⟨s1, hs1⟩ : ∃ x, x = reportLink s.lc.link cause extra
    (s.modLC fun lc => { clearLink lc with link := .search, roleClash := false }) := ⟨_, rfl⟩
  have hall : enterSearch cause extra kind s = linkDownNeighbours s.lc.link (some (helloMessage s)) kind s1 := by
    subst hs1; rfl
  have l1 : s1.lc = { clearLink s.lc with link := .search, roleClash := false } := by simp [hs1]
  obtain ⟨a, b, c, d, e, f, g, h, i, j, k⟩ := linkDown_core s.lc.link (some (helloMessage s)) kind s1
    (by rw [l1]; intro h; cases h)
  rw [hall]
  refine ⟨?_, fun hk => by rw [j hk, hs1]; simp, fun hp => by rw [k hp, hs1]; simp⟩
  unfold enteredSearch
  rw [a, b, c, d, e, f, g, h, i, l1]
  refine ⟨rfl, rfl, rfl, rfl, rfl, rfl, rfl, rfl, rfl, rfl, rfl, rfl, rfl, rfl, rfl, rfl, rfl, rfl, ?_, ?_, rfl, rfl,
    rfl, rfl, ?_⟩
  · simp [hs1]
  · show (if s1.ps.idleDue = .now then Due.now else .next) ≠ .no
    split <;> decide
  · simp [hs1]

/-- What the entry to OFF leaves (R61, R63). -/
theorem enterOff_entered (reason : Byte) (s : State) :
    let t := enterOff reason s
    t.lc = { clearLink s.lc with link := .off, stop := none, kept := [], offReport := some (s.lc.link, reason) } ∧
      t.ps.pending = none ∧ t.ps.active = s.ps.active ∧ t.ps.idleDue ≠ .no ∧ t.mc.restart = .next ∧
      t.mc.queue = [] ∧ t.mc.timeHolder = none ∧ t.mc.repeatHolder = none := by
  intro t
  obtain ⟨s1, hs1⟩ : ∃ x, x = s.modLC fun lc => { clearLink lc with link := .off, stop := none } := ⟨_, rfl⟩
  have hall : t = (linkDownNeighbours s.lc.link none .boundary s1).modLC
      fun lc => { lc with offReport := some (s.lc.link, reason) } := by
    subst hs1; rfl
  obtain ⟨a, b, c, d, e, f, g, h, i, j, k⟩ := linkDown_core s.lc.link none .boundary s1
    (by rw [hs1]; intro h; cases h)
  rw [hall]
  simp only [State.modLC_lc, State.modLC_ps, State.modLC_mc]
  rw [a, b, c, d, e, f, hs1]
  refine ⟨rfl, rfl, rfl, ?_, rfl, rfl, rfl, rfl⟩
  show (if s.ps.idleDue = .now then Due.now else .next) ≠ .no
  split <;> decide

/-! ### Messages handed to the queue -/

/-- A message that has room joins the queue. -/
theorem send_room (p : Producer) (m : LinkMessage) (s : State) (hk : keptOf p s = []) (hq : s.mc.queue.length < 8)
    (hm : (isStatus m && s.mc.queue.any isStatus) = false) :
    send p m s = s.modMC fun mc => { mc with queue := mc.queue ++ [m] } := by
  rw [send_eq, if_pos hk]
  simp [offerQueue, hm, hq]

/-- A message handed to the queue changes the queue or what its producer keeps, and the counters. -/
theorem send_only (p : Producer) (m : LinkMessage) (s : State) :
    (send p m s).mc = { s.mc with queue := (send p m s).mc.queue } ∧
      (send p m s).lc = { s.lc with kept := (send p m s).lc.kept } ∧
      (send p m s).st = { s.st with kept := (send p m s).st.kept } ∧
      (p = .linkController → (send p m s).st = s.st) ∧ (p = .selfTest → (send p m s).lc = s.lc) := by
  rw [send_eq]
  have h1 : (offerQueue m s).1.lc = s.lc ∧ (offerQueue m s).1.st = s.st ∧ (offerQueue m s).1.mc = { s.mc with queue := (offerQueue m s).1.mc.queue } := by
    unfold offerQueue
    split
    · exact ⟨rfl, rfl, rfl⟩
    · split <;> exact ⟨rfl, rfl, rfl⟩
  obtain ⟨a, b, c⟩ := h1
  split
  · split
    · exact ⟨c, by rw [a], by rw [b], fun _ => b, fun _ => a⟩
    · cases p <;> simp [setKept, a, b] <;> exact c
  · cases p <;> simp [setKept]

/-- The whole of what handing a message to the queue can do. -/
theorem send_state (p : Producer) (m : LinkMessage) (s : State) :
    ∃ queue kl ks channel,
      send p m s =
        { s with
          mc := { s.mc with queue := queue }, lc := { s.lc with kept := kl }, st := { s.st with kept := ks },
          cb := { s.cb with live := { s.cb.live with channel := channel } } } ∧
      (p = .linkController → ks = s.st.kept) ∧ (p = .selfTest → kl = s.lc.kept) := by
  have h1 : ∃ queue channel, (offerQueue m s).1 =
      { s with
        mc := { s.mc with queue := queue }, cb := { s.cb with live := { s.cb.live with channel := channel } } } := by
    unfold offerQueue
    split
    · exact ⟨_, _, rfl⟩
    · split
      · exact ⟨_, s.cb.live.channel, rfl⟩
      · exact ⟨s.mc.queue, _, rfl⟩
  obtain ⟨queue, channel, h1⟩ := h1
  rw [send_eq]
  split
  · split
    · exact ⟨queue, s.lc.kept, s.st.kept, channel, h1, fun _ => rfl, fun _ => rfl⟩
    · rw [h1]
      cases p
      · exact ⟨queue, _, s.st.kept, channel, rfl, fun _ => rfl, fun h => nomatch h⟩
      · exact ⟨queue, s.lc.kept, _, channel, rfl, fun h => (nomatch h), fun _ => rfl⟩
  · cases p
    · exact ⟨s.mc.queue, _, s.st.kept, s.cb.live.channel, rfl, fun _ => rfl, fun h => nomatch h⟩
    · exact ⟨s.mc.queue, s.lc.kept, _, s.cb.live.channel, rfl, fun h => (nomatch h), fun _ => rfl⟩

/-- The same, with the queue and the kept messages named. -/
theorem send_some (p : Producer) (m : LinkMessage) (s : State) :
    ∃ queue kl ks, (send p m s).mc = { s.mc with queue := queue } ∧ (send p m s).lc = { s.lc with kept := kl } ∧
      (send p m s).st = { s.st with kept := ks } ∧ (p = .linkController → (send p m s).st = s.st) ∧
      (p = .selfTest → (send p m s).lc = s.lc) := by
  obtain ⟨a, b, c, d, e⟩ := send_only p m s
  exact ⟨_, _, _, a, b, c, d, e⟩

/-! ### Allocations that end no test -/

/-- No test is STARTING or RUNNING, so that the room check ends none. -/
def noRoomAbort (st : ST) : Prop := st.state ≠ .starting ∧ st.state ≠ .running

theorem roomAbort_quiet (s : State) (h : noRoomAbort s.st) : roomAbort s = countLink .roomAborts s := by
  unfold roomAbort
  dsimp only
  rw [if_neg]
  rintro ⟨_, h1 | h1⟩
  · exact h.1 h1
  · exact h.2 h1

theorem propose_quiet (c : Candidate) (s : State) :
    (propose c s).1.st = s.st ∧ (propose c s).1.mp = s.mp := by
  rw [propose_eq]
  have hs : ∀ x : State, (send .linkController (shiftMessage (proposalOf c s)) x).st = x.st :=
    fun x => (send_only .linkController (shiftMessage (proposalOf c s)) x).2.2.2.1 rfl
  split
  · split
    · refine ⟨?_, ?_⟩ <;> simp [hs]
    · simp
  · exact ⟨rfl, rfl⟩

theorem allocateOnce_quiet (cause : AllocCause) (target : Nat) (s : State) (h : noRoomAbort s.st) :
    (allocateOnce cause target s).st = s.st ∧ (allocateOnce cause target s).mp = s.mp := by
  rw [allocateOnce_eq, roomAbort_quiet s h]
  have hx : ∀ x : State, x.st = s.st ∧ x.mp = s.mp →
    ∀ c, (propose c x).1.st = s.st ∧ (propose c x).1.mp = s.mp := fun x hx c => by
      rw [(propose_quiet c x).1, (propose_quiet c x).2]; exact hx
  have hb : (countLink .allocationsProposed
        ((if roomFails (allocInput s) (min target (ceiling s)) s.st.reqTest then countLink .roomAborts s else s).modCA
          fun ca => { ca with last := some (candidateFor s cause (min target (ceiling s)) s.st.reqTest),
                              waiting := false })).st = s.st ∧ (countLink .allocationsProposed
        ((if roomFails (allocInput s) (min target (ceiling s)) s.st.reqTest then countLink .roomAborts s else s).modCA
          fun ca => { ca with last := some (candidateFor s cause (min target (ceiling s)) s.st.reqTest),
                              waiting := false })).mp = s.mp := by
    simp [apply_ite State.st, apply_ite State.mp]
  generalize countLink .allocationsProposed _ = x at hb ⊢
  split
  · split
    · exact hx x hb _
    · exact hx x hb _
  · simp [apply_ite State.st, apply_ite State.mp]

theorem allocate_quiet (cause : AllocCause) (target : Nat) (s : State) (h : noRoomAbort s.st) :
    (allocate cause target s).st = s.st ∧ (allocate cause target s).mp = s.mp := by
  have h1 := allocateOnce_quiet cause target s h
  unfold allocate
  dsimp only
  rw [if_neg]
  · exact h1
  · rw [h1.1]; simp [requestChanged]

theorem trigger_quiet (cause : AllocCause) (s : State) (h : noRoomAbort s.st) :
    (trigger cause s).st = s.st ∧ (trigger cause s).mp = s.mp := by
  unfold trigger
  split
  · exact ⟨rfl, rfl⟩
  · split
    · exact allocate_quiet _ _ _ h
    · simp

theorem withTestTrigger_quiet (f : State → State) (s : State) (h : noRoomAbort (f s).st) :
    (withTestTrigger f s).st = (f s).st ∧ (withTestTrigger f s).mp = (f s).mp := by
  unfold withTestTrigger
  dsimp only
  split
  · exact trigger_quiet _ _ h
  · exact ⟨rfl, rfl⟩

/-! ### The end of a test -/

/-- The state that the end of a test leaves before it is asked whether the test is done. -/
theorem stopTest_eq (verdict : Option TestOutcome) (offerStop await : Bool) (s : State) :
    ∃ x : State, stopTest verdict offerStop await s = tryDone x ∧ x.ps = s.ps ∧ x.lc = s.lc ∧
      x.mp = (if s.st.kind = some .loop then
          { s.mp with loopSwitch := false, loopDue := if s.mp.loopback then .next else .no } else s.mp) ∧
      (∃ kept, x.st = { s.st with
        state := .stopping, verdict := verdict, reqTest := 0,
        reqProfile := (if s.st.kind = some .sweep then some 0 else none),
        deadline := (if await then some (frameAdd s.mp.frame 64) else none), awaiting := await,
        commissioned := (if s.st.kind = some .sweep then ceilingFromStages s.st else s.st.commissioned),
        saved := (if s.st.kind = some .sweep then none else s.st.saved), kept := kept }) ∧
      (offerStop = false → x.mc = s.mc ∧ x.st.kept = s.st.kept) := by
  unfold stopTest
  dsimp only
  refine ⟨_, rfl, ?_⟩
  by_cases hl : s.st.kind = some .loop
  · cases offerStop <;> simp [hl, setLoopSwitch] <;> (by_cases hlb : s.mp.loopback = true <;> simp [hlb])
  · have hb : (s.st.kind == some .loop) = false := by simpa using hl
    cases offerStop
    · simp [hl, hb]
    · simp only [hl, hb, Bool.not_false, Bool.and_true, if_true, Bool.false_eq_true, if_false, reduceCtorEq, false_implies, and_true]
      obtain ⟨q1, q2, q3, q4, q5⟩ := send_only .selfTest (testControl actionStop s.st) (s.modST fun st =>
        { st with
          state := .stopping, verdict := verdict, reqTest := 0,
          reqProfile := (if (s.st.kind == some .sweep) then some 0 else none),
          deadline := (if await then some (frameAdd s.mp.frame 64) else none), awaiting := await,
          commissioned := (if (s.st.kind == some .sweep) then ceilingFromStages st else st.commissioned),
          saved := (if (s.st.kind == some .sweep) then none else st.saved) })
      have hp : ∀ z : State, (send .selfTest (testControl actionStop s.st) z).ps = z.ps ∧
          (send .selfTest (testControl actionStop s.st) z).mp = z.mp := fun z => by simp
      refine ⟨by rw [(hp _).1]; rfl, by rw [q5 rfl]; rfl, by rw [(hp _).2]; rfl, ?_⟩
      generalize send .selfTest _ _ = y at q1 q2 q3 q4 q5 ⊢
      exact ⟨y.st.kept, by rw [q3]; simp⟩

/-- The end of a test: STOPPING with its verdict, or DONE with the outcome when it is clear of the plans and awaits
nothing. -/
theorem stopTest_ends (verdict : Option TestOutcome) (offerStop await : Bool) (s : State) :
    (stopTest verdict offerStop await s).st.reqTest = 0 ∧
      (stopTest verdict offerStop await s).mp =
        (if s.st.kind = some .loop then { s.mp with loopSwitch := false, loopDue := if s.mp.loopback then .next else .no }
         else s.mp) ∧
      (((stopTest verdict offerStop await s).st.state = .stopping ∧
          (stopTest verdict offerStop await s).st.verdict = verdict ∧
          (stopTest verdict offerStop await s).st.awaiting = await ∧
          (clearOfPlans s.ps = true → await = true)) ∨
        ((stopTest verdict offerStop await s).st.state = .done ∧
          (stopTest verdict offerStop await s).st.outcome = some (verdict.getD .abortedLink) ∧ await = false ∧
          clearOfPlans s.ps = true)) := by
  obtain ⟨x, hx, hps, hlc, hmp, ⟨kept, hst⟩, -⟩ := stopTest_eq verdict offerStop await s
  rw [hx]
  unfold tryDone
  dsimp only
  have hs : x.st.state = .stopping := by rw [hst]
  have hv : x.st.verdict = verdict := by rw [hst]
  have ha : x.st.awaiting = await := by rw [hst]
  have hr : x.st.reqTest = 0 := by rw [hst]
  by_cases hc : clearOfPlans s.ps = true ∧ await = false
  · rw [if_pos ⟨hs, by rw [hps]; exact hc.1, by rw [ha]; simp [hc.2]⟩]
    simp [hmp, hv, hc]
  · rw [if_neg (by rw [hps, ha]; rintro ⟨-, h1, h2⟩; exact hc ⟨h1, by simpa using h2⟩)]
    refine ⟨hr, hmp, .inl ⟨hs, hv, ha, fun h => ?_⟩⟩
    cases await
    · exact absurd ⟨h, rfl⟩ hc
    · rfl

/-! ### Allocations -/

/-- An allocation records its candidate and may set the waiting mark; the demands and the mode stand. -/
theorem allocateOnce_ca (cause : AllocCause) (target : Nat) (s : State) :
    ∃ w, (allocateOnce cause target s).ca =
      { s.ca with
        last := some (candidateFor s cause (min target (ceiling s)) s.st.reqTest), waiting := w } := by
  rw [allocateOnce_eq]
  have hr : (if roomFails (allocInput s) (min target (ceiling s)) s.st.reqTest then roomAbort s else s).ca = s.ca := by
    split <;> simp
  generalize (if roomFails (allocInput s) (min target (ceiling s)) s.st.reqTest then roomAbort s else s) = x at hr ⊢
  split
  · split
    · exact ⟨false, by simp [hr]⟩
    · exact ⟨true, by simp [hr]⟩
  · exact ⟨false, by simp [hr]⟩

/-- An allocation that the room check passes changes nothing of the Self-Test Unit. -/
theorem allocateOnce_room {cause : AllocCause} {target : Nat} {s : State}
    (h : roomFails (allocInput s) (min target (ceiling s)) s.st.reqTest = false) :
    (allocateOnce cause target s).st = s.st ∧ (allocateOnce cause target s).mp = s.mp := by
  rw [allocateOnce_eq, h]
  simp only [Bool.false_eq_true, if_false]
  have hx : ∀ x c, (propose c x).1.st = x.st ∧ (propose c x).1.mp = x.mp := fun x c => propose_quiet c x
  split
  · split <;> simp [hx]
  · simp

/-- An allocation that the room check passes is the only one. -/
theorem allocate_room {cause : AllocCause} {target : Nat} {s : State}
    (h : roomFails (allocInput s) (min target (ceiling s)) s.st.reqTest = false) :
    allocate cause target s = allocateOnce cause target s := by
  unfold allocate
  dsimp only
  rw [if_neg]
  rw [(allocateOnce_room h).1]
  simp [requestChanged]

/-- Whatever an allocation or a trigger does, of the Capacity Allocator it changes the last candidate and the waiting mark
alone. -/
theorem allocate_ca (cause : AllocCause) (target : Nat) (s : State) :
    ∃ l w, (allocate cause target s).ca = { s.ca with last := l, waiting := w } := by
  obtain ⟨w, h⟩ := allocateOnce_ca cause target s
  unfold allocate
  dsimp only
  split
  · split
    · obtain ⟨w', h'⟩ := allocateOnce_ca .test (standingTarget (allocateOnce cause target s))
        (allocateOnce cause target s)
      exact ⟨_, w', by rw [h', h]⟩
    · refine ⟨some (candidateFor s cause (min target (ceiling s)) s.st.reqTest), true, ?_⟩
      simp only [deferTrigger, countLink_frame, State.modCA, h]
  · exact ⟨_, w, h⟩

theorem trigger_ca (cause : AllocCause) (s : State) :
    ∃ l w, (trigger cause s).ca = { s.ca with last := l, waiting := w } := by
  unfold trigger
  split
  · exact ⟨_, _, rfl⟩
  · split
    · exact allocate_ca _ _ _
    · exact ⟨s.ca.last, true, by simp [deferTrigger]⟩

theorem serveWaiting_ca (s : State) :
    ∃ l w, (serveWaiting s).ca = { s.ca with last := l, waiting := w } := by
  unfold serveWaiting
  split
  · exact allocate_ca _ _ _
  · exact ⟨_, _, rfl⟩

end Sys2Proof.Machine
end

