-- ==== Sys2Proof/Laws/PerInstr.lean ====
section
/-! SUPPORT. The one family of statements about every command, as syntax: a command that is a request of the control line
spells a body of the length that the Control Port requires of its kind (R166, R181), so that it can never be refused for its
length. One lemma for each constructor. -/

namespace Sys2Proof.Laws.RequestFits

open Sys2Proof.Machine

/-- The request a command spells has the length that its kind asks for, and fits the frame format. -/
def Statement (c : Instr) : Prop :=
  ∀ kind body, requestOf c = some (kind, body) → requestLength kind = some body.length ∧ body.length ≤ 250

/-- A command that is no request says nothing. -/
theorem of_none {c : Instr} (h : requestOf c = none) : Statement c := by
  intro kind body e
  rw [h] at e
  cases e

/-- A request is judged by its own kind and body. -/
theorem of_some {c : Instr} (k : Byte) (b : List Byte) (h : requestOf c = some (k, b))
    (fits : requestLength k = some b.length ∧ b.length ≤ 250) : Statement c := by
  intro kind body e
  rw [h] at e
  cases e
  exact fits

theorem powerOnReset (role : Role) (rate : LineRate) : Statement (.powerOnReset role rate) := of_none rfl

theorem enterReset (role : Role) (rate : LineRate) : Statement (.enterReset role rate) := of_none rfl

theorem frameBoundary (elapsed : Nat) : Statement (.frameBoundary elapsed) := of_none rfl

theorem receivedFrame (frame : ModemFrame) : Statement (.receivedFrame frame) := of_none rfl

theorem hello (role : Byte) (siteId peer : SiteId) : Statement (.hello role siteId peer) := of_none rfl

theorem join (siteId : SiteId) (effective : FrameNo) (f1 f2 f3 f4 : Byte) :
    Statement (.join siteId effective f1 f2 f3 f4) :=
  of_none rfl

theorem joinAck (siteId : SiteId) (effective : FrameNo) : Statement (.joinAck siteId effective) := of_none rfl

theorem shift (number profile test n1 n2 n3 n4 f1 f2 f3 f4 : Byte) (effective : FrameNo) :
    Statement (.shift number profile test n1 n2 n3 n4 f1 f2 f3 f4 effective) :=
  of_none rfl

theorem shiftAck (number : Byte) : Statement (.shiftAck number) := of_none rfl

theorem shiftNak (number reason : Byte) : Statement (.shiftNak number reason) := of_none rfl

theorem status (fast slow : BitVec 16) (d1 d2 d3 d4 hold : Byte) : Statement (.status fast slow d1 d2 d3 d4 hold) :=
  of_none rfl

theorem bye (reason : Byte) : Statement (.bye reason) := of_none rfl

theorem timeReq (sequence : Byte) : Statement (.timeReq sequence) := of_none rfl

theorem timeResp (sequence : Byte) (t2 t3 : BitVec 64) (p2 p3 traceable : Byte) :
    Statement (.timeResp sequence t2 t3 p2 p3 traceable) :=
  of_none rfl

theorem testCtl (action kind mode test : Byte) : Statement (.testCtl action kind mode test) := of_none rfl

theorem testAck (action accepted : Byte) (frames : BitVec 32) (bits : BitVec 48) (errored : BitVec 32) :
    Statement (.testAck action accepted frames bits errored) :=
  of_none rfl

theorem planActivation : Statement .planActivation := of_none rfl

theorem adoptedActivation : Statement .adoptedActivation := of_none rfl

theorem pendingDiscard : Statement .pendingDiscard := of_none rfl

theorem fallbackActivation : Statement .fallbackActivation := of_none rfl

theorem idleReturn : Statement .idleReturn := of_none rfl

theorem loopbackSwitchEffect : Statement .loopbackSwitchEffect := of_none rfl

theorem joinTimeout : Statement .joinTimeout := of_none rfl

theorem lostTimeout : Statement .lostTimeout := of_none rfl

theorem retryWaitEnd : Statement .retryWaitEnd := of_none rfl

theorem lcFreeNotice : Statement .lcFreeNotice := of_none rfl

theorem stopEntryOff : Statement .stopEntryOff := of_none rfl

theorem channelRestartFinish : Statement .channelRestartFinish := of_none rfl

theorem queueRetryOffer (producer : Producer) : Statement (.queueRetryOffer producer) := of_none rfl

theorem statusBuild : Statement .statusBuild := of_none rfl

theorem riseEvaluation : Statement .riseEvaluation := of_none rfl

theorem demandWindowClose : Statement .demandWindowClose := of_none rfl

theorem drainFlush (tenant : Tenant) : Statement (.drainFlush tenant) := of_none rfl

theorem timeReqOffer : Statement .timeReqOffer := of_none rfl

theorem exchangeLost : Statement .exchangeLost := of_none rfl

theorem holdoverExpired : Statement .holdoverExpired := of_none rfl

theorem referencePulse (elapsed : Nat) (record : Option (BitVec 32)) : Statement (.referencePulse elapsed record) :=
  of_none rfl

theorem referenceTimeout : Statement .referenceTimeout := of_none rfl

theorem secondsRollover (elapsed : Nat) : Statement (.secondsRollover elapsed) := of_none rfl

theorem testArmingDeadline : Statement .testArmingDeadline := of_none rfl

theorem testStartDeadline : Statement .testStartDeadline := of_none rfl

theorem stageComplete : Statement .stageComplete := of_none rfl

theorem stopAnswerDeadline : Statement .stopAnswerDeadline := of_none rfl

theorem snapshotCapture : Statement .snapshotCapture := of_none rfl

theorem packetArrival (tenant : Tenant) (packet : List Byte) : Statement (.packetArrival tenant packet) := of_none rfl

theorem controlFrameReceived (chars : List Byte) : Statement (.controlFrameReceived chars) := of_none rfl

theorem controlLineError (chars : List Byte) : Statement (.controlLineError chars) := of_none rfl

theorem controlGapTimeout (chars : List Byte) : Statement (.controlGapTimeout chars) := of_none rfl

theorem replySent : Statement .replySent := of_none rfl

theorem partInfo : Statement .partInfo := of_some _ _ rfl ⟨rfl, Nat.le_of_ble_eq_true rfl⟩

theorem partReset : Statement .partReset := of_some _ _ rfl ⟨rfl, Nat.le_of_ble_eq_true rfl⟩

theorem reportsFetch : Statement .reportsFetch := of_some _ _ rfl ⟨rfl, Nat.le_of_ble_eq_true rfl⟩

theorem attnEnable (enable : Byte) : Statement (.attnEnable enable) :=
  of_some _ _ rfl ⟨rfl, Nat.le_of_ble_eq_true rfl⟩

theorem setSiteId (siteId peer : SiteId) : Statement (.setSiteId siteId peer) :=
  of_some _ _ rfl ⟨rfl, Nat.le_of_ble_eq_true rfl⟩

theorem linkConfig (hostMax hysteresis lead flags : Byte) : Statement (.linkConfig hostMax hysteresis lead flags) :=
  of_some _ _ rfl ⟨rfl, Nat.le_of_ble_eq_true rfl⟩

theorem linkStart : Statement .linkStart := of_some _ _ rfl ⟨rfl, Nat.le_of_ble_eq_true rfl⟩

theorem linkStop (reason : Byte) : Statement (.linkStop reason) := of_some _ _ rfl ⟨rfl, Nat.le_of_ble_eq_true rfl⟩

theorem linkStatus : Statement .linkStatus := of_some _ _ rfl ⟨rfl, Nat.le_of_ble_eq_true rfl⟩

theorem planRead : Statement .planRead := of_some _ _ rfl ⟨rfl, Nat.le_of_ble_eq_true rfl⟩

theorem tenantConfig (tenant committed weight ceiling : Byte) (queueLimit : BitVec 16) (burst fill sync : Byte) :
    Statement (.tenantConfig tenant committed weight ceiling queueLimit burst fill sync) :=
  of_some _ _ rfl ⟨rfl, Nat.le_of_ble_eq_true rfl⟩

theorem tenantOpen (tenant : Byte) : Statement (.tenantOpen tenant) :=
  of_some _ _ rfl ⟨rfl, Nat.le_of_ble_eq_true rfl⟩

theorem tenantClose (tenant : Byte) : Statement (.tenantClose tenant) :=
  of_some _ _ rfl ⟨rfl, Nat.le_of_ble_eq_true rfl⟩

theorem tenantFlush (tenant : Byte) : Statement (.tenantFlush tenant) :=
  of_some _ _ rfl ⟨rfl, Nat.le_of_ble_eq_true rfl⟩

theorem tenantStatus (tenant : Byte) : Statement (.tenantStatus tenant) :=
  of_some _ _ rfl ⟨rfl, Nat.le_of_ble_eq_true rfl⟩

theorem allocMode (mode f1 f2 f3 f4 : Byte) : Statement (.allocMode mode f1 f2 f3 f4) :=
  of_some _ _ rfl ⟨rfl, Nat.le_of_ble_eq_true rfl⟩

theorem allocStatus : Statement .allocStatus := of_some _ _ rfl ⟨rfl, Nat.le_of_ble_eq_true rfl⟩

theorem timingConfig (kp ki : Byte) (steerMin steerMax centre lockWindow : BitVec 16) (holdoverLimit : Byte) (period : BitVec 16) (delayMax : BitVec 32) :
    Statement (.timingConfig kp ki steerMin steerMax centre lockWindow holdoverLimit period delayMax) :=
  of_some _ _ rfl ⟨rfl, Nat.le_of_ble_eq_true rfl⟩

theorem timingRestart : Statement .timingRestart := of_some _ _ rfl ⟨rfl, Nat.le_of_ble_eq_true rfl⟩

theorem timingStatus : Statement .timingStatus := of_some _ _ rfl ⟨rfl, Nat.le_of_ble_eq_true rfl⟩

theorem timeRead : Statement .timeRead := of_some _ _ rfl ⟨rfl, Nat.le_of_ble_eq_true rfl⟩

theorem testStart (kind mode test run : Byte) (frames allowed : BitVec 32) :
    Statement (.testStart kind mode test run frames allowed) :=
  of_some _ _ rfl ⟨rfl, Nat.le_of_ble_eq_true rfl⟩

theorem testStop : Statement .testStop := of_some _ _ rfl ⟨rfl, Nat.le_of_ble_eq_true rfl⟩

theorem testResult : Statement .testResult := of_some _ _ rfl ⟨rfl, Nat.le_of_ble_eq_true rfl⟩

theorem countersSnapshot (clear : Byte) : Statement (.countersSnapshot clear) :=
  of_some _ _ rfl ⟨rfl, Nat.le_of_ble_eq_true rfl⟩

theorem countersRead (selector : Byte) : Statement (.countersRead selector) :=
  of_some _ _ rfl ⟨rfl, Nat.le_of_ble_eq_true rfl⟩

end Sys2Proof.Laws.RequestFits
end

