-- ==== Sys2Proof/Tests/Slice0.lean ====
section
/-! SUPPORT. Small tests: the spec's worked examples, the refusal of ill-formed operands, single steps, and for each
statement with hypotheses a state and operands that meet them. Expected values come from spec/, never from the model. -/

open Sys2Proof Sys2Proof.Machine

namespace Sys2Proof.Tests

set_option Elab.async false

/-! ### States used below -/

/-- SITE right after power-on reset. -/
def site : State := State.reset

/-- HUB right after power-on reset. -/
def hub : State := State.afterReset 0 .hub .rate115200

/-- The oldest request, with tag 7, is with its owner. -/
def handing (kind : Byte) (body : List Byte) (s : State) : State :=
  s.modCP fun cp => { cp with buffer := [⟨kind, 7, body⟩], service := .handed }

/-- The link in a state, with identity 5 that admits any partner, and partner 9. -/
def linked (l : LinkState) (s : State) : State :=
  s.modLC fun lc => { lc with link := l, identity := some ⟨5, 0⟩, partner := some 9 }

/-- The active plan regular, with this number and profile. -/
def planned (number : PlanNo) (profile : Nat) (s : State) : State :=
  s.modPS fun ps => { ps with active := ⟨number, profile, 0, PerTenant.const 0, false⟩ }

/-- One tenant's record changed. -/
def tenantAs (t : Tenant) (f : TenantRec → TenantRec) (s : State) : State := modTenant t f s

/-- A check on the next state of a command, false where there is none. -/
def after (c : Instr) (s : State) (check : State → Bool) : Bool :=
  match exec c s with
  | .next t => check t
  | _ => false

/-! ### Ill-formed operands are refused (log 6) -/

/-- A decodable frame without position 0. -/
theorem test_wf_refuses_no_position0 : Instr.wf (.receivedFrame ⟨false, 300, []⟩) = false := by decide

/-- A position that is not 768 bytes long. -/
theorem test_wf_refuses_short_position : Instr.wf (.receivedFrame ⟨false, 300, [[0x5E, 0x27]]⟩) = false := by decide

/-- A good header of profile 0 with fewer positions than profile 0 sends. -/
theorem test_wf_refuses_few_positions :
    Instr.wf (.receivedFrame ⟨false, 300, TxFrame.afterReset.positions.take 11⟩) = false := by decide +kernel

/-- The twelve positions of a profile 0 frame, and an undecodable frame, are accepted. -/
theorem test_wf_accepts :
    Instr.wf (.receivedFrame ⟨false, 300, TxFrame.afterReset.positions⟩) = true ∧
      Instr.wf (.receivedFrame ⟨true, 0, []⟩) = true := by decide +kernel

/-! ### Worked examples of the spec -/

/-- The check value of 11_formats.md: "123456789" gives 0x29B1. -/
theorem test_crc_of_digits :
    crc16 [0x31, 0x32, 0x33, 0x34, 0x35, 0x36, 0x37, 0x38, 0x39] = 0x29B1#16 := by decide +kernel

/-- "Example: one frame header" (11_formats.md). -/
theorem test_header_example :
    headerFields ⟨7336, 0, false, 0, PerTenant.const ⟨false, false, true, true⟩⟩ =
      [0x5E, 0x27, 0xB4, 0x61, 0x1C, 0xA8, 0x00, 0x00, 0x33, 0x33] := by decide +kernel

/-- The frame that a reset leaves is the one R6, R38 and R182 give, written out byte by byte. -/
theorem test_reset_frame :
    TxFrame.afterReset.positions.head? =
      some (headerBytes (headerOf site) ++ finishArea AreaDraft.opening) := by decide +kernel

/-- "Example: two owner maps" (02): plan 1. -/
theorem test_owner_map_full :
    ownerMap ⟨7, 3, 0, ⟨21, 14, 4, 0⟩, false⟩ =
      [.linkControl] ++ List.replicate 21 (.tenant .t1) ++ List.replicate 14 (.tenant .t2) ++
        List.replicate 4 (.tenant .t3) ++ List.replicate 24 .dark := by decide +kernel

/-- "Example: two owner maps" (02): plan 2. -/
theorem test_owner_map_test :
    ownerMap ⟨8, 2, 4, ⟨6, 3, 2, 0⟩, false⟩ =
      [.linkControl] ++ List.replicate 4 .test ++ List.replicate 6 (.tenant .t1) ++ List.replicate 3 (.tenant .t2) ++
        List.replicate 2 (.tenant .t3) ++ List.replicate 12 .spare ++ List.replicate 36 .dark := by decide +kernel

/-- "Example: gaining, losing and regaining lock" (01): boundaries 1 to 7, then 8 to 13. -/
theorem test_lock_example :
    ([true, false, true, false, false, false, false].foldl (fun sf g => (lockStep g sf).1)
        (⟨true, 3, 0, none, true⟩ : SF)) = ⟨false, 0, 0, none, true⟩ ∧
      ([true, true, false, true, true, true].foldl (fun sf g => (lockStep g sf).1)
        (⟨false, 0, 0, none, true⟩ : SF)) = ⟨true, 3, 0, none, false⟩ := by decide

/-- The seed and the first two bytes of R147's example. -/
theorem test_pattern_example :
    patternSeed 40036 1 = 6480#15 ∧ bytesOf (patternBits 16 (patternSeed 40036 1)) = [0x32, 0xA0] := by decide +kernel

/-- "Example: one exchange" (07). -/
theorem test_exchange_example :
    exchangeOffset 7000000000 7000066450 7001066450 7001131600 = 650 ∧
      exchangeDelay 7000000000 7000066450 7001066450 7001131600 = 131600 := by decide +kernel

/-- "Example: an update in ACQUIRE" (07). -/
theorem test_update_example :
    selectOffset [(420, 131900), (310, 131640), (515, 132300), (300, 131600), (355, 131720), (280, 131600),
      (460, 132050), (330, 131680)] = 300 ∧
      servo (TM.afterReset .site).config 10000 300 = ⟨300, 23200, 11200, 2410, 2410, false⟩ := by decide +kernel

/-- "Example: saturation and the frozen integrator" (07). -/
theorem test_saturation_example :
    servo { (TM.afterReset .site).config with steerMax := 2200 } 9000 3100 =
      ⟨2047, 99068, 17188, 3595, 2200, true⟩ := by decide +kernel

/-- "Example: the demand fill of the afternoon surge" (06). -/
theorem test_fill_example :
    weightedFill 30 [⟨.t1, 8, 14⟩, ⟨.t2, 4, 10⟩, ⟨.t3, 2, 1⟩] = ⟨14, 10, 1, 0⟩ := by decide +kernel

/-- The figures of "Example: the 13:00 crowd surge" (06). -/
def surge : AllocInput :=
  let config := fun c w m => TenantConfig.mk c w m 64 4 0xFF false
  { classes := ⟨.eligible, .eligible, .eligible, .none⟩,
    configs := ⟨config 4 8 30, config 3 4 20, config 2 2 12, config 0 1 63⟩,
    need := ⟨14, 10, 2, 0⟩, fixed := false, fixedCounts := ⟨15, 10, 5, 0⟩ }

/-- "Example: the 13:00 crowd surge", "the rain cell" and "no demand at all" (06). -/
theorem test_allocation_examples :
    demandOf 2600000 = 14 ∧ autoCounts surge 39 = ⟨21, 14, 4, 0⟩ ∧ autoCounts surge 19 = ⟨10, 6, 3, 0⟩ ∧
      autoCounts { surge with need := PerTenant.const 0 } 39 = ⟨21, 12, 6, 0⟩ := by decide +kernel

/-- "Example: fixed counts that do not fit" (06). -/
theorem test_fixed_example : fixedModeCounts surge 19 = ⟨14, 3, 2, 0⟩ := by decide +kernel

/-- "Example: one tenant's stream over two frames" (05): pointers, blocks freed and packets sent. -/
theorem test_stream_example :
    let q := [⟨1500, 0, List.replicate 1500 0⟩, ⟨64, 0, List.replicate 64 0⟩, ⟨900, 0, List.replicate 900 0⟩]
    let f := fillPositions 0xFF 2 q
    let g := fillPositions 0xFF 2 f.queue
    f.positions.map (fun p => field p 0 2) = [0, 736] ∧ (f.freed, f.sent) = (6, 1) ∧
      g.positions.map (fun p => field p 0 2) = [36, 0xFFFF] ∧ (g.freed, g.sent) = (5, 2) := by decide +kernel

/-- The far end of the same example: from HUNT the context delivers the first packet and waits inside the second. -/
theorem test_reassembly_example :
    let q := [⟨1500, 0, List.replicate 1500 7⟩, ⟨64, 0, List.replicate 64 8⟩, ⟨900, 0, List.replicate 900 9⟩]
    let f := fillPositions 0xFF 2 q
    let g := fillPositions 0xFF 2 f.queue
    let r := rebuildPositions 0xFF (f.positions ++ g.positions) .hunt
    (r.packets == [List.replicate 1500 7, List.replicate 64 8, List.replicate 900 9] && r.errors == 0 &&
      r.mode == .idle) = true := by decide +kernel

/-- "Example: a sweep that sets ceiling 4" (08). -/
theorem test_sweep_example :
    ceilingFromStages { ST.afterReset with
      stagesComplete := 6,
      stages := [⟨2048, 0⟩, ⟨2048, 0⟩, ⟨2048, 0⟩, ⟨2048, 0⟩, ⟨2047, 0⟩, ⟨2048, 37⟩].map some } = 4 := by decide

/-- Zero insertion (R39): no six 1 bits in a row are sent inside a message. -/
theorem test_zero_insertion :
    insertZeros 0 [true, true, true, true, true, true, false] =
      [true, true, true, true, true, false, true, false] := by decide

/-- A flag whose first 0 was sent as an inserted zero ends the message before it whole (R48): 24 bits are no runt (R50). -/
theorem test_flag_shares_an_inserted_zero :
    let bits := List.replicate 19 false ++ List.replicate 5 true
    let stream := flagBits ++ insertZeros 0 bits ++ [true, true, true, true, true, true, false]
    (assembleBits 0 stream Assembler.start).counts = [.checkFailures] := by decide +kernel

/-- A message of 536 bits still open at the end of the area is unterminated (R48), one of 537 bits oversize (R50). -/
theorem test_open_message :
    openMessage (List.replicate 536 false) = [.unterminated] ∧ openMessage (List.replicate 537 false) = [.oversize] := by
  decide +kernel

/-! ### Single steps -/

/-- LINK_START without an identity is refused with STATE (R62): the reply's result code is 3. -/
theorem test_linkStart_needs_identity :
    after .linkStart (handing 0x12 [] site) (fun t =>
      t.cp.service == .replying (lineFrame 0x92 7 [3]) && t.lc.link == .off) = true := by decide +kernel

/-- LINK_START with an identity enters SEARCH (R62) with the HELLO loaded (R65) and the report of cause START. -/
theorem test_linkStart_enters_search :
    after .linkStart (handing 0x12 [] (site.modLC fun lc => { lc with identity := some ⟨5, 0⟩ })) (fun t =>
      t.lc.link == .search && t.mc.repeatHolder == some (.hello 0 5 0) &&
        t.cp.reports.map (·.detail) == [[0, 0, 0, 0, 0, 0, 0, 0], [1, 0, 0, 0, 0, 0, 0, 0]]) = true := by
  decide +kernel

/-- SET_SITE_ID is refused with LOCKED once an identity is stored (R59). -/
theorem test_setSiteId_once :
    after (.setSiteId 6 0) (handing 0x10 [0, 0, 0, 6, 0, 0, 0, 0] (linked .off site)) (fun t =>
      t.cp.service == .replying (lineFrame 0x90 7 [6]) && t.lc.identity == some ⟨5, 0⟩) = true := by decide +kernel

/-- LINK_CONFIG brings its values into range and answers them (R60). -/
theorem test_linkConfig_clamps :
    after (.linkConfig 9 60 3 0) (handing 0x11 [9, 60, 3, 0] site) (fun t =>
      t.cp.service == .replying (lineFrame 0x91 7 [0, 5, 50, 8, 1])) = true := by decide +kernel

/-- A BYE is unexpected in SEARCH (R64): the nineteenth counter of the link group counts. -/
theorem test_bye_in_search :
    after (.bye 1) (linked .search site) (fun t => t.lc.link == .search && t.cb.live.link[18]? == some 1) = true := by
  decide +kernel

/-- SITE in UP with two messages in the transmit queue. -/
def queued : State := (linked .up site).modMC fun mc => { mc with queue := [.shiftAck 1, .shiftAck 2] }

/-- Messages placed count as sent at the composition (R43); an entry to SEARCH at that boundary withdraws them, and the
counters then stand as if the entry had been taken first (R54). -/
theorem test_entry_withdraws_the_area :
    after (.frameBoundary 0) queued (fun t =>
      channelCount .messagesSent t == some 2 && channelCount .withdrawn t == some 0 &&
        after (.bye 1) t fun u =>
          channelCount .messagesSent u == some 0 && channelCount .withdrawn u == some 2 &&
            (openBoundary queued).mp.frame == u.mp.frame &&
            after (.bye 1) (openBoundary queued) fun v => after (.frameBoundary 0) v fun w =>
              w.mp.tx == u.mp.tx && w.cb.live.channel == u.cb.live.channel) = true := by
  decide +kernel

/-- A capture after a composition at one boundary copies the messages it counted as sent (R177). -/
theorem test_capture_after_composition :
    let s := queued.modCB fun cb => { cb with pending := some true, captureDue := .next }
    after (.frameBoundary 0) s (fun t => after .snapshotCapture t fun u =>
      u.cb.snapshot.channel[0]? == some 2 && channelCount .messagesSent u == some 0 &&
        channelCount .messagesSent (openBoundary u) == some 0) = true := by
  decide +kernel

/-- "Example: a BYE received at the SITE" (03): TIME_RESP, BYE, STATUS in one area, a STATUS queued and a TIME_REQ held. -/
theorem test_bye_example :
    let ms : List LinkMessage := [.timeResp 0 0 0 0 0 1, .bye 0, .status 0 0 (PerTenant.const 0) 0]
    let s := (linked .up site).modMC fun mc =>
      { mc with timeHolder := some (.timeReq 1), queue := [ms.getLast?.getD (.bye 0)],
                inbox := ms.zipIdx.map fun x => ⟨x.1, 0, 65535, x.2 == 0⟩ }
    after (.timeResp 0 0 0 0 0 1) s (fun t => after (.bye 0) t fun u =>
      channelCount .messagesReceived u == some 2 && channelCount .notDispatched u == some 1 &&
        channelCount .withdrawn u == some 2 && u.lc.link == .search && u.mc.inbox == [] &&
        u.mc.repeatHolder == some (.hello 0 5 0)) = true := by
  decide +kernel

/-- A HELLO of the part's own role in SEARCH is a role clash, reported once (R65). -/
theorem test_hello_role_clash :
    after (.hello 0 9 0) (linked .search site) (fun t =>
      t.lc.roleClash && t.cp.reports.length == 2 && t.cb.live.link[13]? == some 1) = true := by decide +kernel

/-- A HUB that holds lock accepts a JOIN (R67): plan 0 is pending and the JOIN_ACK queued. -/
theorem test_join_accepted :
    after (.join 9 36 4 3 2 0) ((linked .search hub).modSF fun sf => { sf with locked := true }) (fun t =>
      t.ps.pending.isSome && t.mc.queue == [.joinAck 5 36]) = true := by decide +kernel

/-- A HUB refuses a SHIFT above its host maximum with reason 3 (R77). -/
theorem test_shift_above_host_maximum :
    after (.shift 1 4 0 0 0 0 0 0 0 0 0 32)
      (planned 0 0 ((linked .up hub).modLC fun lc => { lc with hostMax := 3 })) (fun t =>
        t.mc.queue == [.shiftNak 1 3] && t.ps.pending.isNone) = true := by decide +kernel

/-- The time counter carries into the seconds (R124), and FREE_RUN drives no pulse (R141). -/
theorem test_rollover :
    after (.secondsRollover 1000000001) site (fun t => t.tm.time == ⟨1, 1⟩ && !t.tm.pps) = true := by decide +kernel

/-- A packet of 63 bytes is a length error (R95); one of 64 bytes at a CLOSED tenant is an admission drop. -/
theorem test_packet_checks :
    after (.packetArrival .t1 (List.replicate 63 0)) site (fun t => t.cb.live.tenants.t1 == [0, 0, 1, 0, 0, 0, 0, 0, 0]) =
        true ∧
      after (.packetArrival .t1 (List.replicate 64 0)) site (fun t =>
        t.cb.live.tenants.t1 == [0, 1, 0, 0, 0, 0, 0, 0, 0]) = true := by decide +kernel

/-- TENANT_OPEN opens a CLOSED tenant (R87), and its second TENANT_OPEN is refused with STATE. -/
theorem test_tenantOpen :
    after (.tenantOpen 2) (handing 0x21 [2] site) (fun t =>
      (tenantRec t .t2).state == .active &&
        after (.tenantOpen 2) (handing 0x21 [2] t) (fun u => u.cp.service == .replying (lineFrame 0xA1 7 [3]))) =
      true := by decide +kernel

/-- TENANT_CONFIG with a fill code below 0x10 is refused with BAD_ARG (R86). -/
theorem test_tenantConfig_fill :
    after (.tenantConfig 1 4 8 30 64 4 0x0F 0) (handing 0x20 [1, 4, 8, 30, 0, 64, 4, 0x0F, 0] site) (fun t =>
      t.cp.service == .replying (lineFrame 0xA0 7 [4])) = true := by decide +kernel

/-- PART_INFO answers family 0x3A, revision 0x01, SITE, 115,200 bit/s and no identity (R173). -/
theorem test_partInfo :
    after .partInfo (handing 0x01 [] site) (fun t =>
      t.cp.service == .replying (lineFrame 0x81 7 [0, 0x3A, 0x01, 0, 0, 0, 0, 0, 0, 0, 0, 0, 0, 0])) = true := by
  decide +kernel

/-- REPORTS_FETCH after reset hands out the RESET_DONE report (R171, R174): one report, nothing lost, none left. -/
theorem test_reportsFetch :
    after .reportsFetch (handing 0x03 [] site) (fun t =>
      t.cp.reports.isEmpty &&
        t.cp.service == .replying (lineFrame 0x83 7 [0, 1, 0, 0, 1, 0, 0, 0, 0, 0, 0, 0, 0, 0, 0, 0])) = true := by
  decide +kernel

/-- COUNTERS_READ before any snapshot is refused with STATE, and selector 0 with BAD_ARG (R179). -/
theorem test_countersRead :
    after (.countersRead 5) (handing 0x51 [5] site) (fun t => t.cp.service == .replying (lineFrame 0xD1 7 [3])) = true ∧
      after (.countersRead 0) (handing 0x51 [0] site) (fun t => t.cp.service == .replying (lineFrame 0xD1 7 [4])) =
        true := by decide +kernel

/-- A LOOP test in OFF sets the loopback switch (R149, R150). -/
theorem test_testStart_loop :
    after (.testStart 0 0 11 1 0 0) (handing 0x40 [0, 0, 11, 1, 0, 0, 0, 0, 0, 0, 0, 0] site) (fun t =>
      t.mp.loopSwitch && t.st.state == .running && t.st.run == some .free) = true := by decide +kernel

/-- A frame boundary numbers the next frame, records its start and mutes it in OFF (R1, R17, R126). -/
theorem test_frameBoundary :
    after (.frameBoundary 500000) site (fun t =>
      t.mp.frame == 1 && t.tm.current == ⟨1, ⟨0, 500000⟩, 0⟩ && t.mp.tx.mute && t.mp.tx.positions.length == 12) =
      true := by decide +kernel

/-- Four characters of a line frame are not yet a frame; the whole frame is served (R164). -/
theorem test_controlFrame :
    after (.controlFrameReceived (lineFrame 0x01 7 [])) site (fun t =>
      t.cp.service == .handed && t.cp.buffer == [⟨0x01, 7, []⟩]) = true ∧
      after (.controlGapTimeout ((lineFrame 0x01 7 []).take 4)) site (fun t =>
        t.cp.receiver == .outside && t.cb.live.control[1]? == some 1) = true := by decide +kernel

/-! ### Witnesses: states and operands that meet the hypotheses of the statements, clause by clause -/

theorem wit_StepRunsTheFrontCommand : site.pending = [] := rfl

theorem wit_ResetsLeaveTheResetState :
    (site.modCP fun cp => { cp with resetDue := true }).cp.resetDue = true ∧
      answeringReset ((handing 0x02 [] site).modCP fun cp => { cp with service := .replying [] }).cp = true :=
  ⟨rfl, by decide⟩

theorem wit_BoundaryStepOpensItsBoundary :
    let s := site.modMP fun mp => { mp with loopDue := .next }
    let due := fun s : State => s.mp.loopDue == .now
    dueAt .loopbackSwitchEffect = some due ∧ due s = false ∧ s.mp.composed = true ∧ due (openBoundary s) = true ∧
      due site = false ∧ ¬ (site.mp.composed = true ∧ due (openBoundary site) = true) := by
  refine ⟨rfl, ?_⟩; decide

theorem wit_FrameBoundaryComposesTheFrame :
    (atComposition 0 site).ps.active.wellFormed = true ∧ (atComposition 0 site).mc.abortArea = false ∧
      (atComposition 0 ((site.modMC fun mc => { mc with abortArea := true }).modMP fun mp =>
        { mp with composed := false })).mc.abortArea = true := by decide +kernel

theorem wit_HeaderAndMessagesReadBack :
    (⟨65535, 5, true, 255, PerTenant.const ⟨true, true, true, true⟩⟩ : Header).profile ≤ 5 := by decide

theorem wit_ReceivedFrameIsTaken :
    (⟨false, 400, []⟩ : ModemFrame).wf = false ∧ (⟨true, 0, []⟩ : ModemFrame).wf = true ∧
      (site.modMP fun mp => { mp with rxTaken := false }).mp.rxTaken = false ∧ site.mp.loopDue ≠ .now ∧
      site.mp.rxTaken = true ∧ site.mp.composed = true := by decide

/-- HUB in UP, with frame lock held; its frame of the boundary under way not yet taken. -/
def receiving : State :=
  ((linked .up hub).modSF fun sf => { sf with locked := true }).modMP fun mp => { mp with rxTaken := false }

/-- The frame that a reset leaves at the far end, in the idle plan. -/
def idleFrame : ModemFrame := ⟨false, 300, TxFrame.afterReset.positions⟩

/-- SITE in SHIFT under plan 0, with plan 1 pending for the frame under way, not confirmed. -/
def adopting : State :=
  ((planned 0 0 (linked .shift site)).modMP fun mp => { mp with rxTaken := false }).modPS fun ps =>
    { ps with pending := some ⟨⟨1, 0, 0, PerTenant.const 0, false⟩, 0, PerTenant.const 0, false, .no⟩ }

/-- A good header of plan 1. -/
def header1 : Header := ⟨9, 0, false, 1, PerTenant.const ⟨true, true, true, true⟩⟩

theorem wit_ReceivedFrameReachesItsOwners :
    -- without a good header, and with one and its decoding plan
    ((⟨true, 0, []⟩ : ModemFrame).wf = true ∧ receiving.mp.rxTaken = false ∧
      (receivedHeader (passedFrame ⟨true, 0, []⟩ (atReception receiving)) == none) = true) ∧
    (idleFrame.wf = true ∧
      (receivedHeader (passedFrame idleFrame (atReception receiving))).any
        (fun h => (decodingPlan (lockTaken idleFrame receiving).ps h).isSome) = true) ∧
    (adopts .site adopting.ps header1 = true ∧ decodingPlan site.ps header1 = none) ∧
    ((tenantRec receiving .t1).state = .closed ∧ (tenantRec (tenantAs .t1 (fun t => { t with state := .active }) receiving)
      .t1).state ≠ .closed) := by
  refine ⟨by decide +kernel, by decide +kernel, by decide +kernel, by decide⟩

theorem wit_TenantStreamReadsBack :
    0x10 ≤ (0x10 : Byte).toNat ∧ freshQueue [⟨64, 0, List.replicate 64 0x10⟩, ⟨2048, 0, List.replicate 2048 7⟩] ∧
      (fillPositions 0x10 1 [⟨64, 0, List.replicate 64 0x10⟩]).queue = [] := by
  refine ⟨by decide, ?_, by decide +kernel⟩
  intro p h
  simp only [List.mem_cons, List.not_mem_nil, or_false] at h
  rcases h with rfl | rfl <;> decide +kernel

theorem wit_FrameLockFollowsItsTable :
    (⟨false, 1, 0, none, false⟩ : SF).goodRun + 1 < 3 ∧ 3 ≤ (⟨false, 2, 0, none, false⟩ : SF).goodRun + 1 ∧
      (⟨true, 3, 2, none, true⟩ : SF).missRun + 1 < 4 ∧ 4 ≤ (⟨true, 3, 3, none, true⟩ : SF).missRun + 1 := by decide

theorem wit_DuePlansBecomeActive :
    (site.modMP fun mp => { mp with loopDue := .now, loopSwitch := true }).mp.loopDue = .now ∧
      (site.modMP fun mp => { mp with loopDue := .now, loopSwitch := true }).mp.loopSwitch = true ∧
      site.mp.loopSwitch = false ∧ site.ps.idleDue ≠ .now ∧
      (site.modPS fun ps => { ps with fallbackDue := .now }).ps.fallbackDue = .now ∧
      (planned 3 2 site).ps.active ≠ (planned 3 2 site).ps.fallback ∧ site.ps.active = site.ps.fallback ∧
      (site.modPS fun ps => { ps with idleDue := .now }).ps.idleDue = .now := by decide

theorem wit_AreaReadsBack : (1 : Nat) ≤ 1 ∧ (1 : Nat) ≤ 2 ∧ (2 : Nat) ≤ 2 := by decide

theorem wit_SevenOnesAbort :
    ((⟨.message 8 (List.replicate 542 true), 6, [], []⟩ : Assembler).ones = 6 ∧
      (List.replicate 542 true).length ≤ 542 ∧ 542 < (List.replicate 543 true).length) ∧
    ((⟨.hunt, 6, [], []⟩ : Assembler).mode = .hunt ∧ (⟨.hunt, 6, [], []⟩ : Assembler).ones = 6 ∧
      ¬ (true = false ∧ (⟨.hunt, 6, [], []⟩ : Assembler).ones = 6)) := by decide +kernel

/-- SITE in a link state, with frame lock held for two frames. -/
def lockedSite (l : LinkState) : State :=
  (linked l site).modSF fun sf => { sf with locked := true, lockedBefore := true }

/-- HUB in a link state, with frame lock held. -/
def lockedHub (l : LinkState) : State := (linked l hub).modSF fun sf => { sf with locked := true }

theorem wit_JoiningFollowsItsSteps :
    (comesNext (.hello 1 9 5) (lockedSite .search) ∧ (lockedSite .search).lc.role = .site ∧
      (lockedSite .search).lc.link = .search ∧ roleOf 1 = .hub ∧
      identityPasses (lockedSite .search).lc.identity 9 5 = true ∧ (lockedSite .search).sf.locked = true ∧
      (lockedSite .search).sf.lockedBefore = true ∧ (lockedSite .search).lc.stop = none ∧
      (lockedSite .search).lc.kept = [] ∧ (lockedSite .search).mc.queue.length < 8) ∧
    (comesNext (.join 9 4 ⟨11, 0, 0, 0⟩) (lockedHub .search) ∧ (lockedHub .search).lc.role = .hub ∧
      (lockedHub .search).lc.link = .search ∧ peerAdmits (lockedHub .search).lc.identity 9 = true ∧
      (lockedHub .search).sf.locked = true ∧ 4 ≤ framesAhead 4 (lockedHub .search).mp.frame ∧
      framesAhead 32767 (lockedHub .search).mp.frame ≤ 32767 ∧
      (⟨11, 0, 0, 0⟩ : PerTenant Nat).toList.all (· ≤ 63) = true ∧ 1 + (⟨11, 0, 0, 0⟩ : PerTenant Nat).sum ≤ 12 ∧
      (lockedHub .search).lc.stop = none ∧ (lockedHub .search).ps.active.flagged = true) ∧
    (let j : JoinRecord := ⟨1, ⟨4, 3, 2, 2⟩⟩;
      let s := (lockedSite .join).modLC fun lc => { lc with joinRecord := some j }
      comesNext (.joinAck 9 j.effective) s ∧ s.lc.role = .site ∧ s.lc.link = .join ∧ s.lc.stop = none ∧
        s.lc.partner = some 9 ∧ s.lc.joinRecord = some j ∧ isAhead j.effective s.mp.frame = true ∧
        s.ps.pending = none ∧ countsWellFormed j.counts = true ∧ s.ps.active.flagged = true) := by
  refine ⟨⟨.inl rfl, ?_⟩, ⟨.inl rfl, ?_⟩, .inl rfl, ?_⟩ <;> decide

/-- A SHIFT as a HUB under plan 0 at profile 0 receives it. -/
def shiftOf (number profile n1 : Byte) : LinkMessage := .shift number profile 0 ⟨n1, 0, 0, 0⟩ ⟨0, 0, 0, 0⟩ 4

/-- SITE in SHIFT with plan 1 proposed for a frame and pending, not confirmed. -/
def proposed (effective : FrameNo) : State :=
  ((lockedSite .shift).modLC fun lc => { lc with proposal := some ⟨1, effective, false⟩ }).modPS fun ps =>
    { ps with pending := some ⟨⟨1, 0, 0, PerTenant.const 0, false⟩, effective, PerTenant.const 0, false, .no⟩ }

theorem wit_ShiftIsAnsweredAndConfirmed :
    (let s := planned 0 0 (lockedHub .up)
    comesNext (shiftOf 1 0 11) s ∧ s.lc.role = .hub ∧ inPair s.lc.link = true ∧ s.lc.stop = none ∧ s.lc.kept = [] ∧
      s.mc.queue.length < 8 ∧
      -- accepted at the edges: plan 1 after 0, four frames ahead, all twelve positions, the host maximum itself
      (1 : Byte) = s.ps.active.number + 1 ∧ 4 ≤ framesAhead 4 s.mp.frame ∧ framesAhead 4 s.mp.frame ≤ 32767 ∧
      (⟨1, 0, 0, ⟨11, 0, 0, 0⟩, false⟩ : Plan).wellFormed = true ∧ countsWellFormed (PerTenant.const 0) = true ∧
      (5 : Byte).toNat ≤ s.lc.hostMax ∧
      -- refused, one reason each: plan number, late, malformed, profile
      ¬ (s.ps.active.flagged = true ∨ (2 : Byte) = s.ps.active.number + 1) ∧ ¬ (4 ≤ framesAhead 3 s.mp.frame) ∧
      ¬ ((⟨1, 0, 0, ⟨12, 0, 0, 0⟩, false⟩ : Plan).wellFormed = true) ∧
      (s.modLC fun lc => { lc with hostMax := 4 }).lc.hostMax < (5 : Byte).toNat) ∧
    (comesNext (.shiftAck 1) (proposed 4) ∧ (proposed 4).lc.role = .site ∧ (proposed 4).lc.link = .shift ∧
      (proposed 4).lc.stop = none ∧ (proposed 4).lc.proposal = some ⟨1, 4, false⟩ ∧
      isAtOrAfter ((4 : FrameNo) - 4) (proposed 4).mp.frame = true ∧
      (proposed 4).ps.pending = some ⟨⟨1, 0, 0, PerTenant.const 0, false⟩, 4, PerTenant.const 0, false, .no⟩) ∧
    (comesNext (.shiftAck 1) (proposed 3) ∧ (proposed 3).lc.proposal = some ⟨1, 3, false⟩ ∧
      isAtOrAfter ((3 : FrameNo) - 4) (proposed 3).mp.frame = false) := by
  refine ⟨⟨.inl rfl, ?_⟩, ⟨.inl rfl, ?_⟩, .inl rfl, ?_⟩ <;> decide

theorem wit_FailedShiftsAreResolved :
    (comesNext (.shiftNak 1 3) (proposed 4) ∧ (proposed 4).lc.role = .site ∧ (proposed 4).lc.link = .shift ∧
      (proposed 4).lc.stop = none ∧ (proposed 4).lc.proposal = some ⟨1, 4, false⟩) ∧
    (let s := proposed (0 - 16);
      s.ps.pending = some ⟨⟨1, 0, 0, PerTenant.const 0, false⟩, 0 - 16, PerTenant.const 0, false, .no⟩ ∧
        s.lc.role = .site ∧ s.mp.rxTaken = true ∧ s.mp.frame = frameAdd (0 - 16) 16 ∧ s.lc.link ≠ .up ∧
        s.lc.proposal = some ⟨1, 0 - 16, false⟩ ∧ s.lc.link = .shift ∧ s.lc.stop = none) ∧
    (let s := (proposed (0 - 16)).modLC fun lc => { lc with proposal := none, link := .lost };
      s.lc.proposal = none ∧ s.lc.link ≠ .up) := by
  refine ⟨⟨.inl rfl, ?_⟩, ?_, ?_⟩ <;> decide

/-- A message at the head of two that wait. -/
def headed (m : LinkMessage) (s : State) : State :=
  s.modMC fun mc => { mc with inbox := [⟨m, 0, 0, false⟩, ⟨.shiftAck 1, 0, 0, false⟩] }

theorem wit_ByeEntersSearch :
    (comesNext (.bye 1) (lockedSite .up) ∧ comesNext (.bye 1) (headed (.bye 1) (lockedSite .up))) ∧
      (lockedSite .up).lc.link = .up ∧ (lockedSite .up).lc.stop = none ∧
      (lockedSite .up).cp.reports.length < 32 ∧ site.lc.link = .off ∧
      ((lockedSite .up).modLC fun lc => { lc with stop := some ⟨3, 0, false⟩ }).lc.stop ≠ none := by
  refine ⟨⟨.inl rfl, .inr rfl⟩, ?_⟩; decide

theorem wit_TimeMessagesMakeTheExchange :
    (comesNext (.timeReq 0) hub ∧ hub.lc.role = .hub) ∧
    (offerDue ((lockedSite .up).modTM fun tm => { tm with firstOffer := .now }) = true ∧
      offerDue ((lockedSite .shift).modTM fun tm => { tm with nextOffer := some 0 }) = true) ∧
    (let x : Exchange := ⟨41, 0, 0, 7⟩;
      let s := site.modTM fun tm =>
        { tm with outstanding := some x, before := ⟨16, ⟨0, 131600⟩, 7⟩, current := ⟨16, ⟨0, 131600⟩, 7⟩,
                  window := List.replicate 6 (0, 0) };
      goodAnswer x 66450 66450 7 1 s ∧ s.tm.window.length < 7) := by
  refine ⟨⟨.inl rfl, rfl⟩, ⟨by decide, by decide⟩, ⟨.inl rfl, ?_⟩, ?_⟩ <;> decide +kernel

/-- SITE with seven exchanges in the window, each with the offset −20,001, and the eighth outstanding. -/
def eighth (state : TimingState) : State :=
  site.modTM fun tm =>
    { tm with state := state, outstanding := some ⟨41, 0, 0, 7⟩, before := ⟨16, ⟨0, 200000⟩, 7⟩,
              current := ⟨16, ⟨0, 200000⟩, 7⟩, window := List.replicate 7 (-20001, 200000) }

theorem wit_LargeOffsetStepsTheCounter :
    (∀ state : TimingState,
      goodAnswer ⟨41, 0, 0, 7⟩ 79999 79999 7 1 (eighth state) ∧ (eighth state).tm.window.length = 7) ∧
    (eighth .acquire).tm.state = .acquire ∧
    20000 < (selectOffset ((eighth .acquire).tm.window ++ [(-20001, 200000)])).natAbs ∧
    (eighth .locked).tm.state = .locked ∧ (eighth .holdover).tm.state = .holdover ∧
    (⟨0, 999999999⟩ : Time).nanos < 1000000000 ∧ (0 : Int) ≤ (timeNumber ⟨0, 5⟩ : Int) + (-5) ∧
    (timeNumber ⟨4294967295, 999999998⟩ : Int) + 1 < 4294967296000000000 := by
  refine ⟨fun state => ⟨⟨.inl rfl, ?_⟩, rfl⟩, ?_⟩
  · cases state <;> decide +kernel
  · decide +kernel

/-- SITE in a timing state. -/
def timed (state : TimingState) : State := site.modTM fun tm => { tm with state := state }

theorem wit_UpdatesSteerAndLock :
    (let c := (TM.afterReset .site).config;
      c.steerMin ≤ c.steerMax ∧ (-2047 : Int) ≤ -2047 ∧ (2047 : Int) ≤ 2047 ∧
      (c.steerMin : Int) ≤ (servo c 0 0).raw ∧ (servo c 0 0).raw ≤ c.steerMax ∧
      (servo c (-8388608) 0).raw < c.steerMin ∧ (c.steerMax : Int) < (servo c 8388607 0).raw ∧
      (((servo c 0 100).e.natAbs : Int) ≤ c.lockWindow ∧ (c.lockWindow : Int) < (servo c 0 101).e.natAbs) ∧
      (((servo c 0 400).e.natAbs : Int) ≤ 4 * c.lockWindow ∧ 4 * (c.lockWindow : Int) < (servo c 0 401).e.natAbs)) ∧
    ((timed .acquire).tm.state = .acquire ∧
      3 ≤ ((timed .acquire).modTM fun tm => { tm with goodRun := 3 }).tm.goodRun ∧
      ((timed .acquire).modTM fun tm => { tm with goodRun := 2 }).tm.goodRun < 3 ∧
      (timed .locked).tm.state = .locked ∧ (timed .locked).tm.largeRun = 0 ∧
      1 ≤ ((timed .locked).modTM fun tm => { tm with largeRun := 1 }).tm.largeRun ∧
      (timed .holdover).tm.state = .holdover) ∧
    (∀ state : TimingState,
      goodAnswer ⟨41, 0, 0, 7⟩ 79999 79999 7 1 (eighth state) ∧ (eighth state).tm.window.length = 7) ∧
    ¬ ((eighth .locked).tm.state = .acquire) := by
  refine ⟨by decide +kernel, by decide, fun state => ⟨⟨.inl rfl, ?_⟩, rfl⟩, by decide⟩
  cases state <;> decide +kernel

/-- A responder context in CHECK mode. -/
def checked : Responder := ⟨.far, .check, 4, 10, 245760, 3⟩

theorem wit_TestControlIsAnswered :
    comesNext (.testCtl 1 1 0 4) site ∧ testBusy site.st = false ∧ site.st.kept = [] ∧ site.mc.queue.length < 8 ∧
      testBusy (site.modST fun st => { st with state := .running }).st = true ∧ (0 : Byte) ≠ 1 ∧
      site.st.responder = none ∧ (site.modST fun st => { st with responder := some checked }).st.responder =
        some checked ∧ checked.mode = .check := by
  refine ⟨.inl rfl, ?_⟩; decide

/-- SITE in UP under plan 0 with a FAR test of T = 4 in a state. -/
def farTest (state : TestState) : State :=
  (planned 0 0 (lockedSite .up)).modST fun st =>
    { st with kind := some .far, mode := some .check, test := some 4, run := some (.count 10), allowed := some 0,
              state := state, deadline := some 0 }

theorem wit_TestAckIsTaken :
    (comesNext (.testAck 1 1 0 0 0) (farTest .arming) ∧ (farTest .arming).st.state = .arming ∧ (1 : Byte) ≠ 0 ∧
      roomFails (allocInput (farTest .arming)) (min 0 (ceiling (farTest .arming))) 4 = false) ∧
    (comesNext (.testAck 1 1 0 0 0) ((farTest .arming).modLC fun lc => { lc with link := .shift }) ∧
      lcFree ((farTest .arming).modLC fun lc => { lc with link := .shift }) = false) ∧
    (comesNext (.testAck 1 0 0 0 0) (farTest .arming) ∧ clearOfPlans (farTest .arming).ps = true ∧
      (farTest .arming).st.kind ≠ some .loop ∧ (farTest .arming).st.kept = [] ∧
      (farTest .arming).mc.queue.length < 8) ∧
    (let s := (farTest .stopping).modST fun st => { st with awaiting := true };
      comesNext (.testAck 0 1 0 0 0) s ∧ comesNext (.testAck 0 0 0 0 0) s ∧ s.st.awaiting = true ∧
        s.st.state = .stopping ∧ clearOfPlans s.ps = true ∧
        clearOfPlans (s.modPS fun ps => { ps with active := { ps.active with test := 4 } }).ps = false) ∧
    (comesNext (.testAck 1 0 0 0 0) site ∧ comesNext (.testAck 0 0 0 0 0) site ∧ comesNext (.testAck 2 0 0 0 0) site ∧
      site.mc.inbox = [] ∧ ¬ ((1 : Byte) = 1 ∧ site.st.state = .arming) ∧
      ¬ ((0 : Byte) = 0 ∧ site.st.awaiting = true)) := by
  refine ⟨⟨.inl rfl, ?_⟩, ⟨.inl rfl, ?_⟩, ⟨.inl rfl, ?_⟩, ⟨.inl rfl, .inl rfl, ?_⟩, .inl rfl, .inl rfl, .inl rfl, ?_⟩ <;>
    decide

/-- SITE in SHIFT with a confirmed plan 1 pending for the frame under way. -/
def confirmed : State := confirmPending (proposed 0)

/-- The same plan marked for adoption at the boundary under way. -/
def marked : State :=
  (proposed 0).modPS fun ps => { ps with pending := ps.pending.map fun p => { p with mark := .now } }

theorem wit_PendingPlanBecomesActive :
    (confirmed.ps.pending = some ⟨⟨1, 0, 0, PerTenant.const 0, false⟩, 0, PerTenant.const 0, true, .no⟩ ∧
      (0 : FrameNo) = confirmed.mp.frame ∧ confirmed.lc.link = .shift ∧ confirmed.lc.stop = none) ∧
    marked.ps.pending = some ⟨⟨1, 0, 0, PerTenant.const 0, false⟩, 0, PerTenant.const 0, false, .now⟩ := by decide

theorem wit_TimeoutsAndRestartsEnterSearch :
    (let s := (lockedSite .join).modLC fun lc => { lc with joinRecord := some ⟨0, PerTenant.const 0⟩ };
      s.lc.stop = none ∧ s.lc.link = .join ∧ s.ps.pending = none ∧
        s.lc.joinRecord = some ⟨0, PerTenant.const 0⟩ ∧ (0 : FrameNo) = s.mp.frame) ∧
    (let s := (lockedHub .lost).modLC fun lc => { lc with lostCount := some 4000 };
      s.lc.stop = none ∧ s.lc.link = .lost ∧ s.lc.lostCount = some 4000 ∧ (4000 : Nat) ≤ 4000) ∧
    (comesNext (.hello 0 9 5) (lockedHub .up) ∧ comesNext (.hello 0 9 5) (headed (.hello 0 9 5) (lockedHub .up)) ∧
      comesNext (.join 9 0 (PerTenant.const 0)) (lockedHub .up) ∧
      comesNext (.join 9 0 (PerTenant.const 0)) (headed (.join 9 0 (PerTenant.const 0)) (lockedHub .up))) ∧
    (inService (lockedHub .up).lc.link = true ∧ (lockedHub .up).lc.stop = none ∧
      roleOf 0 ≠ (lockedHub .up).lc.role ∧ identityPasses (lockedHub .up).lc.identity 9 5 = true ∧
      identityPasses (lockedHub .up).lc.identity 9 6 = false ∧ roleOf 1 = (lockedHub .up).lc.role ∧
      (lockedHub .up).lc.role = .hub ∧ (lockedHub .up).lc.partner = some 9 ∧
      ¬ ((lockedHub .up).lc.role = .hub ∧ (lockedHub .up).lc.partner = some 10) ∧
      ¬ ((lockedSite .up).lc.role = .hub ∧ (lockedSite .up).lc.partner = some 9)) := by
  refine ⟨?_, ?_, ⟨.inl rfl, .inr rfl, .inl rfl, .inr rfl⟩, ?_⟩ <;> decide

/-- SITE in UP with the Link Controller free and a waiting trigger. -/
def waiting : State := (lockedSite .up).modCA fun ca => { ca with waiting := true }

/-- SITE in UP at profile 0 whose figures call for a rise. -/
def rising : State :=
  (planned 0 0 (lockedSite .up)).modLC fun lc =>
    { lc with riseDue := true, history := List.replicate 16 110, farFast := 110, farSlow := 110, sinceChange := 2000 }

theorem wit_WaitingTriggersAllocate :
    ((waiting.modLC fun lc => { lc with retryEnd := some 0 }).lc.retryEnd =
        some (waiting.modLC fun lc => { lc with retryEnd := some 0 }).mp.frame ∧
      (waiting.modLC fun lc => { lc with freeNotice := .now }).lc.freeNotice = .now ∧ hub.lc.role = .hub ∧
      waiting.lc.role = .site ∧ waiting.ca.waiting = true ∧ lcFree waiting = true ∧
      roomFails (allocInput waiting) (min (standingTarget waiting) (ceiling waiting)) waiting.st.reqTest = false ∧
      site.ca.waiting = false ∧ lcFree site = false) ∧
    (rising.lc.riseDue = true ∧ rising.mp.rxTaken = true ∧ riseCalled rising = true ∧
      roomFails (allocInput rising) (min (rising.ps.active.profile + 1) (ceiling rising)) rising.st.reqTest = false ∧
      riseCalled (rising.modLC fun lc => { lc with sinceChange := 1999 }) = false) := by decide

theorem wit_StopEndsInOff :
    (let s := (lockedSite .up).modLC fun lc => { lc with stop := some ⟨0, 1, true⟩ };
      s.lc.stop = some ⟨0, 1, true⟩ ∧ (⟨0, 1, true⟩ : Stop).offDue = true) ∧
    ((site.modMC fun mc => { mc with restart := .now }).mc.restart = .now ∧ site.lc.offReport = none ∧
      (site.modLC fun lc => { lc with offReport := some (.up, 1) }).lc.offReport = some (.up, 1) ∧
      site.cp.reports.length < 32) := by decide

theorem wit_StatusAndKeptMessagesAreOffered :
    (let s := (lockedSite .up).modLC fun lc => { lc with statusDue := true };
      s.lc.statusDue = true ∧ inPair s.lc.link = true ∧ s.lc.stop = none ∧ s.mp.rxTaken = true ∧ s.lc.kept = [] ∧
        s.mc.queue.length < 8 ∧ s.mc.queue.any isStatus = false) ∧
    (comesNext (.status 65535 400 ⟨63, 64, 0, 255⟩ 0x0F) (lockedSite .shift) ∧
      inPair (lockedSite .shift).lc.link = true ∧ (lockedSite .shift).lc.stop = none) ∧
    (let lc := (site.modLC fun lc => { lc with kept := [⟨.shiftAck 1, false⟩], retryDue := true }).modMC fun mc =>
      { mc with queue := List.replicate 7 (.shiftAck 0) }
    let st := site.modST fun st => { st with kept := List.replicate 8 ⟨.testAck 0 0 0 0 0, false⟩, retryDue := true }
    (keptOf .linkController lc ≠ [] ∧ lc.lc.retryDue = true ∧
      (∀ k ∈ keptOf .linkController lc, k.fresh = false ∧ isStatus k.message = false) ∧
      lc.mc.queue.length + (keptOf .linkController lc).length ≤ 8) ∧
    (keptOf .selfTest st ≠ [] ∧ st.st.retryDue = true ∧
      (∀ k ∈ keptOf .selfTest st, k.fresh = false ∧ isStatus k.message = false) ∧
      st.mc.queue.length + (keptOf .selfTest st).length ≤ 8)) ∧
    (let s := site.modLC fun lc => { lc with kept := [⟨.shiftAck 1, true⟩] };
      keptOf .linkController s = [⟨.shiftAck 1, true⟩] ∧ s.mp.composed = true) := by
  refine ⟨?_, ⟨.inl rfl, ?_⟩, ?_, ?_⟩ <;> decide

theorem wit_DemandWindowCloses :
    (site.modCA fun ca => { ca with windowDue := true }).ca.windowDue = true ∧ hub.lc.role = .hub := by decide

/-- SITE under a regular plan that gives tenant 1 a position, with tenant 1 ACTIVE. -/
def oneTenant : State :=
  tenantAs .t1 (fun t => { t with state := .active })
    (site.modPS fun ps => { ps with active := ⟨0, 0, 0, ⟨1, 0, 0, 0⟩, false⟩ })

theorem wit_TenantQueuesFillAndDrain :
    (¬ (64 ≤ (List.replicate 63 (0 : Byte)).length ∧ (List.replicate 63 (0 : Byte)).length ≤ 2048)) ∧
    ((64 ≤ (List.replicate 64 (0 : Byte)).length ∧ (List.replicate 64 (0 : Byte)).length ≤ 2048) ∧
      (tenantRec site .t1).state ≠ .active ∧ (tenantRec oneTenant .t1).state = .active ∧
      occupancy (tenantRec oneTenant .t1) + 8 ≤ allowance oneTenant.ps.active .t1 (tenantRec oneTenant .t1) ∧
      8 ≤ unreservedFree oneTenant.tn + (tenantRec oneTenant .t1).ready.getD 0 ∧
      (2048 + 255) / 256 = 8) ∧
    (let s := tenantAs .t3 (fun t => { t with state := .draining, drain := some ⟨0 - 4000, false⟩ }) site;
      (tenantRec s .t3).state = .draining ∧ (tenantRec s .t3).drain = some ⟨0 - 4000, false⟩ ∧
        s.mp.frame = frameAdd (0 - 4000) 4000) := by decide +kernel

theorem wit_LostExchangesAndExpiry :
    (let s := site.modTM fun tm => { tm with outstanding := some ⟨0, 0 - 17, 0, 0⟩ };
      s.tm.outstanding = some ⟨0, 0 - 17, 0, 0⟩ ∧ s.mp.frame = frameAdd (0 - 17) 17 ∧
        ¬ (s.tm.state = .locked ∧ s.tm.lostRun = 7)) ∧
    ((site.modTM fun tm => { tm with state := .locked, lostRun := 7 }).tm.state = .locked ∧
      (site.modTM fun tm => { tm with state := .locked, lostRun := 7 }).tm.lostRun = 7) ∧
    (let s := site.modTM fun tm => { tm with state := .holdover, holdoverTimer := some 7200000 };
      s.tm.state = .holdover ∧ s.tm.expired = false ∧ s.tm.holdoverTimer = some 7200000 ∧
        s.tm.config.holdoverLimit * 120000 ≤ 7200000) := by decide +kernel

theorem wit_TimingEventsAreJudged :
    site.lc.role = .site ∧
    (let s := hub.modTM fun tm => { tm with pulse := some ⟨some 9, 2200⟩ };
      s.lc.role = .hub ∧ s.tm.pulse = some ⟨some 9, 2200⟩ ∧ (some 9 : Option (BitVec 32)) = some (10 - 1) ∧
        (some 9 : Option (BitVec 32)) ≠ some (11 - 1) ∧ s.tm.state ≠ .reference ∧ 2200 ≤ 2200 ∧ 2200 < 2201) ∧
    (let s := hub.modTM fun tm => { tm with state := .reference, pulse := some ⟨some 9, 2200⟩ };
      s.tm.state = .reference ∧ s.tm.pulse = some ⟨some 9, 2200⟩ ∧ 2200 ≤ 2200) ∧
    1000000000 ≤ site.tm.time.nanos + 1000000000 ∧ (⟨0, 999999999⟩ : Time).nanos < 1000000000 := by decide +kernel

theorem wit_TestDeadlinesEndTheTest :
    (farTest .arming).st.deadline = some (farTest .arming).mp.frame ∧ (farTest .arming).st.state = .arming ∧
      (farTest .starting).st.state = .starting ∧ clearOfPlans (farTest .starting).ps = true ∧
      ((farTest .running).modST fun st => { st with kind := some .sweep }).st.state = .running ∧
      ((farTest .running).modST fun st => { st with kind := some .sweep }).st.kind = some .sweep ∧
      ((farTest .stopping).modST fun st => { st with awaiting := true }).st.awaiting = true ∧
      (farTest .stopping).st.state = .stopping ∧ clearOfPlans (farTest .stopping).ps = true := by decide

/-- SITE in UP with a sweep whose stage `p` has run since frame −2,051. -/
def stage (p : Nat) : State :=
  (lockedSite .up).modST fun st =>
    { st with kind := some .sweep, state := .running, stagesComplete := p, stageActive := some (p, 0 - 2051) }

theorem wit_SweepStageCompletes :
    ((stage 2).st.kind = some .sweep ∧ (stage 2).st.state = .running ∧
      (stage 2).st.stageActive = some ((stage 2).st.stagesComplete, 0 - 2051) ∧
      (stage 2).mp.frame = frameAdd (0 - 2051) 2051 ∧ guaranteeSum (allocInput (stage 2)) = 0 ∧
      (stage 2).st.stagesComplete < 5 ∧ (stage 2).st.stagesComplete + 1 ≤ ceiling (stage 2)) ∧
    (5 ≤ (stage 5).st.stagesComplete ∧ ceiling (stage 3) < (stage 3).st.stagesComplete + 1 ∧
      lcFree ((stage 3).modLC fun lc => { lc with link := .shift }) = false) := by decide

theorem wit_SnapshotIsCaptured :
    handsOver 0x50 [1] 7 (handing 0x50 [1] site) ∧
    (let s := ((handing 0x50 [1] site).modCP fun cp => { cp with service := .capturing }).modCB fun cb =>
        { cb with pending := some true, captureDue := .now };
      s.cb.captureDue = .now ∧ s.cb.pending = some true ∧ s.cp.service = .capturing ∧
        s.cp.buffer = [⟨0x50, 7, [1]⟩]) := by
  refine ⟨⟨rfl, rfl⟩, ?_⟩; decide

theorem wit_ControlLineIsReceived :
    (site.cp.receiver = .outside ∧ site.cp.resetDue = false ∧ (List.replicate 250 (0 : Byte)).length ≤ 250 ∧
      site.cp.buffer.length < 2 ∧ site.cp.service = .idle ∧ site.cp.buffer = [] ∧
      requestLength 0x13 = some [(0 : Byte)].length ∧ (handing 0x01 [] site).cp.service ≠ .idle ∧
      (handing 0x01 [] site).cp.buffer.length < 2) ∧
    2 ≤ (site.modCP fun cp => { cp with buffer := [⟨0x01, 7, []⟩, ⟨0x01, 8, []⟩] }).cp.buffer.length ∧
    (site.cp.resetDue = false ∧ site.cp.receiver = .outside ∧
      (site.modCP fun cp => { cp with receiver := .inside [] }).cp.receiver = .inside []) := by decide +kernel

theorem wit_ReplyEndsTheRequest :
    let two := fun (r q : Request) => site.modCP fun cp => { cp with buffer := [r, q], service := .replying [] }
    ((two ⟨0x02, 7, []⟩ ⟨0x01, 8, []⟩).cp.service = .replying [] ∧
      (two ⟨0x02, 7, []⟩ ⟨0x01, 8, []⟩).cp.buffer = [⟨0x02, 7, []⟩, ⟨0x01, 8, []⟩]) ∧
    ¬ ((0x02 : Byte) = 0x02 ∧ [(0 : Byte)] = []) ∧
    (requestLength 0x01 = some 0 ∧ requestLength 0x7F = none ∧
      requestLength 0x13 = some 1 ∧ 1 ≠ ([] : List Byte).length) ∧
    handsOver 0x02 [] 7 (handing 0x02 [] site) := by
  refine ⟨?_, ?_, ?_, rfl, rfl⟩ <;> decide

theorem wit_RequestIsHandedOver :
    requestOf .timeRead = some (0x33, []) ∧ site.cp.service = .idle ∧ site.cp.buffer = [] ∧
      site.cp.resetDue = false ∧ (handing 0x01 [] site).cp.buffer = [⟨0x01, 7, []⟩] ∧ (0x01 : Byte) ≠ 0x33 := by
  refine ⟨rfl, ?_⟩; decide

theorem wit_ReadRequestsChangeNothing :
    (handsOver 0x01 [] 7 (handing 0x01 [] site) ∧ handsOver 0x14 [] 7 (handing 0x14 [] site) ∧
      handsOver 0x15 [] 7 (handing 0x15 [] site) ∧ handsOver 0x29 [] 7 (handing 0x29 [] site) ∧
      handsOver 0x32 [] 7 (handing 0x32 [] site) ∧ handsOver 0x42 [] 7 (handing 0x42 [] site)) ∧
    (handsOver 0x24 [4] 7 (handing 0x24 [4] site) ∧ (4 : Byte).toNat = Tenant.t4.number ∧
      handsOver 0x24 [5] 7 (handing 0x24 [5] site) ∧ 4 < (5 : Byte).toNat ∧ (0 : Byte).toNat = 0) ∧
    (handsOver 0x51 [9] 7 (handing 0x51 [9] site) ∧ 9 < (10 : Byte).toNat ∧ 1 ≤ (1 : Byte).toNat ∧
      (9 : Byte).toNat ≤ 9 ∧ site.cb.valid = false ∧ groupOf (9 : Byte).toNat site.cb.snapshot =
        some (List.replicate 10 0) ∧
      (site.modCB fun cb => { cb with valid := true, capture := some (0, true) }).cb.valid = true ∧
      (site.modCB fun cb => { cb with valid := true, capture := some (0, true) }).cb.capture = some (0, true)) := by
  refine ⟨⟨⟨rfl, rfl⟩, ⟨rfl, rfl⟩, ⟨rfl, rfl⟩, ⟨rfl, rfl⟩, ⟨rfl, rfl⟩, ⟨rfl, rfl⟩⟩,
    ⟨⟨rfl, rfl⟩, rfl, ⟨rfl, rfl⟩, ?_⟩, ⟨rfl, rfl⟩, ?_⟩ <;> decide

theorem wit_TimeReadGivesTheFrameStart : handsOver 0x33 [] 7 (handing 0x33 [] hub) := ⟨rfl, rfl⟩

theorem wit_ReportsAndAttention :
    handsOver 0x03 [] 7 (handing 0x03 [] site) ∧ handsOver 0x04 [0] 7 (handing 0x04 [0] site) :=
  ⟨⟨rfl, rfl⟩, rfl, rfl⟩

theorem wit_LinkRequestsStoreStartAndStop :
    (handsOver 0x10 (enc32 (5 : SiteId).toNat ++ enc32 (0 : SiteId).toNat) 7
        (handing 0x10 (enc32 (5 : SiteId).toNat ++ enc32 (0 : SiteId).toNat) site) ∧
      site.lc.identity = none ∧ (linked .off site).lc.identity ≠ none) ∧
    handsOver 0x11 [6, 51, 7, 3] 7 (handing 0x11 [6, 51, 7, 3] site) ∧
    (handsOver 0x13 [1] 7 (handing 0x13 [1] site) ∧ site.lc.link = .off ∧ (linked .up site).lc.link ≠ .off ∧
      (linked .up site).lc.stop = none ∧
      ((linked .up site).modLC fun lc => { lc with stop := some ⟨3, 0, false⟩ }).lc.stop ≠ none) ∧
    (handsOver 0x12 [] 7 (handing 0x12 [] (linked .off site)) ∧
      ((linked .up site).lc.link ≠ .off ∧ site.lc.identity = none ∧
        (site.modST fun st => { st with kind := some .loop, state := .stopping }).st.kind = some .loop ∧
        (site.modST fun st => { st with kind := some .loop, state := .stopping }).st.state = .stopping) ∧
      ((linked .off site).lc.link = .off ∧ (linked .off site).lc.identity ≠ none ∧
        ¬ ((linked .off site).st.kind = some .loop ∧
          ((linked .off site).st.state = .running ∨ (linked .off site).st.state = .stopping)))) := by
  refine ⟨⟨⟨rfl, rfl⟩, ?_⟩, ⟨rfl, rfl⟩, ⟨⟨rfl, rfl⟩, ?_⟩, ⟨rfl, rfl⟩, ?_, ?_⟩ <;> decide

theorem wit_AllocationSettingsAreStored :
    (let body : List Byte := [1, 11, 1, 11] ++ enc16 (64 : BitVec 16).toNat ++ [4, 0x10, 1];
      handsOver 0x20 body 7 (handing 0x20 body site) ∧ (1 : Byte).toNat = Tenant.t1.number ∧
        (10 : Nat) < 11 ∧ (0x0F : Byte).toNat < 0x10 ∧ (11 : Nat) ≤ 11 ∧ 0x10 ≤ (0x10 : Byte).toNat ∧
        (tenantRec oneTenant .t1).state ≠ .closed ∧ (tenantRec oneTenant .t1).state ≠ .draining ∧
        (tenantRec site .t1).state = .closed ∧ committedOthers oneTenant.tn .t1 + 11 ≤ 11 ∧
        11 < committedOthers (tenantAs .t2 (fun t =>
          { t with state := .active, config := { t.config with committed := 1 } }) oneTenant).tn .t1 + 11 ∧
        site.lc.role = .site) ∧
    (∀ number : Byte,
      let body : List Byte := [number, 11, 1, 11] ++ enc16 (64 : BitVec 16).toNat ++ [4, 0x10, 1];
      handsOver 0x20 body 7 (handing 0x20 body site)) ∧
    ((0 : Byte).toNat = 0 ∧ 4 < (5 : Byte).toNat) ∧
    (handsOver 0x28 [1, 63, 64, 0, 255] 7 (handing 0x28 [1, 63, 64, 0, 255] hub) ∧ hub.lc.role = .hub) := by
  refine ⟨⟨⟨rfl, rfl⟩, ?_⟩, fun _ => ⟨rfl, rfl⟩, ?_, ⟨rfl, rfl⟩, rfl⟩ <;> decide

theorem wit_TenantOpensDrainsAndFlushes :
    (∀ kind number : Byte, handsOver kind [number] 7 (handing kind [number] site)) ∧
      ((0 : Byte).toNat = 0 ∧ 4 < (5 : Byte).toNat) ∧ (4 : Byte).toNat = Tenant.t4.number ∧ handsOver 0x21 [4] 7 (handing 0x21 [4] site) ∧
      handsOver 0x22 [1] 7 (handing 0x22 [1] oneTenant) ∧ handsOver 0x23 [1] 7 (handing 0x23 [1] oneTenant) ∧
      (tenantRec oneTenant .t1).state ≠ .closed ∧ (tenantRec site .t4).state = .closed ∧
      (tenantRec oneTenant .t1).state = .active ∧ (tenantRec site .t1).state ≠ .active ∧
      committedOthers site.tn .t4 + (tenantRec (tenantAs .t4 (fun t =>
        { t with config := { t.config with committed := 11 } }) site) .t4).config.committed ≤ 11 ∧
      11 < committedOthers (tenantAs .t2 (fun t =>
        { t with state := .active, config := { t.config with committed := 1 } }) site).tn .t4 + 11 := by
  refine ⟨fun _ _ => ⟨rfl, rfl⟩, by decide, rfl, ⟨rfl, rfl⟩, ⟨rfl, rfl⟩, ⟨rfl, rfl⟩, ?_⟩; decide

theorem wit_AllocatedCountsFit :
    (∀ n : Tenant, 1 ≤ (surge.configs.get n).weight) ∧ guaranteeSum surge ≤ 9 ∧ surge.classes.get .t4 = .none := by
  refine ⟨fun n => ?_, ?_⟩
  · cases n <;> decide
  · decide

theorem wit_TimingRequestsStoreAndRestart :
    (let body : List Byte := [40, 4] ++ enc16 (0 : BitVec 16).toNat ++ enc16 (2048 : BitVec 16).toNat ++
        enc16 (2048 : BitVec 16).toNat ++ enc16 (100 : BitVec 16).toNat ++ [60] ++ enc16 (250 : BitVec 16).toNat ++
        enc32 (200000 : BitVec 32).toNat;
      handsOver 0x30 body 7 (handing 0x30 body site)) ∧
    ((timingInRange 40 4 1 0 0 100 60 250 200000).steerMax < (timingInRange 40 4 1 0 0 100 60 250 200000).steerMin ∧
      (timingInRange 40 4 0 2048 2048 100 60 250 200000).steerMin ≤
        (timingInRange 40 4 0 2048 2048 100 60 250 200000).centre ∧
      (timingInRange 40 4 0 2048 2048 100 60 250 200000).centre ≤
        (timingInRange 40 4 0 2048 2048 100 60 250 200000).steerMax ∧
      hub.lc.role = .hub ∧ site.lc.role = .site ∧ 0 ≤ site.tm.steer ∧ site.tm.steer ≤ 2048) ∧
    (handsOver 0x31 [] 7 (handing 0x31 [] site) ∧ 3 < (planned 0 4 site).ps.active.profile ∧
      (planned 0 3 site).ps.active.profile ≤ 3 ∧
      ((planned 0 3 site).ps.pending.any fun p => 3 < p.plan.profile) = false) := by
  refine ⟨⟨rfl, rfl⟩, ?_, ⟨rfl, rfl⟩, ?_⟩ <;> decide

theorem wit_TestStartIsJudged :
    (let body : List Byte := [0, 0, 11, 0] ++ enc32 (1 : BitVec 32).toNat ++ enc32 (0 : BitVec 32).toNat;
      handsOver 0x40 body 7 (handing 0x40 body site)) ∧
    (testBusy (farTest .running).st = true ∧ testBusy site.st = false ∧ 2 < (3 : Byte).toNat ∧ site.lc.link = .off ∧
      1 ≤ (1 : Byte).toNat ∧ (11 : Byte).toNat ≤ 11 ∧ site.mp.loopback = false) ∧
    ((lockedSite .up).lc.role = .site ∧ (lockedSite .up).lc.link = .up ∧
      farRoom (lockedSite .up) < (12 : Byte).toNat ∧ (11 : Byte).toNat ≤ farRoom (lockedSite .up) ∧
      (lockedSite .up).st.kept = [] ∧ (lockedSite .up).mc.queue.length < 8 ∧
      ((lockedSite .up).tn.tenants.toList.all fun r => r.state == .closed) = true) := by
  refine ⟨⟨rfl, rfl⟩, ?_, ?_⟩ <;> decide

theorem wit_TestStopEndsTheTest :
    handsOver 0x41 [] 7 (handing 0x41 [] site) ∧ site.st.state = .idle ∧ (farTest .done).st.state = .done ∧
      (farTest .stopping).st.state = .stopping ∧ testLive (farTest .running).st = true ∧
      (farTest .running).st.run = some (.count 10) ∧ (farTest .running).mp.loopDue ≠ .now ∧
      ((farTest .running).modST fun st => { st with kind := some .loop }).st.kind = some .loop ∧
      -- a COUNT run, a FREE run and a sweep, awaiting the stop answer and not
      ((farTest .running).st.run ≠ some .free ∧
        ((farTest .running).modST fun st => { st with run := some .free }).st.run = some .free ∧
        ((farTest .running).st.kind = some .far ∧ (farTest .running).st.mode = some .check ∧
          (farTest .running).st.state = .running) ∧ (farTest .arming).st.state ≠ .running ∧
        testLive (farTest .arming).st = true ∧ clearOfPlans (farTest .running).ps = true ∧
        ((farTest .running).modST fun st => { st with kind := some .sweep }).st.kind = some .sweep ∧
        (farTest .running).st.kept = [] ∧ (farTest .running).mc.queue.length < 8) := by
  refine ⟨⟨rfl, rfl⟩, ?_⟩; decide

/-- A state that the laws hold in and from which a step answers a next state, for the statements of what every step
keeps. -/
def ready : State := { site with pending := [.partInfo] }

theorem wit_steps :
    lawReports ready = true ∧ lawSteer ready = true ∧ centreInRange ready = true ∧ lawPulse ready = true ∧
      lawErrors ready = true ∧ lawBuffer ready = true ∧ creditsCovered ready = true ∧ lawCommitted ready = true ∧
      lawHold ready = true ∧ lawPlans ready = true ∧ loopReady ready = true ∧ lawClosed ready = true ∧
      closedKeptOut ready = true ∧ lawProfile ready = true ∧ profileReady ready = true ∧ lawTest ready = true ∧
      testInStep ready = true ∧ lawNumber ready = true ∧ loopAlone ready = true ∧
      (match step ready with
       | .next _ => true
       | _ => false) = true := by decide

theorem wit_OnlyAResetChangesTheStraps :
    (∀ role rate, Instr.partInfo ≠ .powerOnReset role rate) ∧ (∀ role rate, Instr.partInfo ≠ .enterReset role rate) ∧
      (linked .up site).lc.identity = some ⟨5, 0⟩ ∧ ∃ t, exec .partInfo (linked .up site) = .next t := by
  refine ⟨?_, ?_, rfl, _, rfl⟩ <;> intro _ _ h <;> cases h

end Sys2Proof.Tests
end

/-! PROOF. The step of the time counter that an eighth exchange can bring (R134, R135), and TIME_READ (R145). -/

namespace Sys2Proof.Machine

/-! ### Moving the time counter (R135) -/

/-- A time built from a number of nanoseconds within the counter's range reads back as that number. -/
theorem timeNumber_ofNat {n : Nat} (h : n < 4294967296000000000) :
    timeNumber ⟨BitVec.ofNat 32 (n / second), n % second⟩ = n := by
  simp only [timeNumber, second, BitVec.toNat_ofNat]
  omega

/-- A move leaves the nanoseconds below a second. -/
theorem moveTime_nanos_lt (offset : Int) (time : Time) : (moveTime offset time).nanos < 1000000000 :=
  Nat.mod_lt _ (by decide)

/-- A move adds to the counter as one number, modulo the counter's range. -/
theorem timeNumber_moveTime (offset : Int) (time : Time) :
    (timeNumber (moveTime offset time) : Int) = (timeNumber time + offset) % 4294967296000000000 := by
  have hrange : ((4294967296 * second : Nat) : Int) = 4294967296000000000 := rfl
  unfold moveTime
  rw [hrange, timeNumber_ofNat] <;> omega

/-- A move that stays within the counter's range adds to it exactly. -/
theorem timeNumber_moveTime_of_inRange {offset : Int} {time : Time} (h0 : 0 ≤ (timeNumber time : Int) + offset)
    (h1 : (timeNumber time : Int) + offset < 4294967296000000000) :
    (timeNumber (moveTime offset time) : Int) = timeNumber time + offset :=
  (timeNumber_moveTime offset time).trans (Int.emod_eq_of_lt h0 h1)

/-! ### The counter of steps

Its index in the timing group is 7 (the table of section 7.9). -/

/-- Counting another event of the timing group leaves the count of steps as it is. -/
@[simp] theorem countTiming_steps_of_ne {c : TimingCounter} (h : c ≠ .steps) (s : State) :
    (countTiming c s).cb.live.timing[7]? = s.cb.live.timing[7]? := by
  have hidx : c.ctorIdx ≠ 7 := by
    cases c with
    | steps => exact absurd rfl h
    | _ => decide
  simp [countTiming, bumpAt, hidx]

/-- Putting an update into effect counts a freeze at most. -/
@[simp] theorem applyServo_steps (v : Servo) (recorded : Bool) (s : State) :
    (applyServo v recorded s).cb.live.timing[7]? = s.cb.live.timing[7]? := by
  unfold applyServo
  split <;> simp

/-- An update that is not a step counts none, whatever it brings. -/
theorem servoUpdate_steps (offset : Int) (s : State) :
    (servoUpdate offset s).cb.live.timing[7]? = s.cb.live.timing[7]? := by
  unfold servoUpdate
  dsimp only
  split
  case h_1 hacquire =>
    split
    · split <;> simp
    · simp
  case h_2 hlocked =>
    split
    · simp
    · split <;> simp
  case h_3 hholdover => split <;> simp
  case h_4 => simp

/-! ### The eighth exchange (R133 to R135) -/

/-- The state once an accepted exchange has joined the window (R133, R134); `answerExchange_accepted` ties it to the
model. -/
def exchangeJoined (offset delay : Int) (s : State) : State :=
  countTiming .accepted (s.modTM fun tm =>
    { tm with outstanding := none, lostRun := 0, lastOffset := some offset, lastDelay := some delay,
              window := tm.window ++ [(offset, delay)] })

/-- A traceable answer in time to the outstanding exchange at SITE is taken (R132). -/
theorem takeTimeResponse_answered {x : Exchange} {s : State} (hrole : s.lc.role = .site)
    (hout : s.tm.outstanding = some x) (hnear : framesAhead (arrivalRecord s).frame x.frame ≤ 16) (t2 t3 : Nat)
    (p2 p3 : PlanNo) :
    takeTimeResponse x.sequence t2 t3 p2 p3 true s = answerExchange x t2 t3 p2 p3 (arrivalRecord s) s := by
  simp [takeTimeResponse, hrole, hout, hnear]

/-- An answered exchange under one plan number with a delay in range joins the window, and the eighth runs the update
(R133, R134). -/
theorem answerExchange_accepted {x : Exchange} {t2 t3 : Nat} {p2 p3 : PlanNo} {b : FrameStart} {s : State}
    (hplans : plansDiffer x.p1 p2 p3 b.plan = false) (hpos : 0 ≤ exchangeDelay x.t1 t2 t3 (timeNumber b.time))
    (hmax : exchangeDelay x.t1 t2 t3 (timeNumber b.time) ≤ s.tm.config.delayMax) :
    let u := exchangeJoined (exchangeOffset x.t1 t2 t3 (timeNumber b.time))
      (exchangeDelay x.t1 t2 t3 (timeNumber b.time)) s
    answerExchange x t2 t3 p2 p3 b s = if 8 ≤ u.tm.window.length then windowUpdate u else u := by
  have hrange := not_or.2 ⟨Int.not_lt.2 hpos, Int.not_lt.2 hmax⟩
  exact (if_neg (ne_true_of_eq_false hplans)).trans (if_neg hrange)

/-- The good answer that makes the window eight runs the update on it; the dispatch adds to that only what becomes of the
waiting messages and the counts of the message channel. -/
theorem exec_timeResp_eighth {x : Exchange} {t2 t3 : BitVec 64} {plan traceable : Byte} {s : State}
    (h : goodAnswer x t2 t3 plan traceable s) (h7 : s.tm.window.length = 7) :
    let t4 := timeNumber (arrivalRecord s).time
    ∃ rest left counted, exec (.timeResp x.sequence t2 t3 plan plan traceable) s =
      .next (settleInbox left counted (windowUpdate (exchangeJoined (exchangeOffset x.t1 t2.toNat t3.toNat t4)
        (exchangeDelay x.t1 t2.toNat t3.toNat t4) (takenUp rest s)))) := by
  intro t4
  obtain ⟨hnext, hrole, hout, htrace, hnear, hp1, hp4, hpos, hmax⟩ := h
  obtain ⟨rest, left, counted, hdispatch⟩ := dispatchMessage_once
    (takeTimeResponse x.sequence t2.toNat t3.toNat plan plan (traceable != 0)) hnext
  refine ⟨rest, left, counted, congrArg Host.Outcome.next (hdispatch.trans ?_)⟩
  have hplans : plansDiffer x.p1 plan plan (arrivalRecord s).plan = false := by simp [plansDiffer, hp1, hp4]
  have htaken := takeTimeResponse_answered (s := takenUp rest s) hrole hout hnear t2.toNat t3.toNat plan plan
  have heighth : 8 ≤ ((takenUp rest s).tm.window ++ [(exchangeOffset x.t1 t2.toNat t3.toNat t4,
      exchangeDelay x.t1 t2.toNat t3.toNat t4)]).length := by simp [h7]
  rw [bne_iff_ne.2 htrace, htaken]
  exact congrArg (settleInbox left counted)
    ((answerExchange_accepted (s := takenUp rest s) hplans hpos hmax).trans (if_pos heighth))

/-- In ACQUIRE a selected offset above 20,000 ns is a step on the emptied window. -/
theorem windowUpdate_of_large {s : State} (hacq : s.tm.state = .acquire)
    (hlarge : 20000 < (selectOffset s.tm.window).natAbs) :
    windowUpdate s = timeStep (selectOffset s.tm.window) (s.modTM fun tm => { tm with window := [] }) :=
  if_pos ⟨hacq, hlarge⟩

/-- Outside ACQUIRE an update runs the servo, which neither moves the time counter nor counts a step. -/
theorem windowUpdate_of_not_acquire {s : State} (h : s.tm.state ≠ .acquire) :
    (windowUpdate s).tm.time = s.tm.time ∧ (windowUpdate s).cb.live.timing[7]? = s.cb.live.timing[7]? := by
  have hservo : windowUpdate s = servoUpdate (selectOffset s.tm.window) (s.modTM fun tm => { tm with window := [] }) :=
    if_neg fun hstep => h hstep.1
  rw [hservo, servoUpdate_steps]
  simp

/-- Settles O19: the eighth good answer runs the update on the whole window, which is the step in ACQUIRE for a large
offset and the servo outside ACQUIRE; a move is one addition on the counter's number. -/
theorem largeOffsetStepsTheCounter : Obligations.LargeOffsetStepsTheCounter := by
  unfold Obligations.LargeOffsetStepsTheCounter
  refine ⟨fun x t2 t3 plan traceable s => ?_, fun offset time _ =>
    ⟨moveTime_nanos_lt offset time, timeNumber_moveTime_of_inRange⟩⟩
  intro t4 delay offset θ hgood h7
  obtain ⟨rest, left, counted, hexec⟩ := exec_timeResp_eighth hgood h7
  let joined := exchangeJoined offset delay (takenUp rest s)
  refine ⟨settleInbox left counted (windowUpdate joined), hexec, fun hacq hlarge => ?_, fun hstate => ?_⟩
  · rw [windowUpdate_of_large (s := joined) hacq hlarge]
    refine ⟨rfl, rfl, rfl, rfl, (forall_part _).2 ?_⟩
    simp [Part.same, joined, exchangeJoined]
  · have hne : s.tm.state ≠ .acquire := by rcases hstate with h | h <;> simp [h]
    obtain ⟨htime, hsteps⟩ := windowUpdate_of_not_acquire (s := joined) hne
    exact ⟨htime, hsteps.trans (countTiming_steps_of_ne (by decide) _)⟩

/-- Settles O39: the owner answers with the frame-start record and leaves its own state alone. -/
theorem timeReadGivesTheFrameStart : Obligations.TimeReadGivesTheFrameStart := by
  intro tag s h
  have hexec : exec .timeRead s = .next (setService (.replying (replyFrame ⟨0x33, tag, []⟩ .ok (timeReadContent s)))
      (countControl .requestsServed s)) :=
    congrArg Host.Outcome.next (takeRequest_handed h _)
  exact ⟨_, hexec, onlyAnswered_setService _ s, replies_setService .., rfl⟩

end Sys2Proof.Machine

/-! PROOF. What any step can do, said once: every command but the two resets is a path of elementary changes, each under the
conditions in which the model makes it. The laws of the device are then kept by each change, and so by every step. -/

namespace Sys2Proof.Machine

set_option Elab.async false

/-! ### The elementary changes -/

/-- The link's part of a change of the Link Controller: no plan is left pending in OFF, OFF is left with no LOOP test running,
JOIN is entered with a JOIN record that gives no CLOSED tenant a count, and a stored identity stands. -/
structure LinkMove (s : State) (l : LC) : Prop where
  role : l.role = s.lc.role
  toOff : l.link = .off → s.lc.link = .off ∨ s.ps.pending = none
  fromOff : s.lc.link = .off → l.link = .off ∨ ¬ (s.st.kind = some .loop ∧ s.st.state = .running)
  join : l.link = .join → (s.lc.link = .join ∧ l.joinRecord = s.lc.joinRecord) ∨
    ∀ j, l.joinRecord = some j → ∀ t, (tenantRec s t).state = .closed → j.counts.get t = 0
  identity : ∀ me, s.lc.identity = some me → l.identity = some me

/-- The timing state is one in which the time is disciplined (R73, R143). -/
def disciplined (tm : TM) : Prop := tm.state = .locked ∨ tm.state = .holdover

/-- The active and the pending profile are at most 3. -/
def lowProfiles (s : State) : Prop := s.ps.active.profile ≤ 3 ∧ ∀ p, s.ps.pending = some p → p.plan.profile ≤ 3

/-- A code that the Timing Unit sets under a configuration: brought into its range, or its centre. -/
def SteeredBy (c : TimingConfig) (code : Nat) : Prop := code = c.centre ∨ ∃ x, code = steerClamp c x

/-- The values of TIMING_CONFIG agree (R142). -/
structure ConfigAgrees (c : TimingConfig) : Prop where
  low : c.steerMin ≤ c.centre
  high : c.centre ≤ c.steerMax
  top : c.steerMax ≤ 4095

/-- The Timing Unit's part of a change: the code stands or is steered under the configuration, which stands or agrees; the pulse
is driven only where it may be; and the disciplined states are left only with low profiles. -/
structure TimingMove (s : State) (m : TM) : Prop where
  steer : (m.config = s.tm.config ∧ (m.steer = s.tm.steer ∨ SteeredBy m.config m.steer)) ∨
    (ConfigAgrees m.config ∧ SteeredBy m.config m.steer)
  pulse : m.pps = true → (s.lc.role = .site ∧ pulsing m = true) ∨ (s.tm.pps = true ∧ (pulsing s.tm = true → pulsing m = true))
  discipline : s.lc.role = .site → disciplined s.tm → disciplined m ∨ lowProfiles s

/-- The parts of the test record that the plans depend on stand. -/
structure TestStands (a b : ST) : Prop where
  kind : b.kind = a.kind
  test : b.test = a.test
  state : b.state = a.state
  reqTest : b.reqTest = a.reqTest
  reqProfile : b.reqProfile = a.reqProfile
  stageWanted : b.stageWanted = a.stageWanted
  stageActive : b.stageActive = a.stageActive
  errors : a.errored ≤ a.bits → b.errored ≤ b.bits

/-- A test record as TEST_START arms it: nothing requested or counted yet. -/
structure Armed (b : ST) : Prop where
  state : b.state = .arming
  reqTest : b.reqTest = 0
  errored : b.errored = 0
  kind : b.kind = some .far ∨ (b.kind = some .sweep ∧ b.stageWanted = 0 ∧ b.stageActive = none)

/-- A change of the Plan Store that brings no plan: the pending plan may go, the fallback plan may become the idle plan. -/
structure PlansStand (a b : PS) : Prop where
  active : b.active = a.active
  pending : ∀ q, b.pending = some q → ∃ p, a.pending = some p ∧ q.plan = p.plan ∧ q.carried = p.carried
  fallback : b.fallback = a.fallback ∨ b.fallback = Plan.flaggedIdle

/-- A plan that the Plan Store accepts (R23), as its offerers build it: beside the checks of R23, in no link state OFF; without
positions for CLOSED tenants, or with the JOIN record's counts at SITE in JOIN; at SITE with a profile that the timing state
allows, and with TEST positions only as the test record requests them. -/
structure Installable (p : Pending) (s : State) : Prop where
  plan : p.plan.wellFormed = true
  carried : countsWellFormed p.carried = true
  number : s.ps.active.flagged = true ∨ p.plan.number = s.ps.active.number + 1
  link : s.lc.link ≠ .off
  closed : (∀ t, (tenantRec s t).state = .closed → p.plan.counts.get t = 0 ∧ p.carried.get t = 0) ∨
    (s.lc.role = .site ∧ s.lc.link = .join ∧ ∃ j, s.lc.joinRecord = some j ∧ p.plan.counts = j.counts ∧ p.carried = j.counts)
  profile : s.lc.role = .site → disciplined s.tm ∨ p.plan.profile ≤ 3
  test : s.lc.role = .site → p.plan.test = 0 ∨
    (p.plan.test = s.st.reqTest ∧ (sweepBusy s.st = true → ∀ q, s.st.reqProfile = some q → p.plan.profile ≤ q))

/-- The records of the Tenant Unit stand in what the laws read: state, configuration, queue, hold flag and credit. -/
structure TenantsStand (a b : TN) : Prop where
  free : b.free = a.free
  record : ∀ t, (b.tenants.get t).state = (a.tenants.get t).state ∧ (b.tenants.get t).config = (a.tenants.get t).config ∧
    (b.tenants.get t).queue = (a.tenants.get t).queue ∧ (b.tenants.get t).hold = (a.tenants.get t).hold ∧
    (b.tenants.get t).ready = (a.tenants.get t).ready

/-- The state once the end of a test is recorded (R155 to R157, R160): `stopTest` less the TEST_CTL STOP and the question
whether the test is done (`stopTest_eq_tryDone`). -/
def testStopped (verdict : Option TestOutcome) (await : Bool) (s : State) : State :=
  let t := s.modST fun st =>
    { st with state := .stopping, verdict := verdict, reqTest := 0,
              reqProfile := if s.st.kind == some .sweep then some 0 else none,
              deadline := if await then some (frameAdd s.mp.frame 64) else none, awaiting := await,
              commissioned := if s.st.kind == some .sweep then ceilingFromStages st else st.commissioned,
              saved := if s.st.kind == some .sweep then none else st.saved }
  if s.st.kind == some .loop then setLoopSwitch false t else t

/-- A packet that passed the checks of R95 joins its queue and takes its blocks. -/
def packetJoins (tenant : Tenant) (packet : List Byte) (s : State) : State :=
  modTenant tenant (fun t =>
    { t with queue := t.queue ++ [⟨packet.length, 0, packet⟩],
             ready := t.ready.map fun c => c - min c (blocksFor packet.length) })
    (s.modTN fun tn => { tn with free := tn.free - blocksFor packet.length })

/-- The elementary changes of the model, each with what holds where the model makes it. A change of the active plan is apart
(`Change.activate`). -/
inductive Basic : State → State → Prop where
  | sf (f : SF → SF) (s) : Basic s (s.modSF f)
  | mc (f : MC → MC) (s) : Basic s (s.modMC f)
  | ca (f : CA → CA) (s) : Basic s (s.modCA f)
  | cb (f : CB → CB) (s) : Basic s (s.modCB f)
  | cp (f : CP → CP) (s) (h : (f s.cp).reports.length ≤ max s.cp.reports.length 32)
      (hrate : (f s.cp).rate = s.cp.rate := by rfl) : Basic s (s.modCP f)
  | mp (f : MP → MP) (s) (h : (f s.mp).loopSwitch = s.mp.loopSwitch) : Basic s (s.modMP f)
  | lc (f : LC → LC) (s) (h : LinkMove s (f s.lc)) : Basic s (s.modLC f)
  | tm (f : TM → TM) (s) (h : TimingMove s (f s.tm)) : Basic s (s.modTM f)
  | plans (f : PS → PS) (s) (h : PlansStand s.ps (f s.ps)) : Basic s (s.modPS f)
  | install (p : Pending) (s) (h : Installable p s) : Basic s (s.modPS fun ps => { ps with pending := some p })
  | test (f : ST → ST) (s) (h : TestStands s.st (f s.st)) : Basic s (s.modST f)
  | arm (f : ST → ST) (s) (hidle : testBusy s.st = false) (h : Armed (f s.st)) : Basic s (s.modST f)
  | loopStart (test : Nat) (run : TestRun) (allowed : Nat) (s) (hidle : testBusy s.st = false) (hlink : s.lc.link = .off)
      (htest : test ≤ 11) : Basic s (startLoop test run allowed s)
  | start (s) (h : s.st.state = .arming) : Basic s (startTest s)
  | run (f : ST → ST) (s) (hkind : s.st.kind ≠ some .loop) (hk : (f s.st).kind = s.st.kind)
      (hrun : (f s.st).state = .running) (herr : (f s.st).errored = s.st.errored ∧ (f s.st).bits = s.st.bits) :
      Basic s (s.modST f)
  | stop (verdict : Option TestOutcome) (await : Bool) (s) : Basic s (testStopped verdict await s)
  | done (f : ST → ST) (s) (h : s.st.state = .stopping) (hclear : clearOfPlans s.ps = true)
      (hdone : (f s.st).state = .done) (hreq : (f s.st).reqTest = 0)
      (herr : (f s.st).errored = s.st.errored ∧ (f s.st).bits = s.st.bits) : Basic s (s.modST f)
  | tenants (f : TN → TN) (s) (h : TenantsStand s.tn (f s.tn)) : Basic s (s.modTN f)
  | refresh (s) : Basic s (refreshTenants s)
  | drain (t : Tenant) (d : Option Drain) (s) (h : (tenantRec s t).state = .active) :
      Basic s (modTenant t (fun r => { r with state := .draining, drain := d }) s)
  | close (t : Tenant) (s) (h : closeCondition s t = true) :
      Basic s (modTenant t (fun r => { r with state := .closed, drain := none, reassembly := .hunt }) s)
  | enlist (t : Tenant) (c : Nat) (s) (h : (tenantRec s t).state = .closed) (hc : c ≤ 11 - committedOthers s.tn t) :
      Basic s (modTenant t (fun r => { r with state := .active, config := { r.config with committed := c } }) s)
  | configure (t : Tenant) (c : TenantConfig) (s)
      (h : (tenantRec s t).state = .closed ∨ committedOthers s.tn t + c.committed ≤ 11) :
      Basic s (refreshTenants (modTenant t (fun r => { r with config := c, ready := none }) s))
  | enqueue (t : Tenant) (packet : List Byte) (s)
      (h : blocksFor packet.length ≤ unreservedFree s.tn + (tenantRec s t).ready.getD 0) (hlen : 0 < packet.length) :
      Basic s (refreshTenants (packetJoins t packet s))
  | unqueue (t : Tenant) (q : List QPacket) (n : Nat) (s)
      (h : (q.map packetBlocks).sum + n = occupancy (tenantRec s t)) :
      Basic s (modTenant t (fun r => { r with queue := q }) (s.modTN fun tn => { tn with free := tn.free + n }))

/-- The Plan Store in which another plan has become active: the pending plan (R25, R27, R30), the fallback plan (R31), the idle
plan (R22), or with the local loopback switch the loop plan (R35). -/
inductive Activation (s : State) : PS → Prop where
  | pending (p : Pending) (b : PS) (h : s.ps.pending = some p) (hactive : b.active = p.plan) (hpending : b.pending = none)
      (hfallback : b.fallback = fallbackPlan p.plan.number p.carried) : Activation s b
  | fallback (b : PS) (hactive : b.active = s.ps.fallback) (hpending : b.pending = s.ps.pending)
      (hfallback : b.fallback = s.ps.fallback) : Activation s b
  | idle (b : PS) (hactive : b.active = Plan.flaggedIdle) (hpending : b.pending = s.ps.pending)
      (hfallback : b.fallback = Plan.flaggedIdle) : Activation s b
  | loop (b : PS) (hswitch : s.mp.loopSwitch = true) (hactive : b.active = loopPlan (s.st.test.getD 0))
      (hpending : b.pending = s.ps.pending) (hfallback : b.fallback = s.ps.fallback) : Activation s b

/-- One change: an elementary one, or a change of the active plan with what the Tenant Unit and the Self-Test Unit do on it
(R26). -/
inductive Change : State → State → Prop where
  | basic {s t : State} (h : Basic s t) : Change s t
  | activate (f : PS → PS) (s) (h : Activation s (f s.ps)) :
      Change s (testPlanChange s.ps.active (closeEval (s.modPS f)))

/-- Any number of steps of one kind, one after the other. -/
inductive Steps (step : State → State → Prop) (s : State) : State → Prop where
  | refl : Steps step s s
  | tail {t u : State} (path : Steps step s t) (last : step t u) : Steps step s u

namespace Steps

variable {step step' : State → State → Prop} {s t u : State}

theorem single (h : step s t) : Steps step s t := refl.tail h

theorem trans (h1 : Steps step s t) (h2 : Steps step t u) : Steps step s u := by
  induction h2 with
  | refl => exact h1
  | tail _ last ih => exact ih.tail last

theorem mono (h : ∀ {a b : State}, step a b → step' a b) (path : Steps step s t) : Steps step' s t := by
  induction path with
  | refl => exact refl
  | tail _ last ih => exact ih.tail (h last)

end Steps

/-- Any number of elementary changes. -/
abbrev Basics : State → State → Prop := Steps Basic

/-- Any number of changes. -/
abbrev Changes : State → State → Prop := Steps Change

theorem Basics.changes {s t : State} (h : Basics s t) : Changes s t := h.mono Change.basic

theorem Basic.path {s t : State} (h : Basic s t) : Basics s t := .single h

theorem Basic.changes {s t : State} (h : Basic s t) : Changes s t := .single (.basic h)

/-! ### The conditions of the commonest changes -/

theorem LinkMove.of_same {s : State} {l : LC} (hrole : l.role = s.lc.role) (hlink : l.link = s.lc.link)
    (hjoin : l.joinRecord = s.lc.joinRecord)
    (hidentity : ∀ me, s.lc.identity = some me → l.identity = some me := by exact fun _ h => h) : LinkMove s l :=
  ⟨hrole, fun h => .inl (hlink ▸ h), fun h => .inl (hlink ▸ h), fun h => .inl ⟨hlink ▸ h, hjoin⟩, hidentity⟩

/-- A link that goes from a state other than OFF to one that is neither OFF nor JOIN. -/
theorem LinkMove.of_between {s : State} {l : LC} (hrole : l.role = s.lc.role) (hold : s.lc.link ≠ .off)
    (hoff : l.link ≠ .off) (hjoin : l.link ≠ .join)
    (hidentity : ∀ me, s.lc.identity = some me → l.identity = some me := by exact fun _ h => h) : LinkMove s l :=
  ⟨hrole, fun h => absurd h hoff, fun h => absurd h hold, fun h => absurd h hjoin, hidentity⟩

theorem TimingMove.of_same {s : State} {m : TM} (hconfig : m.config = s.tm.config) (hsteer : m.steer = s.tm.steer)
    (hstate : m.state = s.tm.state) (hexpired : m.expired = s.tm.expired) (hpps : m.pps = true → s.tm.pps = true) :
    TimingMove s m :=
  ⟨.inl ⟨hconfig, .inl hsteer⟩, fun h => .inr ⟨hpps h, by simp [pulsing, hstate, hexpired]⟩,
    fun _ h => .inl (by simpa [disciplined, hstate] using h)⟩

theorem TestStands.of_same {a b : ST} (h : b.kind = a.kind ∧ b.test = a.test ∧ b.state = a.state ∧ b.reqTest = a.reqTest ∧
    b.reqProfile = a.reqProfile ∧ b.stageWanted = a.stageWanted ∧ b.stageActive = a.stageActive ∧ b.errored = a.errored ∧
    b.bits = a.bits) : TestStands a b := by
  obtain ⟨h1, h2, h3, h4, h5, h6, h7, h8, h9⟩ := h
  exact ⟨h1, h2, h3, h4, h5, h6, h7, by rw [h8, h9]; exact id⟩

theorem PlansStand.of_same {a b : PS} (hactive : b.active = a.active) (hpending : b.pending = a.pending)
    (hfallback : b.fallback = a.fallback) : PlansStand a b :=
  ⟨hactive, fun q h => ⟨q, hpending ▸ h, rfl, rfl⟩, .inl hfallback⟩

/-- Dropping the pending plan. -/
theorem PlansStand.of_dropped {a b : PS} (hactive : b.active = a.active) (hpending : b.pending = none)
    (hfallback : b.fallback = a.fallback) : PlansStand a b :=
  ⟨hactive, fun q h => absurd (hpending ▸ h) (by simp), .inl hfallback⟩

/-- Marking or confirming the pending plan. -/
theorem PlansStand.of_map {a b : PS} (f : Pending → Pending) (hf : ∀ p, (f p).plan = p.plan ∧ (f p).carried = p.carried)
    (hactive : b.active = a.active) (hpending : b.pending = a.pending.map f) (hfallback : b.fallback = a.fallback) :
    PlansStand a b := by
  refine ⟨hactive, fun q h => ?_, .inl hfallback⟩
  obtain ⟨p, hp, rfl⟩ := Option.map_eq_some_iff.1 (hpending ▸ h)
  exact ⟨p, hp, hf p⟩

/-- A change of one tenant's record that stands in what the laws read. -/
theorem tenantStands (t : Tenant) (f : TenantRec → TenantRec) (s : State)
    (h : ∀ r, (f r).state = r.state ∧ (f r).config = r.config ∧ (f r).queue = r.queue ∧ (f r).hold = r.hold ∧
      (f r).ready = r.ready := by exact fun _ => ⟨rfl, rfl, rfl, rfl, rfl⟩) : Basics s (modTenant t f s) := by
  refine .single (.tenants _ s ⟨rfl, fun u => ?_⟩)
  rw [PerTenant.get_set]
  split
  · next hu => subst hu; exact h _
  · exact ⟨rfl, rfl, rfl, rfl, rfl⟩

/-- A change of a tenant's record is what it makes of the record that stands. -/
theorem modTenant_congr {t : Tenant} {f g : TenantRec → TenantRec} {s : State} (h : f (tenantRec s t) = g (tenantRec s t)) :
    modTenant t f s = modTenant t g s := by
  unfold tenantRec at h
  simp only [modTenant, State.modTN, h]

end Sys2Proof.Machine

namespace Sys2Proof.Machine

set_option Elab.async false

/-! ### Shared operations -/

theorem countTimes_basics {count : State → State} (h : ∀ s, Basics s (count s)) (n : Nat) (s : State) :
    Basics s (countTimes count n s) := by
  induction n generalizing s with
  | zero => exact .refl
  | succ n ih => exact (h s).trans (ih _)

theorem countLink_basics (c : LinkCounter) (s : State) : Basics s (countLink c s) := .single (.cb _ s)
theorem countChannel_basics (c : ChannelCounter) (s : State) : Basics s (countChannel c s) := .single (.cb _ s)
theorem countTiming_basics (c : TimingCounter) (s : State) : Basics s (countTiming c s) := .single (.cb _ s)
theorem countTest_basics (c : TestCounter) (s : State) : Basics s (countTest c s) := .single (.cb _ s)
theorem countControl_basics (c : ControlCounter) (s : State) : Basics s (countControl c s) := .single (.cb _ s)
theorem countTenant_basics (t : Tenant) (c : TenantCounter) (s : State) : Basics s (countTenant t c s) := .single (.cb _ s)

theorem countIf_basics {count : State → State} (h : ∀ s, Basics s (count s)) (b : Bool) (s : State) :
    Basics s (countIf b count s) := by
  cases b
  · exact .refl
  · exact h s

theorem countArea_basics (p : Nat) (q r : Bool) (s : State) : Basics s (countArea p q r s) :=
  (((Basic.path (.cb _ s)).trans (countTimes_basics (countChannel_basics _) _ _)).trans
    (countIf_basics (countTiming_basics _) _ _)).trans (countIf_basics (countTiming_basics _) _ _)

theorem uncountArea_basics (s : State) : Basics s (uncountArea s) := .single (.cb _ s)

theorem offerReport_basics (r : Report) (s : State) : Basics s (offerReport r s) := by
  unfold offerReport
  split
  · next h => exact .single (.cp _ s (by simp; omega))
  · exact (Basic.path (.cp _ s (Nat.le_max_left _ _))).trans (countControl_basics _ _)

theorem report_basics (kind : ReportKind) (subject : Nat) (detail : List Byte) (s : State) :
    Basics s (report kind subject detail s) := offerReport_basics _ s

theorem offerQueue_basics (m : LinkMessage) (s : State) : Basics s (offerQueue m s).1 := by
  unfold offerQueue
  split
  · exact (Basic.path (.mc _ s)).trans (countChannel_basics _ _)
  · split
    · exact .single (.mc (fun mc => { mc with queue := mc.queue ++ [m] }) s)
    · exact countChannel_basics _ s

theorem setKept_basics (p : Producer) (ks : List KeptMessage) (s : State) : Basics s (setKept p ks s) := by
  cases p
  · exact .single (.lc (fun lc => { lc with kept := ks }) s (.of_same rfl rfl rfl))
  · exact .single (.test (fun st => { st with kept := ks }) s (.of_same ⟨rfl, rfl, rfl, rfl, rfl, rfl, rfl, rfl, rfl⟩))

theorem send_basics (p : Producer) (m : LinkMessage) (s : State) : Basics s (send p m s) := by
  rw [send_eq]
  split
  · split
    · exact offerQueue_basics m s
    · exact (offerQueue_basics m s).trans (setKept_basics _ _ _)
  · exact setKept_basics _ _ s

theorem retryMessages_basics (ks : List KeptMessage) (s : State) : Basics s (retryMessages ks s).1 := by
  induction ks generalizing s with
  | nil => exact .refl
  | cons k ks ih =>
    unfold retryMessages
    have h := offerQueue_basics k.message s
    split
    · exact .refl
    · split
      · next e => rw [e] at h; exact h.trans (ih _)
      · next e => rw [e] at h; exact h

theorem offerTime_basics (m : LinkMessage) (s : State) : Basics s (offerTime m s) := by
  unfold offerTime
  dsimp only
  split
  · exact (countChannel_basics _ s).trans (.single (.mc _ _))
  · exact .single (.mc _ s)

theorem openBoundary_basics (s : State) : Basics s (openBoundary s) := by
  have hcount : Basics s (if s.mp.renumber.isSome && (openMP s.mp).frame != s.mp.frame + 1 then countLink .renumberings s
      else s) := by
    split
    · exact countLink_basics _ s
    · exact .refl
  unfold openBoundary
  dsimp only
  generalize (if s.mp.renumber.isSome && (openMP s.mp).frame != s.mp.frame + 1 then countLink .renumberings s else s) = u
    at hcount ⊢
  refine hcount.trans ?_
  have h1 : Basics u (((u.modMP openMP).modPS openPS).modMC fun mc =>
      { mc with restart := mc.restart.age, abortArea := false, released := 0 }) :=
    ((Basic.path (.mp openMP u rfl)).tail
      (.plans openPS _ (.of_map (fun p => { p with mark := p.mark.age }) (fun _ => ⟨rfl, rfl⟩) rfl rfl rfl))).tail (.mc _ _)
  refine (((((h1.tail (.lc (openLC (openMP s.mp).frame) _ (.of_same rfl rfl rfl))).tail
    (.ca (fun ca => { ca with windowDue := (openMP s.mp).frame.toNat % 256 == 0 }) _)).tail
    (.tm openTM _ (.of_same rfl rfl rfl rfl (by simp [openTM])))).tail
    (.test (fun st => { st with retryDue := true, kept := unfreshen st.kept }) _
      (.of_same ⟨rfl, rfl, rfl, rfl, rfl, rfl, rfl, rfl, rfl⟩))).tail
    (.cb (fun cb => { cb with captureDue := cb.captureDue.age, beforeArea := none }) _))

theorem atBoundary_changes {cond : State → Bool} {act : State → State} (h : ∀ s, cond s = true → Changes s (act s))
    (s : State) : Changes s (atBoundary cond act s) := by
  rcases atBoundary_cases cond act s with ⟨hc, e⟩ | ⟨-, hc, e⟩ | e
  · rw [e]; exact h s hc
  · rw [e]; exact (openBoundary_basics s).changes.trans (h _ hc)
  · rw [e]; exact .refl

/-! ### The Self-Test Unit -/

/-- The end of a test is its record, the TEST_CTL STOP, and the question whether it is done. -/
theorem stopTest_eq_tryDone (verdict : Option TestOutcome) (offerStop await : Bool) (s : State) :
    stopTest verdict offerStop await s =
      tryDone (if offerStop && !(s.st.kind == some .loop) then send .selfTest (testControl actionStop s.st)
        (testStopped verdict await s) else testStopped verdict await s) := rfl

theorem tryDone_basics (s : State) : Basics s (tryDone s) := by
  unfold tryDone
  dsimp only
  split
  · next h => exact (Basic.path (.done _ s h.1 h.2.1 rfl rfl ⟨rfl, rfl⟩)).trans (report_basics _ _ _ _)
  · exact .refl

theorem stopTest_basics (verdict : Option TestOutcome) (offerStop await : Bool) (s : State) :
    Basics s (stopTest verdict offerStop await s) := by
  rw [stopTest_eq_tryDone]
  refine Steps.trans ?_ (tryDone_basics _)
  have h := Basic.path (Basic.stop verdict await s)
  split
  · exact h.trans (send_basics _ _ _)
  · exact h

theorem finishTest_basics (s : State) : Basics s (finishTest s) := by
  unfold finishTest
  split <;> exact stopTest_basics _ _ _ s

theorem abortTest_basics (o : TestOutcome) (b : Bool) (s : State) : Basics s (abortTest o b s) := stopTest_basics _ _ _ s

theorem takeStopAnswer_basics (accepted : Bool) (frames bits errored : Nat) (s : State) :
    Basics s (takeStopAnswer accepted frames bits errored s) := by
  refine (Basic.path (.test _ s ?_)).trans (tryDone_basics _)
  cases accepted
  · exact .of_same ⟨rfl, rfl, rfl, rfl, rfl, rfl, rfl, rfl, rfl⟩
  · exact ⟨rfl, rfl, rfl, rfl, rfl, rfl, rfl, fun _ => Nat.min_le_right _ _⟩

theorem testPlanChange_basics (old : Plan) (s : State) : Basics s (testPlanChange old s) := by
  unfold testPlanChange
  dsimp only
  refine Steps.trans ?_ (tryDone_basics _)
  split
  · next h =>
    split
    · exact abortTest_basics _ _ s
    · split
      · exact .single (.run _ s (by simp [h.1]) rfl rfl ⟨rfl, rfl⟩)
      · exact .refl
  · split
    · next h => exact .single (.run _ s (by simp [h.1]) rfl rfl ⟨rfl, rfl⟩)
    · exact .refl

theorem testLinkDown_basics (b : Bool) (s : State) : Basics s (testLinkDown b s) := by
  unfold testLinkDown
  have h : Basics s (s.modST fun st => { st with responder := none }) :=
    .single (.test _ s (.of_same ⟨rfl, rfl, rfl, rfl, rfl, rfl, rfl, rfl, rfl⟩))
  dsimp only
  split
  · exact h.trans (abortTest_basics _ _ _)
  · exact h

theorem keepTaken_basics (f : FrameNo) (ps : List (Nat × List Byte)) (s : State) : Basics s (keepTaken f ps s) :=
  .single (.test _ s (.of_same ⟨rfl, rfl, rfl, rfl, rfl, rfl, rfl, rfl, rfl⟩))

/-- Two bytes differ in eight bits at most. -/
theorem byteDifference_le (a b : Byte) : byteDifference a b ≤ 8 := List.length_filter_le _ _

theorem bitDifference_le (as bs : List Byte) : bitDifference as bs ≤ 8 * as.length := by
  induction as generalizing bs with
  | nil => simp [bitDifference]
  | cons a as ih =>
    cases bs with
    | nil => simp [bitDifference]
    | cons b bs =>
      have h := ih bs
      have hb := byteDifference_le a b
      simp only [bitDifference, List.zipWith_cons_cons, List.sum_cons, List.length_cons] at h ⊢
      omega

theorem patternBits_length (n : Nat) (x : BitVec 15) : (patternBits n x).length = n := by
  induction n generalizing x with
  | zero => rfl
  | succ n ih => simp [patternBits, ih]

/-- A stream of bits fills a byte for each eight. -/
theorem bytesOf_length (bits : List Bool) : (bytesOf bits).length = bits.length / 8 := by
  fun_induction bytesOf bits with
  | case1 b7 b6 b5 b4 b3 b2 b1 b0 rest ih => simp only [List.length_cons, ih]; omega
  | case2 bits h =>
    have hlt : bits.length < 8 := by
      refine Classical.byContradiction fun hge => ?_
      match bits, h, hge with
      | b7 :: b6 :: b5 :: b4 :: b3 :: b2 :: b1 :: b0 :: rest, h, _ => exact h _ _ _ _ _ _ _ _ _ rfl
      | [], _, hge | [_], _, hge | [_, _], _, hge | [_, _, _], _, hge | [_, _, _, _], _, hge
      | [_, _, _, _, _], _, hge | [_, _, _, _, _, _], _, hge | [_, _, _, _, _, _, _], _, hge => simp at hge
    simp; omega

theorem testPattern_length (f : FrameNo) (p : Nat) : (testPattern f p).length = 768 := by
  simp [testPattern, bytesOf_length, patternBits_length]

/-- A frame's TEST positions hold no more errored bits than bits (R148). -/
theorem erroredBits_le (origin : FrameNo) (positions : List (Nat × List Byte)) :
    erroredBits origin positions ≤ positions.length * 6144 := by
  induction positions with
  | nil => simp [erroredBits]
  | cons p ps ih =>
    have h := bitDifference_le (testPattern origin p.1) p.2
    rw [testPattern_length] at h
    simp only [erroredBits, List.map_cons, List.sum_cons, List.length_cons] at ih ⊢
    omega

/-- Checks add errored bits within the bits compared. -/
theorem addChecks_errors {n errs : Nat} (h : errs ≤ n * 6144) {st : ST} (hst : st.errored ≤ st.bits) :
    (addChecks n errs st).errored ≤ (addChecks n errs st).bits := by
  have hc : (countFrame st).errored = st.errored ∧ (countFrame st).bits = st.bits := by
    unfold countFrame; split <;> exact ⟨rfl, rfl⟩
  simp only [addChecks, hc, bitsLimit, wordLimit]
  omega

theorem countFrame_stands (st : ST) : TestStands st (countFrame st) := by
  unfold countFrame
  split <;> exact .of_same ⟨rfl, rfl, rfl, rfl, rfl, rfl, rfl, rfl, rfl⟩

theorem TestStands.trans {a b c : ST} (h1 : TestStands a b) (h2 : TestStands b c) : TestStands a c :=
  ⟨h2.kind.trans h1.kind, h2.test.trans h1.test, h2.state.trans h1.state, h2.reqTest.trans h1.reqTest,
    h2.reqProfile.trans h1.reqProfile, h2.stageWanted.trans h1.stageWanted, h2.stageActive.trans h1.stageActive,
    fun h => h2.errors (h1.errors h)⟩

theorem addStageFrame_stands (origin : FrameNo) (errs : Nat) (st : ST) : TestStands st (addStageFrame origin errs st) := by
  unfold addStageFrame
  split
  · split <;> exact .of_same ⟨rfl, rfl, rfl, rfl, rfl, rfl, rfl, rfl, rfl⟩
  · exact .of_same ⟨rfl, rfl, rfl, rfl, rfl, rfl, rfl, rfl, rfl⟩

theorem addChecks_stands {n errs : Nat} (h : errs ≤ n * 6144) (st : ST) : TestStands st (addChecks n errs st) := by
  obtain ⟨h1, h2, h3, h4, h5, h6, h7, -⟩ := countFrame_stands st
  exact ⟨h1, h2, h3, h4, h5, h6, h7, addChecks_errors h⟩

theorem checkFrame_basics (origin : FrameNo) (positions : List (Nat × List Byte)) (s : State) :
    Basics s (checkFrame origin positions s) := by
  unfold checkFrame
  have h : Basics s (s.modST fun st => addStageFrame origin (erroredBits origin positions)
      (addChecks positions.length (erroredBits origin positions) st)) :=
    .single (.test _ s ((addChecks_stands (erroredBits_le _ _) s.st).trans (addStageFrame_stands _ _ _)))
  dsimp only
  split
  · exact h.trans (finishTest_basics _)
  · exact h

theorem nearCheck_basics (h : FrameNo) (plan : Plan) (looped : Bool) (ps : List (Nat × List Byte)) (s : State) :
    Basics s (nearCheck h plan looped ps s) := by
  unfold nearCheck
  dsimp only
  split
  · exact .refl
  · split
    · split
      · exact checkFrame_basics _ _ _
      · exact .refl
    · split
      · exact checkFrame_basics _ _ _
      · exact .refl
    · split
      · exact checkFrame_basics _ _ _
      · exact .refl
    · exact .refl

theorem takeTestPositions_basics (h : FrameNo) (plan : Plan) (looped : Bool) (ps : List (Nat × List Byte)) (s : State) :
    Basics s (takeTestPositions h plan looped ps s) := by
  unfold takeTestPositions
  split
  · exact .refl
  · exact (nearCheck_basics _ _ _ _ s).tail (.test _ _ (.of_same ⟨rfl, rfl, rfl, rfl, rfl, rfl, rfl, rfl, rfl⟩))

theorem testComposed_basics (plan : Plan) (s : State) : Basics s (testComposed plan s) := by
  unfold testComposed
  have h : Basics s (s.modST countFrame) := .single (.test _ s (countFrame_stands _))
  dsimp only
  split
  · split
    · exact h.trans (finishTest_basics _)
    · exact h
  · exact .refl

theorem takeTestControl_basics (action kind mode test : Byte) (s : State) :
    Basics s (takeTestControl action kind mode test s) := by
  have hresponder : ∀ (r : Option Responder) (u : State), Basics u (u.modST fun st => { st with responder := r }) := fun r u =>
    .single (.test _ u (.of_same ⟨rfl, rfl, rfl, rfl, rfl, rfl, rfl, rfl, rfl⟩))
  unfold takeTestControl
  refine (countTest_basics .ctlReceived s).trans ?_
  dsimp only
  generalize countTest .ctlReceived s = u
  split
  · split
    · exact (send_basics _ _ u).trans (countTest_basics _ _)
    · exact (hresponder _ u).trans (send_basics _ _ _)
  · split
    · exact (hresponder _ u).trans (send_basics _ _ _)
    · exact send_basics _ _ u

end Sys2Proof.Machine

namespace Sys2Proof.Machine

set_option Elab.async false

/-! ### The Tenant Unit -/

theorem closeTenant_basics (t : Tenant) (s : State) : Basics s (closeTenant t s) := by
  unfold closeTenant
  split
  · next h => exact (Basic.close t s h).path.trans (report_basics _ _ _ _)
  · exact .refl

theorem closeEval_basics (s : State) : Basics s (closeEval s) :=
  ((((closeTenant_basics .t1 s).trans (closeTenant_basics .t2 _)).trans (closeTenant_basics .t3 _)).trans
    (closeTenant_basics .t4 _)).tail (.refresh _)

theorem partnerOpenOne_basics (p : Pending) (t : Tenant) (s : State) : Basics s (partnerOpenOne p t s) := by
  unfold partnerOpenOne
  dsimp only
  split
  · next h =>
    refine Steps.trans ?_ (report_basics _ _ _ _)
    by_cases hc : 11 - committedOthers s.tn t < (tenantRec s t).config.committed
    · rw [modTenant_congr (g := fun r => { r with state := .active, config := { r.config with
        committed := 11 - committedOthers s.tn t } }) (by simp [hc])]
      exact (Basic.enlist t _ s h.1 (Nat.le_refl _)).path
    · rw [modTenant_congr (g := fun r => { r with state := .active, config := { r.config with
        committed := (tenantRec s t).config.committed } }) (by simp [hc])]
      exact (Basic.enlist t _ s h.1 (Nat.not_lt.1 hc)).path
  · exact .refl

theorem partnerOpen_basics (p : Pending) (s : State) : Basics s (partnerOpen p s) :=
  ((((partnerOpenOne_basics p .t1 s).trans (partnerOpenOne_basics p .t2 _)).trans (partnerOpenOne_basics p .t3 _)).trans
    (partnerOpenOne_basics p .t4 _)).tail (.refresh _)

theorem evalSync_basics (t : Tenant) (s : State) : Basics s (evalSync t s).1 := by
  unfold evalSync
  dsimp only
  split
  · exact .refl
  · exact (tenantStands t _ s).trans (report_basics _ _ _ _)

theorem admitPacket_basics (t : Tenant) (packet : List Byte) (s : State) : Basics s (admitPacket t packet s) := by
  unfold admitPacket
  dsimp only
  split
  · exact countTenant_basics _ _ s
  · next hlen =>
    split
    · exact countTenant_basics _ _ s
    · split
      · exact countTenant_basics _ _ s
      · split
        · exact countTenant_basics _ _ s
        · next hfree =>
          have h := Basic.enqueue t packet s (Nat.not_lt.1 hfree) (by omega)
          exact (h.path.trans (countTenant_basics t .packetsAdmitted _)).tail
            (.ca (fun ca => { ca with sums := ca.sums.set t (ca.sums.get t + packet.length) }) _)

theorem emptyQueue_basics (t : Tenant) (s : State) : Basics s (emptyQueue t s) :=
  (Basic.unqueue t [] (occupancy (tenantRec s t)) s (by simp)).path

/-- What a position takes from a queue it frees: the blocks of the queue left and those freed are the blocks before (R93,
R98). -/
theorem fillFrom_blocks (offset : Nat) (q : List QPacket) :
    ((fillFrom offset q).queue.map packetBlocks).sum + (fillFrom offset q).freed = (q.map packetBlocks).sum := by
  fun_induction fillFrom offset q with
  | case1 => simp
  | case2 offset p ps h => simp
  | case3 offset p ps h taken left hpair pointer hrest more ih =>
    have hmore : more = fillFrom (offset + taken.length) ps := rfl
    simp only [hmore, List.map_cons, List.sum_cons]
    omega
  | case4 offset p ps h taken left hpair pointer hrest =>
    have hle : packetBlocks left ≤ packetBlocks p := by
      have hleft : left = (packetTake offset p).2 := by rw [hpair]
      subst hleft
      simp only [packetTake] at hrest ⊢
      unfold packetBlocks
      simp only [List.isEmpty_iff, List.length_drop]
      rw [if_neg hrest]
      split
      · next hp => simp [hp] at hrest
      · exact Nat.sub_le_sub_left (Nat.div_le_div_right (by omega)) _
    simp only [List.map_cons, List.sum_cons]
    omega

theorem fillPositions_blocks (fill : Byte) (n : Nat) (q : List QPacket) :
    ((fillPositions fill n q).queue.map packetBlocks).sum + (fillPositions fill n q).freed = (q.map packetBlocks).sum := by
  induction n generalizing q with
  | zero => simp [fillPositions]
  | succ n ih =>
    have h1 := fillFrom_blocks 0 q
    have h2 := ih (fillFrom 0 q).queue
    simp only [fillPositions]
    omega

theorem composeTenant_basics (t : Tenant) (s : State) : Basics s (composeTenant t s).1 :=
  (Basic.unqueue t _ _ s (fillPositions_blocks _ _ _)).path.trans (countTimes_basics (countTenant_basics t _) _ _)

theorem takeTenantPositions_basics (t : Tenant) (ps : List (List Byte)) (s : State) :
    Basics s (takeTenantPositions t ps s) := by
  unfold takeTenantPositions
  dsimp only
  have h : Basics s (countTimes (countTenant t .reassemblyErrors) (rebuildPositions (tenantRec s t).config.fill ps
      (tenantRec s t).reassembly).errors (modTenant t (fun r => { r with reassembly := (rebuildPositions
        (tenantRec s t).config.fill ps (tenantRec s t).reassembly).mode }) s)) :=
    (tenantStands t _ s).trans (countTimes_basics (countTenant_basics t _) _ _)
  split
  · exact h.trans (countTimes_basics (countTenant_basics t _) _ _)
  · exact (h.tail (.tenants _ _ ⟨rfl, fun _ => ⟨rfl, rfl, rfl, rfl, rfl⟩⟩)).trans
      (countTimes_basics (countTenant_basics t _) _ _)

theorem gapTenant_basics (t : Tenant) (s : State) : Basics s (gapTenant t s) := by
  have h : Basics s (modTenant t (fun r => { r with reassembly := .hunt }) s) :=
    (tenantStands t _ s)
  unfold gapTenant
  dsimp only
  split
  · exact h.trans (countTenant_basics t _ _)
  · exact h.trans (countTenant_basics t _ _)
  · exact h

theorem gapAll_basics (s : State) : Basics s (gapAll s) :=
  (((gapTenant_basics .t1 s).trans (gapTenant_basics .t2 _)).trans (gapTenant_basics .t3 _)).trans (gapTenant_basics .t4 _)

theorem takeFarNibble_basics (t : Tenant) (n : Nibble) (s : State) : Basics s (takeFarNibble t n s) := by
  unfold takeFarNibble
  dsimp only
  split
  · exact .refl
  · exact (tenantStands t _ s).trans (report_basics _ _ _ _)

theorem takeFarNibbles_basics (n : PerTenant Nibble) (s : State) : Basics s (takeFarNibbles n s) :=
  (((takeFarNibble_basics .t1 _ s).trans (takeFarNibble_basics .t2 _ _)).trans (takeFarNibble_basics .t3 _ _)).trans
    (takeFarNibble_basics .t4 _ _)

/-! ### The Plan Store -/

/-- Opening tenants commutes with a change of the Plan Store that leaves the active plan. -/
theorem partnerOpenOne_modPS (p : Pending) (t : Tenant) (f : PS → PS) (s : State) :
    partnerOpenOne p t (s.modPS f) = (partnerOpenOne p t s).modPS f := by
  have hreport : ∀ (o : TenantState) (c : TenantCause) (b : Bool) (u : State),
      reportTenant t o c b (u.modPS f) = (reportTenant t o c b u).modPS f := fun o c b u => by
    simp only [reportTenant, report, offerReport, apply_ite (State.modPS f)]
    exact ite_congr rfl (fun _ => rfl) fun _ => rfl
  have htenant : ∀ g, modTenant t g (s.modPS f) = (modTenant t g s).modPS f := fun _ => rfl
  unfold partnerOpenOne
  dsimp only
  rw [apply_ite (State.modPS f), htenant, hreport]
  rfl

theorem partnerOpen_modPS (p : Pending) (f : PS → PS) (s : State) (hf : (f s.ps).active = s.ps.active) :
    partnerOpen p (s.modPS f) = (partnerOpen p s).modPS f := by
  unfold partnerOpen
  rw [partnerOpenOne_modPS, partnerOpenOne_modPS, partnerOpenOne_modPS, partnerOpenOne_modPS]
  have hps : (partnerOpenOne p .t4 (partnerOpenOne p .t3 (partnerOpenOne p .t2 (partnerOpenOne p .t1 s)))).ps = s.ps := by
    simp
  simp only [refreshTenants, State.modPS, State.modTN, hps, hf]

/-- After one tenant has been asked to open it is not CLOSED with positions in the plan, and a tenant that was not so before is
not so after. -/
theorem partnerOpenOne_closed (p : Pending) (t u : Tenant) (s : State)
    (h : (tenantRec (partnerOpenOne p t s) u).state = .closed) :
    (tenantRec s u).state = .closed ∧ (u = t → p.plan.counts.get u = 0 ∧ p.carried.get u = 0) := by
  unfold partnerOpenOne at h
  dsimp only at h
  split at h
  · next hopen =>
    by_cases hu : u = t
    · subst hu; simp [tenantRec, modTenant] at h
    · exact ⟨by simpa [tenantRec, modTenant, PerTenant.get_set, hu] using h, fun e => absurd e hu⟩
  · next hopen =>
    refine ⟨h, fun e => ?_⟩
    subst e
    simp only [h, true_and, not_or, Nat.not_lt, Nat.le_zero] at hopen
    exact hopen

/-- A tenant that stays CLOSED when the partner's plan is installed holds no position of it (R88). -/
theorem partnerOpen_closed (p : Pending) (t : Tenant) (s : State)
    (h : (tenantRec (partnerOpen p s) t).state = .closed) : p.plan.counts.get t = 0 ∧ p.carried.get t = 0 := by
  have h4 : (tenantRec (partnerOpenOne p .t4 (partnerOpenOne p .t3 (partnerOpenOne p .t2 (partnerOpenOne p .t1 s)))) t).state
      = .closed := by simpa [partnerOpen, tenantRec] using h
  obtain ⟨h3, c4⟩ := partnerOpenOne_closed p .t4 t _ h4
  obtain ⟨h2, c3⟩ := partnerOpenOne_closed p .t3 t _ h3
  obtain ⟨h1, c2⟩ := partnerOpenOne_closed p .t2 t _ h2
  obtain ⟨-, c1⟩ := partnerOpenOne_closed p .t1 t _ h1
  cases t
  · exact c1 rfl
  · exact c2 rfl
  · exact c3 rfl
  · exact c4 rfl

/-- What R23 lets pass. -/
structure Accepted (p : Pending) (s : State) : Prop where
  plan : p.plan.wellFormed = true
  carried : countsWellFormed p.carried = true
  number : s.ps.active.flagged = true ∨ p.plan.number = s.ps.active.number + 1

theorem judgeOffer_accepted {p : Pending} {s : State} (h : judgeOffer s.ps s.mp.frame p = none) : Accepted p s := by
  unfold judgeOffer at h
  split at h
  · cases h
  · next hwf =>
    split at h
    · cases h
    · split at h
      · next hnum => exact ⟨(Classical.not_not.1 hwf).1, (Classical.not_not.1 hwf).2, hnum⟩
      · cases h

theorem installPending_basics {p : Pending} {s : State} (hp : Accepted p s) (hlink : s.lc.link ≠ .off)
    (hsite : s.lc.role = .site → Installable p s) : Basics s (installPending p s) := by
  have hcount : Basics s (if s.ps.pending.isSome then countLink .pendingDiscards s else s) := by
    split
    · exact countLink_basics _ s
    · exact .refl
  obtain ⟨u, hu⟩ : ∃ u, u = if s.ps.pending.isSome then countLink .pendingDiscards s else s := ⟨_, rfl⟩
  obtain ⟨eps, elc, etn, etm, est⟩ : u.ps = s.ps ∧ u.lc = s.lc ∧ u.tn = s.tn ∧ u.tm = s.tm ∧ u.st = s.st := by
    rw [hu]; split <;> exact ⟨rfl, rfl, rfl, rfl, rfl⟩
  have hall : installPending p s = closeEval (if u.lc.role = .hub then partnerOpen p (u.modPS fun ps =>
      { ps with pending := some p }) else u.modPS fun ps => { ps with pending := some p }) := by rw [hu]; rfl
  rw [hall]
  rw [← hu] at hcount
  refine (hcount.trans ?_).trans (closeEval_basics _)
  split
  · next hrole =>
    rw [partnerOpen_modPS _ _ _ rfl]
    refine (partnerOpen_basics p u).tail (.install p _ ?_)
    refine ⟨hp.plan, hp.carried, by simpa [eps] using hp.number, by simpa [elc] using hlink,
      .inl fun t ht => partnerOpen_closed p t u ht, ?_, ?_⟩
    · intro h; simp [hrole] at h
    · intro h; simp [hrole] at h
  · next hrole =>
    have hs : s.lc.role = .site := by
      rw [elc] at hrole
      cases h : s.lc.role with
      | site => rfl
      | hub => exact absurd h hrole
    obtain ⟨h1, h2, h3, h4, h5, h6, h7⟩ := hsite hs
    exact (Basic.install p u ⟨h1, h2, eps ▸ h3, elc ▸ h4, by simpa [tenantRec, etn, elc] using h5,
      by simpa [elc, etm] using h6, by simpa [elc, est] using h7⟩).path

theorem offerPlan_basics {p : Pending} {s : State} (hlink : s.lc.link ≠ .off)
    (hsite : s.lc.role = .site → Accepted p s → Installable p s) : Basics s (offerPlan p s).1 := by
  rw [offerPlan_eq]
  dsimp only
  split
  · next h =>
    have hp := judgeOffer_accepted h
    exact installPending_basics hp hlink fun hr => hsite hr hp
  · exact .refl

theorem dropPending_basics (s : State) : Basics s (dropPending s) := by
  unfold dropPending
  split
  · exact ((Basic.plans (fun ps => { ps with pending := none }) s (.of_dropped rfl rfl rfl)).path.trans
      (countLink_basics _ _)).trans (closeEval_basics _)
  · exact .refl

theorem confirmPending_basics (s : State) : Basics s (confirmPending s) :=
  (Basic.plans _ s (.of_map (fun p => { p with confirmed := true }) (fun _ => ⟨rfl, rfl⟩) rfl rfl rfl)).path

theorem markPending_basics (s : State) : Basics s (markPending s) :=
  (Basic.plans _ s (.of_map (fun p => { p with mark := .next }) (fun _ => ⟨rfl, rfl⟩) rfl rfl rfl)).path

/-! ### The candidate of an allocation -/

theorem fillRounds_tenants (fuel r : Nat) (ms : List Member) :
    ∀ g ∈ fillRounds fuel r ms, ∃ m ∈ ms, m.tenant = g.1 := by
  induction fuel generalizing r ms with
  | zero => simp [fillRounds]
  | succ fuel ih =>
    intro g hg
    unfold fillRounds at hg
    split at hg
    · simp at hg
    · dsimp only at hg
      split at hg
      · simp only [shareRest, List.mem_map] at hg
        obtain ⟨m, hm, rfl⟩ := hg
        exact ⟨m, hm, rfl⟩
      · rcases List.mem_append.1 hg with h | h
        · obtain ⟨m, hm, rfl⟩ := List.mem_map.1 h
          exact ⟨m, (List.mem_filter.1 hm).1, rfl⟩
        · obtain ⟨m, hm, e⟩ := ih _ _ g h
          exact ⟨m, (List.mem_filter.1 hm).1, e⟩

/-- A tenant outside the fill receives nothing (R113). -/
theorem weightedFill_outside (r : Nat) {ms : List Member} {t : Tenant} (h : ∀ m ∈ ms, m.tenant ≠ t) :
    (weightedFill r ms).get t = 0 := by
  simp only [weightedFill, PerTenant.get_ofFn]
  have hnil : (fillRounds (ms.length + 1) r ms).filter (fun g => g.1 == t) = [] := by
    rw [List.filter_eq_nil_iff]
    intro g hg e
    obtain ⟨m, hm, e'⟩ := fillRounds_tenants _ _ _ g hg
    exact h m hm (e'.trans (by simpa using e))
  simp [hnil]

/-- The members of a fill are the tenants of its list. -/
theorem membersOf_tenant {i : AllocInput} {ts : List Tenant} {cap : Tenant → Nat} {m : Member}
    (h : m ∈ membersOf i ts cap) : m.tenant ∈ ts := by
  obtain ⟨t, ht, rfl⟩ := List.mem_map.1 h
  exact ht

theorem mem_eligibleTenants {i : AllocInput} {t : Tenant} : t ∈ eligibleTenants i ↔ i.classes.get t = .eligible := by
  have : t ∈ Tenant.all := by cases t <;> decide
  simp [eligibleTenants, this]

/-- A tenant of no class gets no position in AUTO mode (R115, R116). -/
theorem autoCounts_none {i : AllocInput} {t : Tenant} (a : Nat) (h : i.classes.get t = .none) :
    (autoCounts i a).get t = 0 := by
  have hout : ∀ (ts : List Tenant) cap, (∀ u ∈ ts, u ∈ eligibleTenants i) → ∀ m ∈ membersOf i ts cap, m.tenant ≠ t := by
    intro ts cap hts m hm e
    have := mem_eligibleTenants.1 (hts _ (membersOf_tenant hm))
    rw [e, h] at this
    cases this
  simp only [autoCounts, PerTenant.get_ofFn]
  rw [weightedFill_outside _ (hout _ _ fun u hu => (List.mem_filter.1 hu).1)]
  have hg : guarantee i t = 0 := by simp [guarantee, h]
  rw [hg]
  split
  · simp [weightedFill_outside _ (hout _ _ fun u hu => hu)]
  · simp

theorem cutCounts_le (g : Tenant → Nat) (ts : List Tenant) (k : Nat) (n : PerTenant Nat) (t : Tenant) :
    (cutCounts g ts k n).get t ≤ n.get t := by
  induction ts generalizing k n with
  | nil => exact Nat.le_refl _
  | cons u ts ih =>
    refine Nat.le_trans (ih _ _) ?_
    rw [PerTenant.get_set]
    split
    · next h => subst h; exact Nat.sub_le _ _
    · exact Nat.le_refl _

/-- A tenant of no class gets no position in FIXED mode (R117). -/
theorem fixedModeCounts_none {i : AllocInput} {t : Tenant} (a : Nat) (h : i.classes.get t = .none) :
    (fixedModeCounts i a).get t = 0 := by
  have := cutCounts_le (guarantee i) Tenant.all.reverse ((PerTenant.ofFn (fixedFirst i)).sum - a)
    (PerTenant.ofFn (fixedFirst i)) t
  rw [PerTenant.get_ofFn, show fixedFirst i t = 0 by simp [fixedFirst, h]] at this
  exact Nat.le_zero.1 this

/-- A CLOSED tenant has no class, so no position in a candidate nor in its fallback counts. -/
theorem candidateFor_closed (s : State) (cause : AllocCause) (profile requested : Nat) {t : Tenant}
    (h : (tenantRec s t).state = .closed) :
    (candidateFor s cause profile requested).counts.get t = 0 ∧
      (candidateFor s cause profile requested).fallback.get t = 0 := by
  have hc : classOf (s.tn.tenants.get t) = .none := by
    unfold tenantRec at h
    simp [classOf, h]
  have hcl : (allocInput s).classes.get t = .none := by simp [allocInput, hc]
  refine ⟨?_, by simp [candidateFor, fallbackCounts, hc]⟩
  simp only [candidateFor]
  split
  · exact fixedModeCounts_none _ hcl
  · exact autoCounts_none _ hcl

/-- The fallback counts give a CLOSED tenant nothing. -/
theorem fallbackCounts_closed {s : State} {t : Tenant} (h : (tenantRec s t).state = .closed) :
    (fallbackCounts s).get t = 0 := by
  unfold tenantRec at h
  simp [fallbackCounts, classOf, h]

/-! ### Proposals and allocations -/

/-- What the Plan Store's laws need of a candidate that is proposed. -/
structure Proposable (c : Candidate) (s : State) : Prop where
  closed : ∀ t, (tenantRec s t).state = .closed → c.counts.get t = 0 ∧ c.fallback.get t = 0
  profile : s.lc.role = .site → disciplined s.tm ∨ c.profile ≤ 3
  test : c.test = 0 ∨ (c.test = s.st.reqTest ∧ (sweepBusy s.st = true → ∀ q, s.st.reqProfile = some q → c.profile ≤ q))

theorem lcFree_up {s : State} (h : lcFree s = true) : s.lc.link = .up := by
  simp only [lcFree, Bool.and_eq_true, beq_iff_eq] at h
  exact h.1.1.1

theorem propose_basics {c : Candidate} {s : State} (h : Proposable c s) : Basics s (propose c s).1 := by
  rw [propose_eq]
  split
  · next hfree =>
    have hup := lcFree_up hfree.2
    have hoffer : Basics s (offerPlan (proposalOf c s) s).1 := offerPlan_basics (by simp [hup]) fun _ hp =>
      ⟨hp.plan, hp.carried, hp.number, by simp [hup], .inl h.closed, h.profile, fun _ => h.test⟩
    split
    · refine (((((hoffer.tail (.lc _ _ (.of_same rfl rfl rfl))).trans (send_basics _ _ _)).trans
        (countLink_basics _ _)).tail (.lc _ _ ?_)).trans (report_basics _ _ _ _))
      exact .of_between rfl (by simp [hup]) (by simp) (by simp)
    · exact (hoffer.tail (.lc _ _ (.of_same rfl rfl rfl))).trans (countLink_basics _ _)
  · exact .refl

theorem roomAbort_basics (s : State) : Basics s (roomAbort s) := by
  unfold roomAbort
  dsimp only
  split
  · exact (countLink_basics _ s).trans (abortTest_basics _ _ _)
  · exact countLink_basics _ s

/-- The ceiling keeps a profile above 3 for the disciplined states at SITE (R73). -/
theorem ceiling_le_three {s : State} (h : s.lc.role = .site) (ht : ¬ disciplined s.tm) : ceiling s ≤ 3 := by
  have hcap : timingCap s = 3 := by
    unfold timingCap
    rw [h]
    exact if_neg ht
  have := Nat.min_le_right s.lc.hostMax (min s.st.commissioned (timingCap s))
  have := Nat.min_le_right s.st.commissioned (timingCap s)
  unfold ceiling
  omega

/-- A target that a sweep's request does not bound away: while a sweep is under way, at most the profile it requests. -/
def TargetFits (target : Nat) (s : State) : Prop := sweepBusy s.st = true → ∀ q, s.st.reqProfile = some q → target ≤ q

theorem standingTarget_fits (s : State) : TargetFits (standingTarget s) s := fun _ q h => by simp [standingTarget, h]

theorem allocateOnce_basics (cause : AllocCause) {target : Nat} {s : State} (ht : TargetFits target s) :
    Basics s (allocateOnce cause target s) := by
  rw [allocateOnce_eq]
  obtain ⟨u, hu⟩ : ∃ u, u = if roomFails (allocInput s) (min target (ceiling s)) s.st.reqTest then roomAbort s else s :=
    ⟨_, rfl⟩
  rw [← hu]
  have hroom : Basics s u := by
    rw [hu]; split
    · exact roomAbort_basics s
    · exact .refl
  obtain ⟨etn, elc, etm, est⟩ : u.tn = s.tn ∧ u.lc.role = s.lc.role ∧ u.tm = s.tm ∧
      (roomFails (allocInput s) (min target (ceiling s)) s.st.reqTest = false → u.st = s.st) := by
    rw [hu]; split
    · next h => exact ⟨by simp, by simp, by simp, fun h' => by simp [h] at h'⟩
    · exact ⟨rfl, rfl, rfl, fun _ => rfl⟩
  obtain ⟨c, hc⟩ : ∃ c, c = candidateFor s cause (min target (ceiling s)) s.st.reqTest := ⟨_, rfl⟩
  rw [← hc]
  have hnote : Basics s (countLink .allocationsProposed (u.modCA fun ca => { ca with last := some c, waiting := false })) :=
    (hroom.tail (.ca _ u)).trans (countLink_basics _ _)
  have hprop : Proposable c (countLink .allocationsProposed (u.modCA fun ca => { ca with last := some c, waiting := false })) := by
    refine ⟨fun t h => ?_, fun hr => ?_, ?_⟩
    · rw [hc]; exact candidateFor_closed s _ _ _ (by simpa [tenantRec, etn] using h)
    · rw [hc]
      simp only [countLink_frame, State.modCA_lc, State.modCA_tm, elc, etm] at hr ⊢
      by_cases hd : disciplined s.tm
      · exact .inl hd
      · exact .inr (Nat.le_trans (Nat.min_le_right _ _) (ceiling_le_three hr hd))
    · rw [hc]
      simp only [candidateFor, countLink_frame, State.modCA_st]
      by_cases hfail : roomFails (allocInput s) (min target (ceiling s)) s.st.reqTest = true
      · exact .inl (by simp [hfail])
      · refine .inr ⟨by simp [hfail, est (by simpa using hfail)], ?_⟩
        rw [est (by simpa using hfail)]
        exact fun hb q hq => Nat.le_trans (Nat.min_le_left _ _) (ht hb q hq)
  split
  · split
    · exact hnote.trans (propose_basics hprop)
    · exact (hnote.trans (propose_basics hprop)).tail (.ca _ _)
  · exact (hroom.tail (.ca _ u)).trans (countLink_basics _ _)

theorem deferTrigger_basics (s : State) : Basics s (deferTrigger s) := (Basic.ca _ s).path.trans (countLink_basics _ _)

theorem allocate_basics (cause : AllocCause) {target : Nat} {s : State} (ht : TargetFits target s) :
    Basics s (allocate cause target s) := by
  unfold allocate
  dsimp only
  have h := allocateOnce_basics cause ht
  split
  · split
    · exact h.trans (allocateOnce_basics _ (standingTarget_fits _))
    · exact h.trans (deferTrigger_basics _)
  · exact h

theorem trigger_basics (cause : AllocCause) (s : State) : Basics s (trigger cause s) := by
  unfold trigger
  split
  · exact .refl
  · split
    · exact allocate_basics _ (standingTarget_fits s)
    · exact deferTrigger_basics s

theorem triggerIf_basics (cause : AllocCause) (flag : Bool) (s : State) : Basics s (triggerIf cause flag s) := by
  unfold triggerIf
  split
  · exact trigger_basics cause s
  · exact .refl

theorem serveWaiting_basics (s : State) : Basics s (serveWaiting s) := by
  unfold serveWaiting
  split
  · exact allocate_basics _ (standingTarget_fits s)
  · exact .refl

theorem withTestTrigger_basics {f : State → State} {s : State} (h : Basics s (f s)) : Basics s (withTestTrigger f s) := by
  unfold withTestTrigger
  dsimp only
  split
  · exact h.trans (trigger_basics _ _)
  · exact h

theorem discardPending_basics (s : State) : Basics s (discardPending s) := by
  unfold discardPending
  split
  · exact (dropPending_basics s).trans (withTestTrigger_basics (tryDone_basics _))
  · exact .refl

theorem syncAll_basics (s : State) : Basics s (syncAll s) := by
  rw [syncAll_eq]
  exact (((((((evalSync_basics .t1 s).trans (evalSync_basics .t2 _)).trans (evalSync_basics .t3 _)).trans
    (evalSync_basics .t4 _)).trans (triggerIf_basics _ _ _)).trans (triggerIf_basics _ _ _)).trans
    (triggerIf_basics _ _ _)).trans (triggerIf_basics _ _ _)

theorem drainCompletion_basics (t : Tenant) (before : TenantRec) (s : State) : Basics s (drainCompletion t before s) :=
  triggerIf_basics _ _ s

end Sys2Proof.Machine

namespace Sys2Proof.Machine

set_option Elab.async false

/-! ### The Timing Unit -/

theorem advanceCounter_basics (elapsed : Nat) (s : State) : Basics s (advanceCounter elapsed s) := by
  refine (Basic.tm _ s ⟨.inl ⟨rfl, .inl rfl⟩, fun h => ?_, fun _ h => .inl h⟩).path
  have hpulsing : pulsing ({ s.tm with
      time := advanceTime elapsed s.tm.time,
      pps := s.tm.pps || (rollsOver elapsed s.tm.time && s.lc.role == .site && pulsing s.tm) } : TM) = pulsing s.tm := rfl
  simp only [Bool.or_eq_true, Bool.and_eq_true, beq_iff_eq] at h
  rw [hpulsing]
  rcases h with h | h
  · exact .inr ⟨h, id⟩
  · exact .inl ⟨h.1.2, h.2⟩

/-- A change of timing state, where the disciplined states are left only with low profiles. -/
theorem setTiming_basics (new : TimingState) (cause : TimingCause) (s : State)
    (h : s.lc.role = .site → disciplined s.tm → (new = .locked ∨ new = .holdover) ∨ lowProfiles s) :
    Basics s (setTiming new cause s) := by
  have hmove : Basics s (s.modTM fun tm =>
      { tm with state := new, goodRun := 0, largeRun := 0,
                pps := tm.pps && pulsing { tm with state := new, goodRun := 0, largeRun := 0 } }) := by
    refine (Basic.tm _ s ⟨.inl ⟨rfl, .inl rfl⟩, fun hp => ?_, fun hr hd => ?_⟩).path
    · simp only [Bool.and_eq_true] at hp
      exact .inr ⟨hp.1, fun _ => hp.2⟩
    · exact h hr hd
  exact (hmove.trans (syncAll_basics _)).trans (report_basics _ _ _ _)

theorem enterHoldover_basics (cause : TimingCause) (s : State) : Basics s (enterHoldover cause s) := by
  refine Steps.trans (Basic.tm _ s ⟨.inl ⟨rfl, .inr (.inr ⟨_, rfl⟩)⟩, fun h => .inr ⟨h, ?_⟩,
    fun _ h => .inl h⟩).path (setTiming_basics _ _ _ fun _ _ => .inl (.inr rfl))
  simp only [pulsing, Bool.or_eq_true, Bool.and_eq_true, beq_iff_eq]
  rintro (h | h)
  · exact .inl h
  · exact .inr ⟨h.1, rfl⟩

theorem timingLinkUp_basics (s : State) : Basics s (timingLinkUp s) := by
  unfold timingLinkUp
  have h : Basics s (s.modTM fun tm => { tm with firstOffer := .next }) :=
    (Basic.tm _ s (.of_same rfl rfl rfl rfl id)).path
  split
  · exact .refl
  · dsimp only
    split
    · next hfree => exact h.trans (setTiming_basics _ _ _ fun _ hd => by simp_all [disciplined])
    · exact h

theorem timingLinkDown_basics (s : State) : Basics s (timingLinkDown s) := by
  unfold timingLinkDown
  have h : Basics s (s.modTM fun tm =>
      { tm with outstanding := none, armed := none, nextOffer := none, firstOffer := .no, window := [], goodRun := 0,
                largeRun := 0, lostRun := 0 }) := (Basic.tm _ s (.of_same rfl rfl rfl rfl id)).path
  dsimp only
  split
  · next hacq => exact h.trans (setTiming_basics _ _ _ fun _ hd => by simp_all [disciplined])
  · exact h.trans (enterHoldover_basics _ _)
  · exact h

/-- A change of the Timing Unit that leaves its state, its code and its pulse. -/
theorem timing_basics (f : TM → TM) (s : State) (h : (f s.tm).config = s.tm.config ∧ (f s.tm).steer = s.tm.steer ∧
    (f s.tm).state = s.tm.state ∧ (f s.tm).expired = s.tm.expired ∧ (f s.tm).pps = s.tm.pps := by
      exact ⟨rfl, rfl, rfl, rfl, rfl⟩) : Basics s (s.modTM f) :=
  (Basic.tm f s (.of_same h.1 h.2.1 h.2.2.1 h.2.2.2.1 fun hp => h.2.2.2.2 ▸ hp)).path

/-- An update computed by the servo under the configuration is put into effect. -/
theorem applyServo_basics {v : Servo} {s : State} (hcode : SteeredBy s.tm.config v.code) (recorded : Bool) :
    Basics s (applyServo v recorded s) := by
  have h : Basics s (s.modTM fun tm =>
      { tm with steer := v.code, integrator := if v.frozen then tm.integrator else v.integrator,
                history := if recorded then appendHistory tm.history v.code else tm.history }) :=
    (Basic.tm _ s ⟨.inl ⟨rfl, .inr hcode⟩, fun hp => .inr ⟨hp, id⟩, fun _ hd => .inl hd⟩).path
  refine h.trans ?_
  unfold applyServo
  generalize (s.modTM fun tm =>
      { tm with steer := v.code, integrator := if v.frozen then tm.integrator else v.integrator,
                history := if recorded then appendHistory tm.history v.code else tm.history }) = u
  dsimp only
  split
  · exact countTiming_basics _ u
  · exact .refl

theorem servoUpdate_basics (offset : Int) (s : State) : Basics s (servoUpdate offset s) := by
  unfold servoUpdate
  obtain ⟨v, hv⟩ : ∃ v, v = servo s.tm.config s.tm.integrator offset := ⟨_, rfl⟩
  have hcode : SteeredBy s.tm.config v.code := .inr ⟨v.raw, by rw [hv]; rfl⟩
  obtain ⟨u, hu⟩ : ∃ u, u = countTiming .updates (s.modTM fun tm =>
      { tm with lastE := some v.e, lastU := some v.u, lastS := some v.code }) := ⟨_, rfl⟩
  have h : Basics s u := by rw [hu]; exact (timing_basics _ s).trans (countTiming_basics _ _)
  have hconfig : u.tm.config = s.tm.config := by rw [hu]; rfl
  dsimp only
  rw [← hv, ← hu]
  rw [← hconfig] at hcode
  split
  · have hstate : (applyServo v false u).tm.state = u.tm.state := by unfold applyServo; split <;> rfl
    split
    · have h2 := (h.trans (applyServo_basics hcode false)).trans
        (timing_basics (fun tm => { tm with goodRun := tm.goodRun + 1 }) _)
      split
      · exact h2.trans (setTiming_basics _ _ _ fun _ _ => .inl (.inl rfl))
      · exact h2
    · exact (h.trans (applyServo_basics hcode false)).trans (timing_basics _ _)
  · split
    · exact (h.trans (timing_basics (fun tm => { tm with largeRun := 0 }) u)).trans (applyServo_basics (by exact hcode) true)
    · split
      · exact h.trans (enterHoldover_basics _ u)
      · exact (h.trans (timing_basics (fun tm => { tm with largeRun := tm.largeRun + 1 }) u)).trans
          (applyServo_basics (by exact hcode) true)
  · split
    · refine ((h.trans (applyServo_basics hcode true)).trans (Basic.tm _ _ ?_).path).trans
        (setTiming_basics _ _ _ fun _ _ => .inl (.inl rfl))
      refine ⟨.inl ⟨rfl, .inl rfl⟩, fun hp => .inr ⟨hp, ?_⟩, fun _ hd => .inl hd⟩
      simp only [pulsing, Bool.or_eq_true, Bool.and_eq_true, beq_iff_eq]
      rintro (h | h)
      · exact .inl h
      · exact .inr ⟨h.1, rfl⟩
    · exact h.trans (countTiming_basics _ _)
  · exact h

theorem windowUpdate_basics (s : State) : Basics s (windowUpdate s) := by
  unfold windowUpdate
  dsimp only
  refine (timing_basics (fun tm => { tm with window := [] }) s).trans ?_
  split
  · exact (timing_basics _ _).trans (countTiming_basics _ _)
  · exact servoUpdate_basics _ _

theorem loseExchange_basics (s : State) : Basics s (loseExchange s) := by
  unfold loseExchange
  dsimp only
  refine ((timing_basics (fun tm => { tm with outstanding := none, lostRun := min (tm.lostRun + 1) 255 }) s).trans
    (countTiming_basics .lost _)).trans ?_
  split
  · exact enterHoldover_basics _ _
  · exact .refl

theorem answerExchange_basics (x : Exchange) (t2 t3 : Nat) (p2 p3 : PlanNo) (b : FrameStart) (s : State) :
    Basics s (answerExchange x t2 t3 p2 p3 b s) := by
  unfold answerExchange
  dsimp only
  refine (timing_basics (fun tm =>
    { tm with outstanding := none, lostRun := 0, lastOffset := some (exchangeOffset x.t1 t2 t3 (timeNumber b.time)),
              lastDelay := some (exchangeDelay x.t1 t2 t3 (timeNumber b.time)) }) s).trans ?_
  split
  · exact countTiming_basics _ _
  · split
    · exact countTiming_basics _ _
    · have h := fun u : State => (timing_basics (fun tm =>
        { tm with window := tm.window ++ [(exchangeOffset x.t1 t2 t3 (timeNumber b.time),
          exchangeDelay x.t1 t2 t3 (timeNumber b.time))] }) u).trans (countTiming_basics .accepted _)
      split
      · exact (h _).trans (windowUpdate_basics _)
      · exact h _

theorem takeTimeResponse_basics (sequence : Byte) (t2 t3 : Nat) (p2 p3 : PlanNo) (traceable : Bool) (s : State) :
    Basics s (takeTimeResponse sequence t2 t3 p2 p3 traceable s) := by
  unfold takeTimeResponse
  split
  · dsimp only
    split
    · exact countTiming_basics _ s
    · split
      · exact loseExchange_basics s
      · split
        · exact answerExchange_basics _ _ _ _ _ _ s
        · exact countTiming_basics _ s
  · exact countTiming_basics _ s

theorem takeTimeRequest_basics (sequence : Byte) (s : State) : Basics s (takeTimeRequest sequence s) := by
  unfold takeTimeRequest
  split
  · exact countTiming_basics _ s
  · exact offerTime_basics _ s

theorem timePlaced_basics (m : LinkMessage) (r : FrameStart) (s : State) : Basics s (timePlaced m r s) := by
  unfold timePlaced
  split
  · split
    · exact timing_basics _ s
    · exact .refl
  · exact .refl

/-- At HUB no profile depends on the time. -/
theorem judgePulse_basics {s : State} (hrole : s.lc.role = .hub) (record : Option (BitVec 32)) :
    Basics s (judgePulse record s) := by
  have hset : ∀ (new : TimingState) (cause : TimingCause) (u : State), u.lc.role = .hub → Basics u (setTiming new cause u) :=
    fun new cause u hu => setTiming_basics new cause u fun h => by simp [hu] at h
  have halign : ∀ u : State, Basics u (alignTime record u) := fun u => timing_basics _ u
  unfold judgePulse
  dsimp only
  refine (timing_basics (fun tm => { tm with pulse := some ⟨record, 0⟩ }) s).trans ?_
  split
  · split
    · split
      · exact (halign _).trans (countTiming_basics _ _)
      · exact halign _
    · exact (countTiming_basics _ _).trans (hset _ _ _ hrole)
  · split
    · exact (halign _).trans (hset _ _ _ hrole)
    · exact .refl

theorem expireHoldover_basics (s : State) : Basics s (expireHoldover s) := by
  have hmove : Basics s (s.modTM fun tm => { tm with expired := true, pps := tm.pps && pulsing { tm with expired := true } }) := by
    refine (Basic.tm _ s ⟨.inl ⟨rfl, .inl rfl⟩, fun hp => ?_, fun _ hd => .inl hd⟩).path
    simp only [Bool.and_eq_true] at hp
    exact .inr ⟨hp.1, fun _ => hp.2⟩
  exact (hmove.trans (syncAll_basics _)).trans (report_basics _ _ _ _)

/-! ### The channel restart -/

theorem finishRestart_basics (s : State) : Basics s (finishRestart s) := by
  have h : Basics s ((s.modMC fun mc => { mc with restart := .no }).modLC fun lc => { lc with offReport := none }) :=
    (Basic.mc _ s).path.tail (.lc _ _ (.of_same rfl rfl rfl))
  unfold finishRestart
  dsimp only
  split
  · exact h.trans (report_basics _ _ _ _)
  · exact h

theorem withdrawArea_basics (s : State) : Basics s (withdrawArea s) :=
  (((uncountArea_basics s).trans (countTimes_basics (countChannel_basics _) _ _)).tail (.mp _ _ rfl)).tail (.mc _ _)

theorem restarted_basics (hello : Option LinkMessage) (s : State) : Basics s (restarted hello s) :=
  (((countTimes_basics (countChannel_basics _) _ s).tail (.mc _ _)).trans (setKept_basics .linkController [] _)).trans
    (setKept_basics .selfTest [] _)

theorem restartChannel_basics (hello : Option LinkMessage) (inFrame : Bool) (s : State) :
    Basics s (restartChannel hello inFrame s) := by
  have hfinish : Basics s (if s.mc.restart = .now then finishRestart s else s) := by
    split
    · exact finishRestart_basics s
    · exact .refl
  refine hfinish.trans ?_
  unfold restartChannel
  generalize (if s.mc.restart = .now then finishRestart s else s) = u
  change Basics u (if (restarted hello u).mp.composed = true ∧ ¬ inFrame = true then withdrawArea (restarted hello u)
    else restarted hello u)
  split
  · exact (restarted_basics hello u).trans (withdrawArea_basics _)
  · exact restarted_basics hello u

theorem dropInbox_basics (s : State) : Basics s (dropInbox s) :=
  (Basic.mc _ s).path.trans (countTimes_basics (countChannel_basics _) _ _)

/-! ### The link under a trigger -/

/-- An event of the neighbours leaves the link as it is, or takes it to SHIFT. -/
def LinkStands (s t : State) : Prop := t.lc.link = s.lc.link ∨ t.lc.link = .shift

theorem LinkStands.trans {s t u : State} (h1 : LinkStands s t) (h2 : LinkStands t u) : LinkStands s u :=
  h2.elim (fun e => h1.imp e.trans e.trans) .inr

theorem LinkStands.not_off {s t : State} (h : LinkStands s t) (hs : s.lc.link ≠ .off) : t.lc.link ≠ .off := by
  rcases h with h | h <;> rw [h]
  · exact hs
  · simp

theorem LinkStands.of_ite {s a b : State} {c : Prop} [Decidable c] (ha : LinkStands s a) (hb : LinkStands s b) :
    LinkStands s (if c then a else b) := by
  split
  · exact ha
  · exact hb

theorem abortTest_link (o : TestOutcome) (b : Bool) (s : State) : LinkStands s (abortTest o b s) := .inl (by simp)

theorem roomAbort_link (s : State) : LinkStands s (roomAbort s) := .inl (by simp)

theorem propose_link (c : Candidate) (s : State) : LinkStands s (propose c s).1 := by
  rw [propose_eq]
  split
  · split
    · exact .inr (by simp)
    · exact .inl (by simp)
  · exact .inl rfl

theorem allocateOnce_link (cause : AllocCause) (target : Nat) (s : State) : LinkStands s (allocateOnce cause target s) := by
  have hroom : LinkStands s (if roomFails (allocInput s) (min target (ceiling s)) s.st.reqTest then roomAbort s else s) :=
    .of_ite (roomAbort_link s) (.inl rfl)
  rw [allocateOnce_eq]
  generalize (if roomFails (allocInput s) (min target (ceiling s)) s.st.reqTest then roomAbort s else s) = u at hroom
  exact .of_ite (.of_ite (hroom.trans (propose_link _ _)) (hroom.trans (propose_link _ _))) hroom

theorem trigger_link (cause : AllocCause) (s : State) : LinkStands s (trigger cause s) := by
  have hdefer : ∀ u : State, LinkStands u (deferTrigger u) := fun _ => .inl rfl
  have hallocate : ∀ cause target (u : State), LinkStands u (allocate cause target u) := fun cause target u =>
    .of_ite (.of_ite ((allocateOnce_link cause target u).trans (allocateOnce_link _ _ _))
      ((allocateOnce_link cause target u).trans (hdefer _))) (allocateOnce_link cause target u)
  unfold trigger
  split
  · exact .inl rfl
  · exact .of_ite (hallocate _ _ _) (hdefer s)

theorem syncAll_link (s : State) : LinkStands s (syncAll s) := by
  have hif : ∀ cause flag (u : State), LinkStands u (triggerIf cause flag u) := fun cause flag u =>
    .of_ite (trigger_link cause u) (.inl rfl)
  have hsync : LinkStands s (evalSync .t4 (evalSync .t3 (evalSync .t2 (evalSync .t1 s).1).1).1).1 := .inl (by simp)
  rw [syncAll_eq]
  exact (((hsync.trans (hif _ _ _)).trans (hif _ _ _)).trans (hif _ _ _)).trans (hif _ _ _)

theorem timingLinkUp_link (s : State) : LinkStands s (timingLinkUp s) := by
  have hset : ∀ new cause (u : State), LinkStands u (setTiming new cause u) := fun new cause u => by
    have h := syncAll_link ((u.modTM fun tm => { tm with state := new, goodRun := 0, largeRun := 0 }).modTM fun tm =>
      { tm with pps := tm.pps && pulsing tm })
    exact h.trans (.inl (by simp only [setTiming, announceTiming, report_frame]))
  unfold timingLinkUp
  split
  · exact .inl rfl
  · exact .of_ite (hset _ _ (s.modTM fun tm => { tm with firstOffer := .next })) (.inl rfl)

/-! ### Entries to SEARCH, OFF, LOST and UP -/

theorem plansToIdle_basics (s : State) : Basics s (plansToIdle s) :=
  (dropPending_basics s).tail (.plans _ _ (.of_same rfl rfl rfl))

/-- What the Timing, Self-Test and Tenant Unit do at an entry to SEARCH or OFF from `old` (`linkDownNeighbours_eq`). -/
def unitsLinkDown (old : LinkState) (s : State) : State :=
  closeEval (withTestTrigger (fun s => tryDone (testLinkDown false s)) (if inPair old then timingLinkDown s else s))

/-- An entry to SEARCH or OFF: the Plan Store, the channel restart, the other units, and the messages left behind. -/
theorem linkDownNeighbours_eq (old : LinkState) (hello : Option LinkMessage) (kind : EntryKind) (s : State) :
    linkDownNeighbours old hello kind s =
      let t := unitsLinkDown old (restartChannel hello (kind == .request)
        (plansToIdle (s.modSF fun sf => { sf with regainRun := none })))
      if kind = .dispatch then dropInbox t else t := rfl

theorem unitsLinkDown_basics (old : LinkState) (s : State) : Basics s (unitsLinkDown old s) := by
  have hdown : Basics s (if inPair old then timingLinkDown s else s) := by
    split
    · exact timingLinkDown_basics s
    · exact .refl
  exact (hdown.trans (withTestTrigger_basics ((testLinkDown_basics false _).trans (tryDone_basics _)))).trans
    (closeEval_basics _)

/-- The part of the neighbours after the Plan Store's. -/
theorem linkDownNeighbours_after (old : LinkState) (hello : Option LinkMessage) (kind : EntryKind) (s : State) :
    Basics (plansToIdle (s.modSF fun sf => { sf with regainRun := none })) (linkDownNeighbours old hello kind s) := by
  rw [linkDownNeighbours_eq]
  generalize plansToIdle (s.modSF fun sf => { sf with regainRun := none }) = u
  have h := (restartChannel_basics hello (kind == .request) u).trans (unitsLinkDown_basics old _)
  dsimp only
  split
  · exact h.trans (dropInbox_basics _)
  · exact h

theorem linkDownNeighbours_basics (old : LinkState) (hello : Option LinkMessage) (kind : EntryKind) (s : State) :
    Basics s (linkDownNeighbours old hello kind s) :=
  ((Basic.sf _ s).path.trans (plansToIdle_basics _)).trans (linkDownNeighbours_after old hello kind s)

/-- An entry to SEARCH, from OFF with no LOOP test running only. -/
theorem enterSearch_basics (cause : LinkCause) (extra : Byte) (kind : EntryKind) (s : State)
    (h : s.lc.link ≠ .off ∨ ¬ (s.st.kind = some .loop ∧ s.st.state = .running)) :
    Basics s (enterSearch cause extra kind s) := by
  have hmove : LinkMove s { clearLink s.lc with link := .search, roleClash := false } :=
    ⟨rfl, by simp, fun e => h.elim (absurd e) .inr, by simp, fun _ h => h⟩
  exact ((Basic.lc (fun lc => { clearLink lc with link := .search, roleClash := false }) s hmove).path.trans
    (report_basics _ _ _ _)).trans (linkDownNeighbours_basics _ _ _ _)

/-- The pending plan goes at an entry to OFF before the link is OFF, or there was none. -/
theorem plansToIdle_off (f : LC → LC) (g : SF → SF) (s : State) (hrole : (f s.lc).role = s.lc.role)
    (hidentity : (f s.lc).identity = s.lc.identity)
    (hoff : (f s.lc).link = .off) : Basics s (plansToIdle ((s.modLC f).modSF g)) := by
  refine Steps.tail ?_ (.plans _ _ (.of_same rfl rfl rfl))
  have hmove : ∀ u : State, u.lc = s.lc → u.ps.pending = none → LinkMove u (f u.lc) := fun u hu hp =>
    ⟨by rw [hu]; exact hrole, fun _ => .inr hp, fun _ => .inl (by rw [hu]; exact hoff), fun e => (by
      rw [hu, hoff] at e; cases e), fun me h => by rw [hu] at h ⊢; rw [hidentity]; exact h⟩
  unfold dropPending
  split
  · next hp =>
    exact (((((Basic.plans (fun ps => { ps with pending := none }) s (.of_dropped rfl rfl rfl)).path.tail
      (.lc f _ (hmove _ rfl rfl))).tail (.sf g _)).trans (countLink_basics .pendingDiscards _)).trans
      (closeEval_basics _))
  · next hp => exact (Basic.lc f s (hmove s rfl (by simpa using hp))).path.tail (.sf g _)

/-- An entry to OFF: the link, the neighbours, the report to come. -/
theorem enterOff_eq (reason : Byte) (s : State) :
    enterOff reason s = (linkDownNeighbours s.lc.link none .boundary (s.modLC fun lc =>
      { clearLink lc with link := .off, stop := none })).modLC fun lc => { lc with offReport := some (s.lc.link, reason) } := rfl

theorem enterOff_basics (reason : Byte) (s : State) : Basics s (enterOff reason s) := by
  have hdown := (plansToIdle_off (fun lc => { clearLink lc with link := .off, stop := none })
    (fun sf => { sf with regainRun := none }) s rfl rfl rfl).trans (linkDownNeighbours_after s.lc.link none .boundary _)
  have hreport : ∀ u : State, Basic u (u.modLC fun lc => { lc with offReport := some (s.lc.link, reason) }) := fun u =>
    .lc _ u (.of_same rfl rfl rfl)
  rw [enterOff_eq]
  exact hdown.tail (hreport _)

theorem failShift_basics (failure : ShiftFailure) (p : Proposal) (s : State) : Basics s (failShift failure p s) :=
  ((Basic.lc _ s (.of_same rfl rfl rfl)).path.trans (countLink_basics .shiftsFailed _)).trans (report_basics _ _ _ _)

theorem endShift_basics (accepted : Bool) (s : State) : Basics s (endShift accepted s) := by
  unfold endShift
  split
  · next h => exact (Basic.lc _ s (.of_between rfl (by simp [h.1]) (by simp) (by simp))).path.trans (report_basics _ _ _ _)
  · exact .refl

/-- The link in LOST, with its report and the Plan Store's part (R31, R81); `enterLost_eq` ties it to the model. -/
def linkLost (cause : LinkCause) (s : State) : State :=
  (dropPending (reportLink s.lc.link cause 0 ((s.modLC fun lc => { lc with link := .lost, lostCount := some 0 }).modSF
    fun sf => { sf with regainRun := some 0 }))).modPS fun ps => { ps with fallbackDue := .next }

/-- A shift still pending at an entry to LOST fails (R81); `enterLost_eq` ties it to the model. -/
def proposalLost (s : State) : State :=
  match s.lc.proposal with
  | some p => failShift .linkLost p s
  | none => s

/-- An entry to LOST: the link and the plans, the Timing Unit, the shift, the test. -/
theorem enterLost_eq (cause : LinkCause) (s : State) :
    enterLost cause s = withTestTrigger (fun s => tryDone (testLinkDown true s))
      (proposalLost (if inPair s.lc.link then timingLinkDown (linkLost cause s) else linkLost cause s)) := rfl

theorem linkLost_basics (cause : LinkCause) (s : State) (h : s.lc.link ≠ .off) : Basics s (linkLost cause s) :=
  (((((Basic.lc _ s (.of_between rfl h (by simp) (by simp))).path.tail (.sf _ _)).trans (report_basics _ _ _ _)).trans
    (dropPending_basics _)).tail (.plans _ _ (.of_same rfl rfl rfl)))

theorem proposalLost_basics (s : State) : Basics s (proposalLost s) := by
  unfold proposalLost
  split
  · exact failShift_basics _ _ s
  · exact .refl

theorem enterLost_basics (cause : LinkCause) (s : State) (h : s.lc.link ≠ .off) : Basics s (enterLost cause s) := by
  rw [enterLost_eq]
  have h1 := linkLost_basics cause s h
  have h2 : Basics s (if inPair s.lc.link then timingLinkDown (linkLost cause s) else linkLost cause s) := by
    split
    · exact h1.trans (timingLinkDown_basics _)
    · exact h1
  exact (h2.trans (proposalLost_basics _)).trans
    (withTestTrigger_basics ((testLinkDown_basics true _).trans (tryDone_basics _)))

/-- The link in UP, with its report and what the Timing and the Tenant Unit do; `enterUp_eq` ties it to the model. -/
def linkUp (cause : LinkCause) (s : State) : State :=
  closeEval (timingLinkUp (reportLink s.lc.link cause 0 (((s.modLC fun lc =>
    { lc with link := .up, farFast := 0, farSlow := 0, farHold := PerTenant.const false, joinRecord := none,
              lostCount := none }).modSF fun sf => { sf with regainRun := none }).modCA fun ca =>
    { ca with farDemands := PerTenant.const 0 })))

/-- An entry to UP: LOST in the same event without lock, a waiting trigger otherwise. -/
theorem enterUp_eq (cause : LinkCause) (s : State) :
    enterUp cause s = if cause = .joined ∧ ¬ (linkUp cause s).sf.locked then enterLost .lockLost (linkUp cause s)
      else serveWaiting (linkUp cause s) := rfl


theorem linkUp_not_off (cause : LinkCause) (s : State) : (linkUp cause s).lc.link ≠ .off := by
  have h := (timingLinkUp_link (reportLink s.lc.link cause 0 (((s.modLC fun lc =>
    { lc with link := .up, farFast := 0, farSlow := 0, farHold := PerTenant.const false, joinRecord := none,
              lostCount := none }).modSF fun sf => { sf with regainRun := none }).modCA fun ca =>
    { ca with farDemands := PerTenant.const 0 }))).not_off (by simp)
  simpa [linkUp] using h

theorem enterUp_basics (cause : LinkCause) (s : State) (h : s.lc.link ≠ .off) : Basics s (enterUp cause s) := by
  have h1 : Basics s (linkUp cause s) :=
    ((((((Basic.lc _ s (.of_between rfl h (by simp) (by simp))).path.tail (.sf _ _)).tail (.ca _ _)).trans
      (report_basics _ _ _ _)).trans (timingLinkUp_basics _)).trans (closeEval_basics _))
  rw [enterUp_eq]
  split
  · exact h1.trans (enterLost_basics _ _ (linkUp_not_off cause s))
  · exact h1.trans (serveWaiting_basics _)

/-! ### Changes of the active plan -/

/-- The Link Controller's shift at a change to the plan proposed (R79, R80); `linkPlanChange_eq` ties it to the model. -/
def shiftAccepted (s : State) : State :=
  match s.lc.proposal with
  | some _ =>
    endShift true
      (countLink .shiftsAccepted
        (s.modLC fun lc => { lc with proposal := none, failures := 0, freeNotice := .next, resolvedHere := true }))
  | none => endShift true s

/-- The change of the active plan that joins the link (R67, R68); `linkPlanChange_eq` ties it to the model. -/
def joinsBy (cause : PlanCause) (s : State) : Bool :=
  s.lc.stop.isNone && cause == .effective &&
    match s.lc.role with
    | .hub => s.lc.link == .search
    | .site => s.lc.link == .join

/-- What the Link Controller does on a change of the active plan. -/
theorem linkPlanChange_eq (cause : PlanCause) (s : State) :
    linkPlanChange cause s =
      let s := s.modLC fun lc => { lc with sinceChange := 0 }
      if cause = .effective ∨ cause = .adopted then
        if joinsBy cause (shiftAccepted s) then enterUp .joined (shiftAccepted s) else shiftAccepted s
      else s := rfl

theorem shiftAccepted_basics (s : State) : Basics s (shiftAccepted s) := by
  unfold shiftAccepted
  split
  · exact (((Basic.lc _ s (.of_same rfl rfl rfl)).path.trans (countLink_basics .shiftsAccepted _)).trans
      (endShift_basics _ _))
  · exact endShift_basics _ s

theorem joinsBy_not_off {cause : PlanCause} {s : State} (h : joinsBy cause s = true) : s.lc.link ≠ .off := by
  intro hoff
  unfold joinsBy at h
  cases hr : s.lc.role <;> simp [hr, hoff] at h

theorem linkPlanChange_basics (cause : PlanCause) (s : State) : Basics s (linkPlanChange cause s) := by
  rw [linkPlanChange_eq]
  have h : Basics s (s.modLC fun lc => { lc with sinceChange := 0 }) := (Basic.lc _ s (.of_same rfl rfl rfl)).path
  dsimp only
  split
  · split
    · next hj => exact (h.trans (shiftAccepted_basics _)).trans (enterUp_basics _ _ (joinsBy_not_off hj))
    · exact h.trans (shiftAccepted_basics _)
  · exact h

/-- A change of the active plan with everything that it brings the neighbours (R26). -/
theorem notifyPlan_changes (f : PS → PS) (cause : PlanCause) (s : State) (h : Activation s (f s.ps)) :
    Changes s (notifyPlan cause s.ps.active (s.modPS f)) := by
  have htest : Changes s (withTestTrigger (testPlanChange s.ps.active) (closeEval (s.modPS f))) := by
    have h1 : Changes s (testPlanChange s.ps.active (closeEval (s.modPS f))) := .single (.activate f s h)
    unfold withTestTrigger
    dsimp only
    split
    · exact h1.trans (trigger_basics _ _).changes
    · exact h1
  exact (htest.trans (linkPlanChange_basics cause _).changes).trans (report_basics _ _ _ _).changes

theorem activatePending_changes (cause : PlanCause) (s : State) : Changes s (activatePending cause s) := by
  unfold activatePending
  split
  · exact .refl
  · next p hp =>
    have hcount : ∀ u : State, u = countLink .planActivations s → Basics s (if cause = .adopted then
        countLink .headerAdoptions u else u) := fun u hu => by
      subst hu
      split
      · exact (countLink_basics _ s).trans (countLink_basics _ _)
      · exact countLink_basics _ s
    dsimp only
    refine (hcount _ rfl).changes.trans ?_
    have hps : (if cause = .adopted then countLink .headerAdoptions (countLink .planActivations s)
        else countLink .planActivations s).ps = s.ps := by split <;> rfl
    generalize (if cause = .adopted then countLink .headerAdoptions (countLink .planActivations s)
        else countLink .planActivations s) = u at hps
    exact notifyPlan_changes (fun ps => { ps with
      pending := none, fallback := fallbackPlan p.plan.number p.carried, active := p.plan, previous := some ps.active })
      cause u (.pending p _ (hps ▸ hp) rfl rfl rfl)

theorem takeFallback_changes (s : State) : Changes s (takeFallback s) := by
  unfold takeFallback
  have h : Changes s (s.modPS fun ps => { ps with fallbackDue := .no }) :=
    (Basic.plans _ s (.of_same rfl rfl rfl)).changes
  dsimp only
  split
  · exact h
  · exact h.trans (notifyPlan_changes (fun ps => { ps with active := s.ps.fallback, previous := some ps.active }) _ _
      (.fallback _ rfl rfl rfl))

theorem takeIdle_changes (s : State) : Changes s (takeIdle s) := by
  unfold takeIdle
  dsimp only
  split
  · next h =>
    exact (Basic.plans (fun ps =>
      { ps with idleDue := .no, previous := none, fallback := Plan.flaggedIdle, active := Plan.flaggedIdle }) s
      ⟨h.symm, fun q hq => ⟨q, hq, rfl, rfl⟩, .inr rfl⟩).changes.trans (closeEval_basics _).changes
  · exact notifyPlan_changes (fun ps =>
      { ps with idleDue := .no, previous := none, fallback := Plan.flaggedIdle, active := Plan.flaggedIdle }) _ s
      (.idle _ rfl rfl rfl)

theorem takeLoopSwitch_changes (s : State) : Changes s (takeLoopSwitch s) := by
  have hidle : Changes s (if s.ps.idleDue = .now then takeIdle s else s) := by
    split
    · exact takeIdle_changes s
    · exact .refl
  unfold takeLoopSwitch
  refine hidle.trans ?_
  generalize (if s.ps.idleDue = .now then takeIdle s else s) = u
  have hswitch : Changes u ((u.modMP fun mp => { mp with loopback := u.mp.loopSwitch, loopDue := .no }).modSF fun sf =>
      { sf with locked := false, goodRun := 0, missRun := 0, lockedBefore := false }) :=
    Basics.changes ((Basic.mp (fun mp => { mp with loopback := u.mp.loopSwitch, loopDue := .no }) u rfl).path.tail (.sf _ _))
  dsimp only
  refine hswitch.trans ?_
  split
  · next hon =>
    refine ((Basic.test (fun st => { st with activation := some u.mp.frame }) _
      (.of_same ⟨rfl, rfl, rfl, rfl, rfl, rfl, rfl, rfl, rfl⟩)).changes.trans ?_)
    exact notifyPlan_changes (fun ps => { ps with active := loopPlan (u.st.test.getD 0), previous := some ps.active }) _ _
      (.loop _ hon rfl rfl rfl)
  · exact notifyPlan_changes (fun ps => { ps with active := u.ps.fallback, previous := some ps.active }) _ _
      (.fallback _ rfl rfl rfl)

theorem takeDueChanges_changes (s : State) : Changes s (takeDueChanges s) := by
  have hstep : ∀ (c : State → Bool) (f : State → State), (∀ u, Changes u (f u)) → ∀ u, Changes u (if c u then f u else u) :=
    fun c f hf u => by
      split
      · exact hf u
      · exact .refl
  have hstep' : ∀ (c : State → Prop) [∀ u, Decidable (c u)] (f : State → State), (∀ u, Changes u (f u)) →
      ∀ u, Changes u (if c u then f u else u) := fun c _ f hf u => by
    split
    · exact hf u
    · exact .refl
  exact ((((hstep' (fun u => u.mp.loopDue = .now) _ takeLoopSwitch_changes s).trans
    (hstep' (fun u => u.ps.fallbackDue = .now) _ takeFallback_changes _)).trans
    (hstep' (fun u => u.ps.idleDue = .now) _ takeIdle_changes _)).trans
    (hstep adoptionDue _ (activatePending_changes .adopted) _)).trans
    (hstep activationDue _ (activatePending_changes .effective) _)

end Sys2Proof.Machine

namespace Sys2Proof.Machine

set_option Elab.async false

/-! ### The composition of a frame -/

theorem recordStart_basics (s : State) : Basics s (recordStart s) := timing_basics _ s

theorem recordUnsent_basics (s : State) : Basics s (recordUnsent s) :=
  (Basic.tenants _ s ⟨rfl, fun _ => ⟨rfl, rfl, rfl, rfl, rfl⟩⟩).path

theorem holdFrame_basics (p0 : List Byte) (owned : List (List Byte)) (s : State) : Basics s (holdFrame p0 owned s) := by
  unfold holdFrame
  dsimp only
  split
  · exact (countLink_basics .mutedFrames s).tail (.mp (fun mp => { mp with txBefore := mp.tx, tx := _, composed := true }) _ rfl)
  · exact (Basic.mp (fun mp => { mp with txBefore := mp.tx, tx := _, composed := true }) s rfl).path

/-- What the composition of an area leaves in the channel. -/
def areaLeft (a : AreaDone) (mc : MC) : MC := { mc with timeHolder := a.timeHolder, queue := a.queue, released := a.released }

/-- The time message of an area is placed (R128, R131). -/
def areaTimed (a : AreaDone) (r : FrameStart) (s : State) : State :=
  match a.timePlaced with
  | some m => timePlaced m r s
  | none => s

/-- The composition of an area counts what it carries, places its time message and takes the rest from the channel (R43). -/
theorem takeArea_composed {s : State} (h : s.mc.abortArea = false) :
    (takeArea s).1 = (areaTimed (composeArea s.mc s.tm.current) s.tm.current
      (countArea (composeArea s.mc s.tm.current).placed
        ((composeArea s.mc s.tm.current).timePlaced.any (startsExchange s.tm))
        ((composeArea s.mc s.tm.current).timePlaced.any isResponse) s)).modMC
      (areaLeft (composeArea s.mc s.tm.current)) := by
  unfold takeArea
  rw [if_neg (by simp [h])]
  rfl

theorem takeArea_basics (s : State) : Basics s (takeArea s).1 := by
  cases h : s.mc.abortArea with
  | true => simp only [takeArea, h, if_true]; exact .refl
  | false =>
    have htimed : ∀ a r u, Basics u (areaTimed a r u) := fun a r u => by
      unfold areaTimed
      split
      · exact timePlaced_basics _ _ u
      · exact .refl
    rw [takeArea_composed h]
    exact ((countArea_basics _ _ _ s).trans (htimed _ _ _)).tail (.mc _ _)

theorem placeFrame_basics (s : State) : Basics s (placeFrame s) :=
  (((((takeArea_basics s).trans (composeTenant_basics .t1 _)).trans (composeTenant_basics .t2 _)).trans
    (composeTenant_basics .t3 _)).trans (composeTenant_basics .t4 _)).trans (holdFrame_basics _ _ _)

theorem countStop_basics (s : State) : Basics s (countStop s) := (Basic.lc _ s (.of_same rfl rfl rfl)).path

/-- No fall is called for while a sweep runs (R74). -/
theorem fallCalled_idle {s : State} (h : fallCalled s = true) : sweepBusy s.st = false := by
  simp only [fallCalled, decisionsOpen, Bool.and_eq_true, Bool.not_eq_true'] at h
  exact h.1.1.2

/-- No rise is called for while a sweep runs (R75). -/
theorem riseCalled_idle {s : State} (h : riseCalled s = true) : sweepBusy s.st = false := by
  simp only [riseCalled, decisionsOpen, Bool.and_eq_true, Bool.not_eq_true'] at h
  exact h.1.1.1.1.1.1.1.2

theorem TargetFits.of_idle {target : Nat} {s : State} (h : sweepBusy s.st = false) : TargetFits target s :=
  fun hb => by simp [h] at hb

theorem evaluateFall_basics (s : State) : Basics s (evaluateFall s) := by
  unfold evaluateFall
  split
  · next h => exact allocate_basics _ (.of_idle (fallCalled_idle h))
  · exact .refl

theorem afterSending_basics (before : PerTenant TenantRec) (s : State) : Basics s (afterSending before s) :=
  ((((closeEval_basics s).trans (drainCompletion_basics .t1 _ _)).trans (drainCompletion_basics .t2 _ _)).trans
    (drainCompletion_basics .t3 _ _)).trans (drainCompletion_basics .t4 _ _)

theorem fallWhen_basics (b : Bool) (s : State) : Basics s (if b then evaluateFall s else s) := by
  split
  · exact evaluateFall_basics s
  · exact .refl

theorem composeFrame_changes (elapsed : Nat) (s : State) : Changes s (composeFrame elapsed s) := by
  have hstart : Changes s (recordUnsent (recordStart (takeDueChanges (advanceCounter elapsed s)))) :=
    (((advanceCounter_basics elapsed s).changes.trans (takeDueChanges_changes _)).trans (recordStart_basics _).changes).trans
      (recordUnsent_basics _).changes
  refine hstart.trans (Basics.changes ?_)
  exact ((((placeFrame_basics _).trans (countStop_basics _)).trans (afterSending_basics _ _)).trans
    (withTestTrigger_basics (testComposed_basics _ _))).trans (fallWhen_basics _ _)

/-! ### The taking of a received frame -/

theorem takeQuality_basics (m : ModemFrame) (s : State) : Basics s (takeQuality m s) := by
  unfold takeQuality
  dsimp only
  refine Steps.tail ?_ (.lc _ _ (.of_same rfl rfl rfl))
  split
  · exact countLink_basics _ s
  · exact .refl

theorem countHeader_basics (r : Received) (s : State) : Basics s (countHeader r s) := by
  unfold countHeader
  split
  · exact countLink_basics _ s
  · split <;> exact countLink_basics _ s

theorem renumberOn_basics (h : Header) (s : State) : Basics s (renumberOn h s) := by
  unfold renumberOn
  split
  · exact (Basic.mp _ s rfl).path
  · exact .refl

/-- The link is UP or in SHIFT, so not in OFF. -/
theorem inPair_not_off {l : LinkState} (h : inPair l = true) : l ≠ .off := by
  rintro rfl; simp [inPair] at h

/-- A loss of frame lock takes UP and SHIFT to LOST (R81); `takeLock_eq` ties it to the model. -/
def lockLost (s : State) : State :=
  let s := countLink .lockLosses s
  if inPair s.lc.link ∧ s.lc.stop = none then enterLost .lockLost s else s

theorem lockLost_basics (s : State) : Basics s (lockLost s) := by
  unfold lockLost
  dsimp only
  split
  · next h => exact (countLink_basics _ s).trans (enterLost_basics _ _ (inPair_not_off h.1))
  · exact countLink_basics _ s

/-- The Slot Framer after a frame: its lock, and in LOST its regain run (R14, R15); `takeLock_eq` ties it to the model. -/
def framerStepped (good : Bool) (s : State) : SF :=
  if s.lc.link == .lost then { (lockStep good s.sf).1 with regainRun := regainStep good s.sf.regainRun }
  else (lockStep good s.sf).1

/-- A good header's frame number is compared with the boundary's (R2); `takeLock_eq` ties it to the model. -/
def mismatchCounted (header : Option Header) (s : State) : State :=
  match header with
  | some h => if h.frame ≠ s.mp.frame - 1 then countLink .frameMismatches s else s
  | none => s

/-- What follows the change of lock; `takeLock_eq` ties it to the model. -/
def lockFollowed (change : LockChange) (header : Option Header) (s : State) : State :=
  match change, header with
  | .gained, some h => renumberOn h (countLink .lockGains s)
  | .gained, none => countLink .lockGains s
  | .lost, _ => lockLost s
  | .same, _ => s

/-- Frame lock for one received frame, before what a regain brings. -/
def lockAdvanced (header : Option Header) (s : State) : State :=
  lockFollowed (lockStep header.isSome s.sf).2 header
    (mismatchCounted header (s.modSF fun _ => framerStepped header.isSome s))

theorem takeLock_eq (header : Option Header) (s : State) :
    takeLock header s =
      if s.lc.link == .lost && regainedNow s.sf.regainRun (framerStepped header.isSome s).regainRun && s.lc.stop.isNone then
        enterUp .regained (lockAdvanced header s)
      else lockAdvanced header s := rfl

theorem mismatchCounted_basics (header : Option Header) (s : State) : Basics s (mismatchCounted header s) := by
  unfold mismatchCounted
  split
  · split
    · exact countLink_basics _ s
    · exact .refl
  · exact .refl

theorem lockFollowed_basics (change : LockChange) (header : Option Header) (s : State) :
    Basics s (lockFollowed change header s) := by
  unfold lockFollowed
  split
  · exact (countLink_basics _ s).trans (renumberOn_basics _ _)
  · exact countLink_basics _ s
  · exact lockLost_basics s
  · exact .refl

theorem mismatchCounted_lc (header : Option Header) (s : State) : (mismatchCounted header s).lc = s.lc := by
  unfold mismatchCounted
  split
  · split <;> rfl
  · rfl

theorem lockAdvanced_basics (header : Option Header) (s : State) : Basics s (lockAdvanced header s) :=
  ((Basic.sf _ s).path.trans (mismatchCounted_basics header _)).trans (lockFollowed_basics _ header _)

/-- A link in LOST stays there when lock is lost or gained. -/
theorem lockFollowed_lost (change : LockChange) (header : Option Header) {s : State} (h : s.lc.link = .lost) :
    (lockFollowed change header s).lc.link = .lost := by
  unfold lockFollowed
  split
  · simp [h]
  · simp [h]
  · simp [lockLost, h, inPair]
  · exact h

theorem takeLock_basics (header : Option Header) (s : State) : Basics s (takeLock header s) := by
  rw [takeLock_eq]
  split
  · next hl =>
    simp only [Bool.and_eq_true, beq_iff_eq] at hl
    have hlost : (lockAdvanced header s).lc.link = .lost :=
      lockFollowed_lost _ header (by rw [mismatchCounted_lc]; exact hl.1.1)
    exact (lockAdvanced_basics header s).trans (enterUp_basics _ _ (by simp [hlost]))
  · exact lockAdvanced_basics header s

theorem distribute_basics (h : Header) (plan : Plan) (r : Received) (s : State) : Basics s (distribute h plan r s) :=
  (((((takeTenantPositions_basics .t1 _ s).trans (takeTenantPositions_basics .t2 _ _)).trans
    (takeTenantPositions_basics .t3 _ _)).trans (takeTenantPositions_basics .t4 _ _)).trans (keepTaken_basics _ _ _)).trans
    (withTestTrigger_basics (takeTestPositions_basics _ _ _ _ _))

theorem noPositions_basics (s : State) : Basics s (noPositions s) := (gapAll_basics s).trans (keepTaken_basics _ _ _)

theorem takeAreaMessages_basics (h : Header) (p0 : List Byte) (s : State) : Basics s (takeAreaMessages h p0 s) := by
  have hcounts : ∀ (cs : List ChannelCounter) (u : State), Basics u (cs.foldl (fun s c => countChannel c s) u) := fun cs => by
    induction cs with
    | nil => exact fun _ => .refl
    | cons c cs ih => exact fun u => (countChannel_basics c u).trans (ih _)
  unfold takeAreaMessages
  dsimp only
  exact (hcounts _ s).trans (Basic.mc _ _).path

theorem skipMisplaced_basics (ms : List RxMessage) (s : State) : Basics s (skipMisplaced ms s) := by
  induction ms generalizing s with
  | nil => exact (Basic.mc _ s).path
  | cons m ms ih =>
    unfold skipMisplaced
    split
    · exact ((countChannel_basics _ s).trans (countChannel_basics _ _)).trans (ih _)
    · exact (Basic.mc _ s).path

theorem takeNibbles_basics (h : Header) (r : Received) (s : State) : Basics s (takeNibbles h r s) := by
  unfold takeNibbles
  split
  · exact .refl
  · exact takeFarNibbles_basics _ s

theorem markBy_basics (h : Header) (r : Received) (s : State) : Basics s (markBy h r s) := by
  unfold markBy
  split
  · exact markPending_basics s
  · exact .refl

theorem takePositions_basics (h : Header) (r : Received) (d : Option Plan) (s : State) :
    Basics s (takePositions h r d s) := by
  unfold takePositions
  split
  · exact distribute_basics _ _ _ s
  · exact (countLink_basics _ s).trans (noPositions_basics _)

theorem fallBy_basics (h : Header) (r : Received) (s : State) : Basics s (fallBy h r s) := by
  unfold fallBy
  split
  · next hfell =>
    have hpair : inPair s.lc.link = true := by
      have := hfell.2
      simp only [partnerFell, Bool.and_eq_true] at this
      exact this.1.1.1.1
    exact (countLink_basics _ s).trans (enterLost_basics _ _ (inPair_not_off hpair))
  · exact .refl

theorem takeMessages_basics (h : Header) (r : Received) (s : State) : Basics s (takeMessages h r s) := by
  unfold takeMessages
  split
  · exact .refl
  · exact (takeAreaMessages_basics _ _ s).trans (skipMisplaced_basics _ _)

theorem takeGoodFrame_basics (h : Header) (r : Received) (s : State) : Basics s (takeGoodFrame h r s) :=
  ((((takeNibbles_basics h r s).trans (markBy_basics h r _)).trans (takePositions_basics h r _ _)).trans
    (fallBy_basics h r _)).trans (takeMessages_basics h r _)

/-- What a frame brings after frame lock: its contents, or a gap. -/
def takeContents (header : Option Header) (r : Received) (s : State) : State :=
  match header with
  | some h => takeGoodFrame h r s
  | none => noPositions s

theorem receiveFrame_eq (m : ModemFrame) (s : State) :
    receiveFrame m s =
      let t := (takeContents (receivedHeader (passedFrame m (atReception s))) (passedFrame m (atReception s))
        (lockTaken m s)).modMP fun mp => { mp with rxTaken := true }
      if t.mp.composed then evaluateFall t else t := rfl

theorem atReception_changes (s : State) : Changes s (atReception s) := by
  unfold atReception
  split
  · exact takeLoopSwitch_changes s
  · exact .refl

theorem lockTaken_changes (m : ModemFrame) (s : State) : Changes s (lockTaken m s) :=
  (atReception_changes s).trans (Basics.changes ((((Basic.tenants (fun tn => { tn with out := PerTenant.const [] }) (atReception s)
    ⟨rfl, fun _ => ⟨rfl, rfl, rfl, rfl, rfl⟩⟩).path.trans (takeQuality_basics m _)).trans (countHeader_basics _ _)).trans
    (takeLock_basics _ _)))

theorem takeContents_basics (header : Option Header) (r : Received) (s : State) : Basics s (takeContents header r s) := by
  cases header with
  | some h => exact takeGoodFrame_basics h r s
  | none => exact noPositions_basics s

theorem receiveFrame_changes (m : ModemFrame) (s : State) : Changes s (receiveFrame m s) := by
  rw [receiveFrame_eq]
  exact (lockTaken_changes m s).trans (Basics.changes (((takeContents_basics _ _ _).tail
    (.mp (fun mp => { mp with rxTaken := true }) _ rfl)).trans (fallWhen_basics _ _)))

end Sys2Proof.Machine

namespace Sys2Proof.Machine

set_option Elab.async false

/-! ### The Control Port -/

/-- A change of the Control Port that adds no report. -/
theorem control_basics (f : CP → CP) (s : State)
    (h : (f s.cp).reports = s.cp.reports ∧ (f s.cp).rate = s.cp.rate := by exact ⟨rfl, rfl⟩) : Basics s (s.modCP f) :=
  (Basic.cp f s (by rw [h.1]; exact Nat.le_max_left _ _) h.2).path

theorem setService_basics (v : Service) (s : State) : Basics s (setService v s) := control_basics _ s

theorem setReceiver_basics (v : Receiver) (s : State) : Basics s (setReceiver v s) := control_basics _ s

theorem serveNext_basics (s : State) : Basics s (serveNext s) := by
  unfold serveNext
  split
  · split
    · exact (countControl_basics _ s).trans (setService_basics _ _)
    · split
      · exact setService_basics _ s
      · exact (countControl_basics _ s).trans (setService_basics _ _)
  · exact .refl

/-- A request acts on the state with one request more served, when it is its turn (R167). -/
theorem takeRequest_changes (kind : Byte) (body : List Byte) {owner : State → Answer}
    (h : ∀ s, Changes s (owner s).state) (s : State) : Changes s (takeRequest kind body owner s) := by
  rcases takeRequest_cases kind body owner s with e | ⟨r, s', hs', e⟩
  · rw [e]; exact .refl
  · have hjoin : Basics s s' := by
      rcases hs' with rfl | rfl
      · exact .refl
      · exact control_basics _ s
    rw [e]
    exact ((Basics.changes (hjoin.trans (countControl_basics _ _))).trans (h _)).trans (setService_basics _ _).changes

theorem joinBuffer_basics (r : Request) (s : State) : Basics s (joinBuffer r s) := by
  unfold joinBuffer
  split
  · exact (control_basics _ s).trans (serveNext_basics _)
  · exact countControl_basics _ s

theorem completeFrame_basics (gathered : List Byte) (s : State) : Basics s (completeFrame gathered s) := by
  unfold completeFrame
  dsimp only
  split
  · exact joinBuffer_basics _ s
  · exact countControl_basics _ s

theorem takeChar_basics (s : State) (c : Byte) : Basics s (takeChar s c) := by
  unfold takeChar
  split
  · split
    · exact setReceiver_basics _ s
    · exact .refl
  · dsimp only
    split
    · exact setReceiver_basics _ s
    · split
      · exact (setReceiver_basics _ s).trans (countControl_basics _ _)
      · split
        · exact (setReceiver_basics _ s).trans (completeFrame_basics _ _)
        · exact setReceiver_basics _ s

theorem takeChars_basics (chars : List Byte) (s : State) : Basics s (takeChars chars s) := by
  have hfold : ∀ u : State, Basics u (chars.foldl takeChar u) := by
    induction chars with
    | nil => exact fun _ => .refl
    | cons c cs ih => exact fun u => (takeChar_basics u c).trans (ih _)
  unfold takeChars
  split
  · exact .refl
  · exact hfold s

theorem discardFrame_basics (c : ControlCounter) (s : State) : Basics s (discardFrame c s) := by
  unfold discardFrame
  split
  · exact (setReceiver_basics _ s).trans (countControl_basics _ _)
  · exact .refl

theorem endReply_basics (s : State) : Basics s (endReply s) := by
  unfold endReply
  split
  · split
    · exact control_basics _ s
    · exact (control_basics _ s).trans (serveNext_basics _)
  · exact .refl

/-! ### The link messages -/

/-- A message acts on the state from which it has been taken up, when it is its turn (R51). -/
theorem dispatchMessage_changes (m : LinkMessage) {act : State → State} (h : ∀ s, Basics s (act s)) (s : State) :
    Changes s (dispatchMessage m act s) := by
  rcases dispatchMessage_cases m act s with ⟨-, e⟩ | ⟨r, rest, -, -, e⟩ | e
  · rw [e]
    exact Basics.changes ((countChannel_basics _ s).trans (h _))
  · rw [e]
    exact Basics.changes ((((Basic.mc _ s).path.trans (countChannel_basics _ _)).trans (h _)).trans
      (skipMisplaced_basics _ _))
  · rw [e]; exact .refl

theorem unexpected_basics (s : State) : Basics s (unexpected s) := countLink_basics _ s

theorem roleClash_basics (siteId : SiteId) (s : State) : Basics s (roleClash siteId s) := by
  unfold roleClash
  dsimp only
  split
  · exact countLink_basics _ s
  · exact ((countLink_basics _ s).tail (.lc (fun lc => { lc with roleClash := true }) _ (.of_same rfl rfl rfl))).trans
      (report_basics _ _ _ _)

/-- The JOIN of an accepted HELLO is offered, with its JOIN record (R66); `acceptHello_eq` ties it to the model. -/
def joinOffered (siteId : SiteId) (s : State) : State :=
  let t := clearRepeat (s.modLC fun lc =>
    { lc with partner := some siteId, joinRecord := some ⟨frameAdd s.mp.frame s.lc.lead, fallbackCounts s⟩ })
  send .linkController (.join (ownSiteId t) (frameAdd s.mp.frame s.lc.lead) ((fallbackCounts s).map (BitVec.ofNat 8))) t

theorem acceptHello_eq (siteId : SiteId) (s : State) : acceptHello siteId s =
    reportLink .search .joinSent 0 ((joinOffered siteId s).modLC fun lc => { lc with link := .join }) := rfl

theorem send_joinRecord (p : Producer) (m : LinkMessage) (s : State) : (send p m s).lc.joinRecord = s.lc.joinRecord := by
  obtain ⟨_, hlc, -⟩ := send_only p m s
  rw [hlc]

/-- The JOIN record of an accepted HELLO gives a CLOSED tenant no position (R66). -/
theorem acceptHello_basics (siteId : SiteId) {s : State} (h : s.lc.link = .search) :
    Basics s (acceptHello siteId s) := by
  have hoffer : Basics s (joinOffered siteId s) :=
    ((Basic.lc (fun lc => { lc with
      partner := some siteId, joinRecord := some ⟨frameAdd s.mp.frame s.lc.lead, fallbackCounts s⟩ }) s
      ⟨rfl, fun e => .inl e, fun e => .inl e, fun e => (by rw [h] at e; cases e), fun _ h => h⟩).path.tail
      (.mc (fun mc => { mc with repeatHolder := none }) _)).trans (send_basics _ _ _)
  have hrecord : (joinOffered siteId s).lc.joinRecord = some ⟨frameAdd s.mp.frame s.lc.lead, fallbackCounts s⟩ :=
    send_joinRecord _ _ _
  have hlink : (joinOffered siteId s).lc.link = .search := by simpa [joinOffered] using h
  have htenants : (joinOffered siteId s).tn = s.tn := by simp [joinOffered]
  rw [acceptHello_eq]
  have hmove : LinkMove (joinOffered siteId s) { (joinOffered siteId s).lc with link := .join } := by
    refine ⟨rfl, by simp, (fun e => by rw [hlink] at e; cases e), fun _ => .inr fun j hj t ht => ?_, fun _ h => h⟩
    rw [hrecord] at hj
    cases hj
    exact fallbackCounts_closed (by simpa [tenantRec, htenants] using ht)
  exact (hoffer.tail (.lc _ _ hmove)).trans (report_basics _ _ _ _)

theorem partnerRestart_basics {s : State} (h : s.lc.link ≠ .off) : Basics s (partnerRestart s) :=
  (countLink_basics _ s).trans (enterSearch_basics _ _ _ _ (.inl h))

theorem takeHello_basics (role : Byte) (siteId peer : SiteId) (s : State) : Basics s (takeHello role siteId peer s) := by
  have hstop : ∀ {t : State}, Basics s t → Basics s (if s.lc.stop.isSome then unexpected s else t) := fun ht => by
    split
    · exact unexpected_basics s
    · exact ht
  unfold takeHello
  dsimp only
  split
  · exact .refl
  · exact hstop .refl
  · next hlink =>
    split
    · exact hstop (roleClash_basics _ s)
    · split
      · exact hstop .refl
      · split
        · exact countLink_basics _ s
        · split
          · exact acceptHello_basics siteId hlink
          · exact .refl
  · next hoff _ _ =>
    refine hstop ?_
    split
    · exact countLink_basics _ s
    · split
      · exact partnerRestart_basics hoff
      · exact countLink_basics _ s

theorem takeJoinInSearch_basics (siteId : SiteId) (effective : FrameNo) (counts : PerTenant Nat) {s : State}
    (hlink : s.lc.link = .search) (hrole : s.lc.role = .hub) :
    Basics s (takeJoinInSearch siteId effective counts s) := by
  rw [takeJoinInSearch_eq]
  split
  · split
    · exact (((offerPlan_basics (by simp [hlink]) fun hr => by simp [hrole] at hr).tail
        (.lc (fun lc => { lc with partner := some siteId }) _ (.of_same rfl rfl rfl))).tail
        (.mc (fun mc => { mc with repeatHolder := none }) _)).trans (send_basics _ _ _)
    · exact countLink_basics _ s
  · exact countLink_basics _ s

theorem inService_not_off {l : LinkState} (h : inService l = true) : l ≠ .off := by
  rintro rfl; simp [inService, inPair] at h

theorem takeJoin_basics (siteId : SiteId) (effective : FrameNo) (counts : PerTenant Nat) (s : State) :
    Basics s (takeJoin siteId effective counts s) := by
  unfold takeJoin
  split
  · exact unexpected_basics s
  · next hrole =>
    split
    · next hlink => exact takeJoinInSearch_basics _ _ _ hlink hrole
    · split
      · next h => exact partnerRestart_basics (inService_not_off h.1)
      · exact unexpected_basics s

theorem takeJoinAck_basics (siteId : SiteId) (effective : FrameNo) (s : State) :
    Basics s (takeJoinAck siteId effective s) := by
  unfold takeJoinAck
  split
  · next h =>
    simp only [joinAckInTime, Bool.and_eq_true, beq_iff_eq] at h
    have hlink : s.lc.link = .join := h.1.1.1.1.2
    split
    · next j hj =>
      exact offerPlan_basics (by simp [hlink]) fun hrole hp => ⟨hp.plan, hp.carried, hp.number, by simp [hlink],
        .inr ⟨hrole, hlink, j, hj, rfl, rfl⟩, fun _ => .inr (Nat.zero_le _), fun _ => .inl rfl⟩
    · exact .refl
  · exact unexpected_basics s

theorem sendNak_basics (number reason : Byte) (s : State) : Basics s (sendNak number reason s) :=
  (send_basics _ _ s).trans (countLink_basics _ _)

theorem takeShift_basics (p : Pending) (s : State) : Basics s (takeShift p s) := by
  rw [takeShift_eq]
  split
  · next h =>
    have hoff := inPair_not_off h.2.1
    have hoffer : Basics s (offerPlan p s).1 := offerPlan_basics hoff fun hr => by simp [h.1] at hr
    split
    · exact sendNak_basics _ _ s
    · split
      · exact hoffer.trans (sendNak_basics _ _ _)
      · have hack := (hoffer.trans (send_basics .linkController (.shiftAck p.plan.number) _)).trans
          (countLink_basics .acksSent _)
        split
        · next hup =>
          exact (hack.tail (.lc (fun lc => { lc with link := .shift }) _
            (.of_between rfl (by rw [hup]; simp) (by simp) (by simp)))).trans (report_basics _ _ _ _)
        · exact hack
  · exact unexpected_basics s

theorem takeShiftAck_basics (number : Byte) (s : State) : Basics s (takeShiftAck number s) := by
  unfold takeShiftAck
  split
  · exact unexpected_basics s
  · next p _ =>
    split
    · split
      · exact confirmPending_basics s
      · exact .refl
    · exact ((Basic.lc (fun lc => { lc with proposal := some { p with lateAck := true } }) s
        (.of_same rfl rfl rfl)).path.trans (countLink_basics _ _))

theorem resolveFailed_basics (failure : ShiftFailure) (p : Proposal) (s : State) : Basics s (resolveFailed failure p s) :=
  (endShift_basics _ s).trans (failShift_basics _ _ _)

theorem takeShiftNak_basics (number reason : Byte) (s : State) : Basics s (takeShiftNak number reason s) := by
  unfold takeShiftNak
  split
  · exact unexpected_basics s
  · exact (discardPending_basics s).trans (resolveFailed_basics _ _ _)

theorem takeStatus_basics (fast slow : Nat) (demands : PerTenant Nat) (hold : PerTenant Bool) (s : State) :
    Basics s (takeStatus fast slow demands hold s) := by
  unfold takeStatus
  split
  · exact ((Basic.lc (fun lc => { lc with farFast := min fast 400, farSlow := min slow 400, farHold := hold }) s
      (.of_same rfl rfl rfl)).path.tail (.ca _ _)).trans (countLink_basics _ _)
  · exact unexpected_basics s

theorem takeBye_basics (reason : Byte) (s : State) : Basics s (takeBye reason s) := by
  unfold takeBye
  split
  · next h =>
    refine enterSearch_basics _ _ _ s (.inl ?_)
    rcases h.1 with h | h
    · exact inService_not_off h
    · simp [h]
  · exact unexpected_basics s

theorem takeTestAck_basics (action accepted : Byte) (frames bits errored : Nat) (s : State) :
    Basics s (takeTestAck action accepted frames bits errored s) := by
  unfold takeTestAck
  split
  · next h =>
    refine withTestTrigger_basics ?_
    split
    · exact (Basic.start s h.1).path
    · exact abortTest_basics _ _ s
  · split
    · exact withTestTrigger_basics (takeStopAnswer_basics _ _ _ _ s)
    · exact countTest_basics _ s

/-! ### The steps of a frame boundary -/

theorem discardUnadopted_basics (s : State) : Basics s (discardUnadopted s) := by
  unfold discardUnadopted
  dsimp only
  split
  · exact (discardPending_basics s).trans (resolveFailed_basics _ _ _)
  · exact discardPending_basics s

theorem endRetry_basics (s : State) : Basics s (endRetry s) :=
  (Basic.lc (fun lc => { lc with retryEnd := none }) s (.of_same rfl rfl rfl)).path.trans (serveWaiting_basics _)

theorem noticeFree_basics (s : State) : Basics s (noticeFree s) :=
  (Basic.lc (fun lc => { lc with freeNotice := .no }) s (.of_same rfl rfl rfl)).path.trans (serveWaiting_basics _)

theorem endStop_basics (s : State) : Basics s (endStop s) := by
  unfold endStop
  split
  · exact enterOff_basics _ s
  · exact .refl

theorem retryKept_basics (p : Producer) (s : State) : Basics s (retryKept p s) := by
  rw [retryKept_eq]
  cases p with
  | linkController =>
    exact ((Basic.lc (fun lc => { lc with retryDue := false }) s (.of_same rfl rfl rfl)).path.trans
      (retryMessages_basics _ _)).trans (setKept_basics .linkController _ _)
  | selfTest =>
    exact ((Basic.test (fun st => { st with retryDue := false }) s
      (.of_same ⟨rfl, rfl, rfl, rfl, rfl, rfl, rfl, rfl, rfl⟩)).path.trans
      (retryMessages_basics _ _)).trans (setKept_basics .selfTest _ _)

theorem buildStatus_basics (s : State) : Basics s (buildStatus s) :=
  (Basic.lc (fun lc => { lc with statusDue := false }) s (.of_same rfl rfl rfl)).path.trans (send_basics _ _ _)

theorem evaluateRise_basics (s : State) : Basics s (evaluateRise s) := by
  have h : Basics s (s.modLC fun lc => { lc with riseDue := false }) :=
    (Basic.lc (fun lc => { lc with riseDue := false }) s (.of_same rfl rfl rfl)).path
  unfold evaluateRise
  dsimp only
  split
  · next hr => exact h.trans (allocate_basics _ (.of_idle (riseCalled_idle hr)))
  · exact h

theorem closeDemandWindow_basics (s : State) : Basics s (closeDemandWindow s) := by
  have h : Basics s (s.modCA (closeWindow (windowUnsent s))) := (Basic.ca _ s).path
  unfold closeDemandWindow
  dsimp only
  split
  · exact h.trans (trigger_basics _ _)
  · exact h

theorem drainFlush_basics (t : Tenant) (s : State) : Basics s (drainFlush t s) := by
  unfold drainFlush
  dsimp only
  exact ((((emptyQueue_basics t s).trans (countTimes_basics (countTenant_basics t _) _ _)).trans
    (tenantStands t _ _)).trans (closeEval_basics _)).trans (drainCompletion_basics t _ _)

theorem offerRequest_basics (s : State) : Basics s (offerRequest s) :=
  (timing_basics (fun tm => { tm with
    sequence := tm.sequence + 1, armed := some s.tm.sequence, firstOffer := .no,
    nextOffer := some (frameAdd s.mp.frame tm.config.period) }) s).trans (offerTime_basics _ _)

theorem loseReference_basics {s : State} (h : s.tm.state = .reference) : Basics s (loseReference s) :=
  (countTiming_basics _ s).trans (setTiming_basics _ _ _ fun _ hd => by simp [disciplined, h] at hd)

theorem completeStage_basics {s : State} (h : stageOver s = true) : Basics s (completeStage s) := by
  simp only [stageOver, Bool.and_eq_true, beq_iff_eq] at h
  have hcount : Basics s (s.modST fun st => { st with stagesComplete := s.st.stagesComplete + 1 }) :=
    (Basic.test (fun st => { st with stagesComplete := s.st.stagesComplete + 1 }) s
      (.of_same ⟨rfl, rfl, rfl, rfl, rfl, rfl, rfl, rfl, rfl⟩)).path
  unfold completeStage
  dsimp only
  split
  · exact hcount.tail (.run (fun st => { st with
      stageWanted := s.st.stagesComplete + 1, deadline := some (frameAdd s.mp.frame 1024),
      reqTest := usable (s.st.stagesComplete + 1) - 1, reqProfile := some (s.st.stagesComplete + 1) }) _
      (by simp [h.1.1]) rfl h.1.2 ⟨rfl, rfl⟩)
  · exact hcount.trans (finishTest_basics _)

theorem capture_basics (s : State) : Basics s (capture s) := by
  have h := (Basic.cb (fun cb =>
    { cb with snapshot := cb.live, valid := true, capture := some (s.mp.frame, s.cb.pending.getD false), pending := none,
              captureDue := .no, live := if s.cb.pending.getD false then Bank.zero else cb.live, beforeArea := none }) s).path
  unfold capture
  dsimp only
  split
  · exact h.trans (setService_basics _ _)
  · exact h

/-! ### The requests -/

theorem fetchReports_basics (s : State) : Basics s (fetchReports s).state :=
  (Basic.cp (fun cp => { cp with reports := cp.reports.drop (min 8 s.cp.reports.length), lost := false }) s
    (by simp only [List.length_drop]; omega)).path.trans (countTimes_basics (countControl_basics _) _ _)

theorem storeIdentity_basics (siteId peer : SiteId) (s : State) : Basics s (storeIdentity siteId peer s).state := by
  unfold storeIdentity
  split
  · exact .refl
  · next h =>
    exact (Basic.lc (fun lc => { lc with identity := some ⟨siteId, peer⟩ }) s
      (.of_same rfl rfl rfl fun me hme => by simp [hme] at h)).path

theorem configureLink_basics (hostMax hysteresis lead flags : Byte) (s : State) :
    Basics s (configureLink hostMax hysteresis lead flags s).state :=
  (Basic.lc (fun lc => { lc with
    hostMax := min hostMax.toNat 5, hysteresis := min hysteresis.toNat 50, lead := clamp 8 255 lead.toNat }) s
    (.of_same rfl rfl rfl)).path.tail (.mc (fun mc => { mc with flagCount := clamp 1 2 flags.toNat }) _)

theorem startLink_basics (s : State) : Basics s (startLink s).state := by
  unfold startLink
  split
  · exact .refl
  · next h =>
    exact (enterSearch_basics .start 0 .request s (.inr fun hl => h (.inr (.inr ⟨hl.1, .inl hl.2⟩))) :
      Basics s (enterSearch .start 0 .request s))

theorem beginStop_basics (reason : Byte) (s : State) : Basics s (beginStop reason s).state := by
  unfold beginStop
  split
  · exact .refl
  · split
    · exact .refl
    · exact (Basic.lc (fun lc => { lc with stop := some ⟨3, stopReasonOf reason, false⟩ }) s (.of_same rfl rfl rfl)).path.tail
        (.mc (fun mc => { mc with repeatHolder := some (.bye (stopReasonOf reason)) }) _)

theorem forTenant_basics (number : Byte) {act : Tenant → State → Answer} (h : ∀ t s, Basics s (act t s).state) (s : State) :
    Basics s (forTenant number act s).state := by
  unfold forTenant
  split
  · exact .refl
  · exact h _ s

theorem configRefusal_none {t : Tenant} {c : TenantConfig} {s : State} (h : configRefusal t c s = none) :
    (tenantRec s t).state = .closed ∨ committedOthers s.tn t + c.committed ≤ 11 := by
  unfold configRefusal at h
  split at h
  · cases h
  · split at h
    · cases h
    · split at h
      · cases h
      · next hroom =>
        by_cases hc : (tenantRec s t).state = .closed
        · exact .inl hc
        · exact .inr (Nat.not_lt.1 fun h => hroom ⟨hc, h⟩)

theorem configureTenant_basics (c : TenantConfig) (t : Tenant) (s : State) : Basics s (configureTenant c t s).state := by
  unfold configureTenant
  split
  · exact .refl
  · next h =>
    exact (((Basic.configure t c s (configRefusal_none h)).path.trans (evalSync_basics t _)).trans
      (triggerIf_basics _ _ _)).trans (triggerIf_basics _ _ _)

theorem openTenant_basics (t : Tenant) (s : State) : Basics s (openTenant t s).state := by
  unfold openTenant
  dsimp only
  split
  · exact .refl
  · next hc =>
    split
    · exact .refl
    · next hroom =>
      have hopen : Basics s (modTenant t (fun r => { r with state := .active }) s) := by
        rw [modTenant_congr (g := fun r => { r with state := .active, config := { r.config with
          committed := (tenantRec s t).config.committed } }) rfl]
        exact (Basic.enlist t _ s (Classical.not_not.1 hc) (by omega)).path
      exact ((hopen.trans (report_basics _ _ _ _)).tail (.refresh _)).trans (trigger_basics _ _)

theorem drainTenant_basics (t : Tenant) (s : State) : Basics s (drainTenant t s).state := by
  unfold drainTenant
  split
  · exact .refl
  · next h =>
    have hdrain : Basics s (modTenant t (fun r => { r with state := .draining, drain := some ⟨s.mp.frame, false⟩ }) s) :=
      (Basic.drain t (some ⟨s.mp.frame, false⟩) s (Classical.not_not.1 h)).path
    have hclose : Basics s (closeEval (reportTenant t .active .close false
        (modTenant t (fun r => { r with state := .draining, drain := some ⟨s.mp.frame, false⟩ }) s))) :=
      (hdrain.trans (report_basics _ _ _ _)).trans (closeEval_basics _)
    exact hclose.trans (trigger_basics .tenant _)

theorem flushTenant_basics (t : Tenant) (s : State) : Basics s (flushTenant t s).state :=
  (((emptyQueue_basics t s).tail (.cb _ _)).trans (closeEval_basics _)).trans (drainCompletion_basics t _ _)

theorem storeMode_basics (mode : Byte) (counts : PerTenant Nat) (s : State) : Basics s (storeMode mode counts s).state :=
  (Basic.ca _ s).path.trans (trigger_basics _ _)

theorem configureTiming_basics {c : TimingConfig} (hc : c.steerMax ≤ 4095) (s : State) :
    Basics s (configureTiming c s).state := by
  unfold configureTiming
  split
  · exact .refl
  · next h =>
    have hagrees : ConfigAgrees c := ⟨by omega, by omega, hc⟩
    have hsteer : SteeredBy c (withConfig s.lc.role c s.tm).steer := by
      unfold withConfig
      dsimp only
      split
      · exact .inl rfl
      · exact .inr ⟨_, rfl⟩
    have hstore : Basics s (s.modTM (withConfig s.lc.role c)) :=
      (Basic.tm _ s ⟨.inr ⟨hagrees, hsteer⟩, fun hp => .inr ⟨hp, id⟩, fun _ hd => .inl hd⟩).path
    dsimp only
    split
    · exact hstore.trans (expireHoldover_basics _)
    · exact hstore

theorem timingInRange_top (kp ki : Byte) (steerMin steerMax centre lockWindow : BitVec 16) (holdoverLimit : Byte)
    (period : BitVec 16) (delayMax : BitVec 32) :
    (timingInRange kp ki steerMin steerMax centre lockWindow holdoverLimit period delayMax).steerMax ≤ 4095 :=
  Nat.min_le_right _ _

theorem restartTiming_basics (s : State) : Basics s (restartTiming s).state := by
  unfold restartTiming
  split
  · exact (Basic.tm (fun tm => { tm with steer := tm.config.centre }) s
      ⟨.inl ⟨rfl, .inr (.inl rfl)⟩, fun hp => .inr ⟨hp, id⟩, fun _ hd => .inl hd⟩).path
  · split
    · exact .refl
    · next hlow =>
      have hprofiles : lowProfiles s := by
        refine ⟨by omega, fun p hp => ?_⟩
        simp only [hp, Option.any_some, decide_eq_true_eq, not_or, Nat.not_lt] at hlow
        exact hlow.2
      have hrestart : Basics s (s.modTM restartedTiming) := by
        refine (Basic.tm _ s ⟨.inl ⟨rfl, .inr (.inl rfl)⟩, fun hp => .inr ⟨hp, ?_⟩, fun _ hd => .inl hd⟩).path
        simp only [pulsing, restartedTiming, Bool.or_eq_true, Bool.and_eq_true, beq_iff_eq]
        rintro (h | h)
        · exact .inl h
        · exact .inr ⟨h.1, rfl⟩
      exact hrestart.trans (setTiming_basics _ _ _ fun _ _ => .inr hprofiles)

theorem armTest_basics {fresh : ST → ST} {s : State} (hidle : testBusy s.st = false)
    (h : Armed { fresh s.st with state := .arming, deadline := some (frameAdd s.mp.frame 64) }) :
    Basics s (armTest fresh s) :=
  (Basic.arm (fun st => { fresh st with state := .arming, deadline := some (frameAdd s.mp.frame 64) }) s hidle h).path.trans
    (send_basics _ _ _)

theorem beginTest_basics (kind mode test : Byte) (run : TestRun) (allowed : Nat) (s : State) :
    Basics s (beginTest kind mode test run allowed s).state := by
  unfold beginTest
  split
  · exact .refl
  · next hbusy =>
    have hidle : testBusy s.st = false := by simpa using hbusy
    split
    · exact .refl
    · split
      · next h => exact (Basic.loopStart _ _ _ s hidle h.1 h.2.2).path
      · exact .refl
    · split
      · split
        · exact .refl
        · exact armTest_basics hidle ⟨rfl, rfl, rfl, .inl rfl⟩
      · exact .refl
    · split
      · exact armTest_basics hidle ⟨rfl, rfl, rfl, .inr ⟨rfl, rfl, rfl⟩⟩
      · exact .refl

theorem stopByRequest_basics (s : State) : Basics s (stopByRequest s) := by
  unfold stopByRequest
  split
  · exact finishTest_basics s
  · exact stopTest_basics _ _ _ s

theorem endTest_changes (s : State) : Changes s (endTest s).state := by
  unfold endTest
  split
  · exact .refl
  · split
    · exact (atReception_changes s).trans (withTestTrigger_basics (stopByRequest_basics _)).changes
    · exact .refl

theorem requestCapture_basics (clear : Byte) (s : State) : Basics s (requestCapture clear s) := by
  unfold requestCapture handedRequest
  split
  · exact .refl
  · next r s' h =>
    have hjoin : Basics s s' := by
      revert h
      split
      · split
        · rintro ⟨⟩; exact .refl
        · rintro ⟨⟩
      · split
        · rintro ⟨⟩
        · rintro ⟨⟩; exact control_basics _ s
      · rintro ⟨⟩
    exact (((hjoin.trans (countControl_basics _ _)).tail (.cb _ _)).trans (setService_basics _ _))

theorem readGroup_state (selector : Byte) (s : State) : (readGroup selector s).state = s := by
  unfold readGroup
  split
  · rfl
  · split <;> rfl

/-! ### Every command -/

/-- What a command makes of the state: a reset, by one of the two resets, or a path of changes. -/
def ResetOrChanges (c : Instr) (s t : State) : Prop :=
  (((∃ role rate, c = .powerOnReset role rate) ∨ ∃ role rate, c = .enterReset role rate) ∧
    ∃ cause role rate, t = resetTo cause role rate s) ∨ Changes s t

theorem ResetOrChanges.of_changes {c : Instr} {s t u : State} (h : Host.Outcome.next u = (Host.Outcome.next t : Result))
    (hu : Changes s u) : ResetOrChanges c s t := by
  cases h; exact .inr hu

theorem ResetOrChanges.of_request {c : Instr} {kind : Byte} {body : List Byte} {owner : State → Answer} {s t : State}
    (h : Host.Outcome.next (takeRequest kind body owner s) = (Host.Outcome.next t : Result))
    (howner : ∀ s, Basics s (owner s).state) : ResetOrChanges c s t :=
  .of_changes h (takeRequest_changes _ _ (fun s => (howner s).changes) s)

theorem ResetOrChanges.of_message {c : Instr} {m : LinkMessage} {act : State → State} {s t : State}
    (h : Host.Outcome.next (dispatchMessage m act s) = (Host.Outcome.next t : Result))
    (hact : ∀ s, Basics s (act s)) : ResetOrChanges c s t :=
  .of_changes h (dispatchMessage_changes m hact s)

theorem ResetOrChanges.of_boundary {c : Instr} {cond : State → Bool} {act : State → State} {s t : State}
    (h : Host.Outcome.next (atBoundary cond act s) = (Host.Outcome.next t : Result))
    (hact : ∀ s, cond s = true → Changes s (act s)) : ResetOrChanges c s t :=
  .of_changes h (atBoundary_changes hact s)

theorem openWhen_changes (b : Bool) (s : State) : Changes s (if b then openBoundary s else s) := by
  split
  · exact (openBoundary_basics s).changes
  · exact .refl

theorem execReceivedFrame_changes {frame : ModemFrame} {s t : State} (h : execReceivedFrame frame s = .next t) :
    Changes s t := by
  unfold execReceivedFrame at h
  split at h
  · cases h
    split
    · exact receiveFrame_changes _ s
    · split
      · exact (openBoundary_basics s).changes.trans (receiveFrame_changes _ _)
      · exact .refl
  · cases h

/-- A command is a reset, or a path of changes. -/
theorem exec_changes {c : Instr} {s t : State} (h : exec c s = .next t) : ResetOrChanges c s t := by
  have hread : ∀ (f : State → List Byte) (u : State), Basics u (⟨u, .ok, f u⟩ : Answer).state := fun _ _ => .refl
  cases c with
  | powerOnReset role rate => cases h; exact .inl ⟨.inl ⟨_, _, rfl⟩, _, _, _, rfl⟩
  | enterReset role rate =>
    cases h
    split
    · exact .inl ⟨.inr ⟨_, _, rfl⟩, _, _, _, rfl⟩
    · exact .inr .refl
  | frameBoundary elapsed => exact .of_changes h ((openWhen_changes _ s).trans (composeFrame_changes elapsed _))
  | receivedFrame frame => exact .inr (execReceivedFrame_changes h)
  | hello => exact .of_message h (takeHello_basics _ _ _)
  | join => exact .of_message h (takeJoin_basics _ _ _)
  | joinAck => exact .of_message h (takeJoinAck_basics _ _)
  | shift => exact .of_message h (takeShift_basics _)
  | shiftAck => exact .of_message h (takeShiftAck_basics _)
  | shiftNak => exact .of_message h (takeShiftNak_basics _ _)
  | status => exact .of_message h (takeStatus_basics _ _ _ _)
  | bye => exact .of_message h (takeBye_basics _)
  | timeReq => exact .of_message h (takeTimeRequest_basics _)
  | timeResp => exact .of_message h (takeTimeResponse_basics _ _ _ _ _ _)
  | testCtl => exact .of_message h (takeTestControl_basics _ _ _ _)
  | testAck => exact .of_message h (takeTestAck_basics _ _ _ _ _)
  | planActivation => exact .of_boundary h fun u _ => activatePending_changes _ u
  | adoptedActivation => exact .of_boundary h fun u _ => activatePending_changes _ u
  | pendingDiscard => exact .of_boundary h fun u _ => (discardUnadopted_basics u).changes
  | fallbackActivation => exact .of_boundary h fun u _ => takeFallback_changes u
  | idleReturn => exact .of_boundary h fun u _ => takeIdle_changes u
  | loopbackSwitchEffect => exact .of_boundary h fun u _ => takeLoopSwitch_changes u
  | joinTimeout =>
    refine .of_boundary h fun u hc => (enterSearch_basics _ _ _ u (.inl ?_)).changes
    simp only [joinOver, Bool.and_eq_true, beq_iff_eq] at hc
    simp [hc.1.1.1]
  | lostTimeout =>
    refine .of_boundary h fun u hc => (enterSearch_basics _ _ _ u (.inl ?_)).changes
    simp only [lostOver, Bool.and_eq_true, beq_iff_eq] at hc
    simp [hc.1.1]
  | retryWaitEnd => exact .of_boundary h fun u _ => (endRetry_basics u).changes
  | lcFreeNotice => exact .of_boundary h fun u _ => (noticeFree_basics u).changes
  | stopEntryOff => exact .of_boundary h fun u _ => (endStop_basics u).changes
  | channelRestartFinish => exact .of_boundary h fun u _ => (finishRestart_basics u).changes
  | queueRetryOffer => exact .of_boundary h fun u _ => (retryKept_basics _ u).changes
  | statusBuild => exact .of_boundary h fun u _ => (buildStatus_basics u).changes
  | riseEvaluation => exact .of_boundary h fun u _ => (evaluateRise_basics u).changes
  | demandWindowClose => exact .of_boundary h fun u _ => (closeDemandWindow_basics u).changes
  | drainFlush => exact .of_boundary h fun u _ => (drainFlush_basics _ u).changes
  | timeReqOffer => exact .of_boundary h fun u _ => (offerRequest_basics u).changes
  | exchangeLost => exact .of_boundary h fun u _ => (loseExchange_basics u).changes
  | holdoverExpired => exact .of_boundary h fun u _ => (expireHoldover_basics u).changes
  | referencePulse elapsed record =>
    refine .of_changes h ?_
    split
    · next hrole => exact Basics.changes ((advanceCounter_basics _ s).trans (judgePulse_basics (s := advanceCounter elapsed s) hrole record))
    · exact .refl
  | referenceTimeout =>
    refine .of_boundary h fun u hc => (loseReference_basics ?_).changes
    simp only [pulseOver, Bool.and_eq_true, beq_iff_eq] at hc
    exact hc.1
  | secondsRollover =>
    refine .of_changes h ?_
    split
    · exact (advanceCounter_basics _ s).changes
    · exact .refl
  | testArmingDeadline => exact .of_boundary h fun u _ => (withTestTrigger_basics (abortTest_basics _ _ u)).changes
  | testStartDeadline =>
    exact .of_boundary h fun u _ =>
      Basics.changes ((countTest_basics _ u).trans (withTestTrigger_basics (abortTest_basics _ _ _)))
  | stageComplete => exact .of_boundary h fun u hc => (withTestTrigger_basics (completeStage_basics hc)).changes
  | stopAnswerDeadline => exact .of_boundary h fun u _ => (withTestTrigger_basics (takeStopAnswer_basics _ _ _ _ u)).changes
  | snapshotCapture => exact .of_boundary h fun u _ => (capture_basics u).changes
  | packetArrival => exact .of_changes h (admitPacket_basics _ _ s).changes
  | controlFrameReceived => exact .of_changes h (takeChars_basics _ s).changes
  | controlLineError => exact .of_changes h (Basics.changes ((takeChars_basics _ s).trans (discardFrame_basics _ _)))
  | controlGapTimeout => exact .of_changes h (Basics.changes ((takeChars_basics _ s).trans (discardFrame_basics _ _)))
  | replySent => exact .of_changes h (endReply_basics s).changes
  | partInfo => exact .of_request h (hread _)
  | partReset => exact .of_request h fun _ => .refl
  | reportsFetch => exact .of_request h fetchReports_basics
  | attnEnable enable => exact .of_request h fun u => control_basics (fun cp => { cp with attention := enable != 0 }) u
  | setSiteId => exact .of_request h (storeIdentity_basics _ _)
  | linkConfig => exact .of_request h (configureLink_basics _ _ _ _)
  | linkStart => exact .of_request h startLink_basics
  | linkStop => exact .of_request h (beginStop_basics _)
  | linkStatus => exact .of_request h (hread _)
  | planRead => exact .of_request h (hread _)
  | tenantConfig => exact .of_request h (forTenant_basics _ (configureTenant_basics _))
  | tenantOpen => exact .of_request h (forTenant_basics _ openTenant_basics)
  | tenantClose => exact .of_request h (forTenant_basics _ drainTenant_basics)
  | tenantFlush => exact .of_request h (forTenant_basics _ flushTenant_basics)
  | tenantStatus => exact .of_request h (forTenant_basics _ fun _ _ => .refl)
  | allocMode => exact .of_request h (storeMode_basics _ _)
  | allocStatus => exact .of_request h (hread _)
  | timingConfig => exact .of_request h (configureTiming_basics (timingInRange_top _ _ _ _ _ _ _ _ _))
  | timingRestart => exact .of_request h restartTiming_basics
  | timingStatus => exact .of_request h (hread _)
  | timeRead => exact .of_request h (hread _)
  | testStart => exact .of_request h (beginTest_basics _ _ _ _ _)
  | testStop => exact .of_changes h (takeRequest_changes _ _ endTest_changes s)
  | testResult => exact .of_request h (hread _)
  | countersSnapshot => exact .of_changes h (requestCapture_basics _ s).changes
  | countersRead => exact .of_request h fun u => by rw [readGroup_state]; exact .refl

end Sys2Proof.Machine

namespace Sys2Proof.Machine

set_option Elab.async false

/-! ### What is kept by every change is kept by every step -/

/-- A property of the state that holds after every reset, is kept by every elementary change and by every change of the active
plan, and does not speak of the queue of commands. -/
structure Kept (I : State → Prop) : Prop where
  reset : ∀ cause role rate s, I (resetTo cause role rate s)
  queue : ∀ s rest, I s → I { s with pending := rest }
  basic : ∀ {s t}, Basic s t → I s → I t
  activate : ∀ (f : PS → PS) (s), Activation s (f s.ps) → I s → I (testPlanChange s.ps.active (closeEval (s.modPS f)))

theorem Kept.change {I : State → Prop} (h : Kept I) {s t : State} (hs : I s) (hst : Change s t) : I t := by
  cases hst with
  | basic hb => exact h.basic hb hs
  | activate f _ ha => exact h.activate f s ha hs

theorem Kept.changes {I : State → Prop} (h : Kept I) {s t : State} (hs : I s) (hst : Changes s t) : I t := by
  induction hst with
  | refl => exact hs
  | tail _ hc ih => exact h.change ih hc

theorem Kept.step {I : State → Prop} (h : Kept I) {s t : State} (hs : I s) (hstep : step s = .next t) : I t := by
  unfold Sys2Proof.Machine.step at hstep
  split at hstep
  · cases hstep; exact hs
  · rcases exec_changes hstep with ⟨-, cause, role, rate, rfl⟩ | hc
    · exact h.reset _ _ _ _
    · exact h.changes (h.queue _ _ hs) hc

/-- What the Tenant and the Self-Test Unit do on a change of the active plan is made of elementary changes. -/
theorem planNotified_basics (f : PS → PS) (s : State) :
    Basics (s.modPS f) (testPlanChange s.ps.active (closeEval (s.modPS f))) :=
  (closeEval_basics _).trans (testPlanChange_basics _ _)

theorem Basics.keep {I : State → Prop} (h : ∀ {s t}, Basic s t → I s → I t) {s t : State} (hs : I s) (hst : Basics s t) :
    I t := by
  induction hst with
  | refl => exact hs
  | tail _ hb ih => exact h hb ih

/-- A property that the bare change of the active plan keeps. -/
theorem Kept.of_activation {I : State → Prop} (reset : ∀ cause role rate s, I (resetTo cause role rate s))
    (queue : ∀ s rest, I s → I { s with pending := rest }) (basic : ∀ {s t}, Basic s t → I s → I t)
    (activate : ∀ (f : PS → PS) (s), Activation s (f s.ps) → I s → I (s.modPS f)) : Kept I :=
  ⟨reset, queue, basic, fun f s ha hs => Basics.keep basic (activate f s ha hs) (planNotified_basics f s)⟩

/-! ### What an elementary change does to each block -/

@[simp] theorem testStopped_frame (v : Option TestOutcome) (a : Bool) (s : State) :
    (testStopped v a s).lc = s.lc ∧ (testStopped v a s).tm = s.tm ∧ (testStopped v a s).tn = s.tn ∧
      (testStopped v a s).ps = s.ps ∧ (testStopped v a s).cp = s.cp := by
  unfold testStopped
  dsimp only
  split <;> exact ⟨rfl, rfl, rfl, rfl, rfl⟩

theorem Basic.role {s t : State} (h : Basic s t) : t.lc.role = s.lc.role := by
  cases h with
  | lc f s hm => exact hm.role
  | stop v a s => simp
  | _ => rfl

/-- The Timing Unit changes by its own changes only. -/
theorem Basic.timing {s t : State} (h : Basic s t) : t.tm = s.tm ∨ TimingMove s t.tm := by
  cases h with
  | tm f s hm => exact .inr hm
  | stop v a s => exact .inl (by simp)
  | _ => exact .inl rfl

theorem Basic.reports {s t : State} (h : Basic s t) : t.cp.reports.length ≤ max s.cp.reports.length 32 := by
  cases h with
  | cp f s hm => exact hm
  | stop v a s =>
    obtain ⟨-, -, -, -, hcp⟩ := testStopped_frame v a s
    exact hcp ▸ Nat.le_max_left _ _
  | _ => exact Nat.le_max_left _ _

theorem Basic.errors {s t : State} (h : Basic s t) (hs : s.st.errored ≤ s.st.bits) : t.st.errored ≤ t.st.bits := by
  cases h with
  | test f s hm => exact hm.errors hs
  | arm f s _ hm => exact hm.errored ▸ Nat.zero_le _
  | loopStart => exact Nat.le_refl _
  | run f s _ _ _ herr => simpa [herr] using hs
  | done f s _ _ _ _ herr => simpa [herr] using hs
  | stop v a s => unfold testStopped; dsimp only; split <;> exact hs
  | _ => exact hs

/-! ### The report queue, the timing and the errors -/


/-- Settles O48: every change leaves 32 reports at most, or no more than there were. -/
theorem reportQueueStaysBounded : Obligations.ReportQueueStaysBounded := by
  have hkept : Kept fun s => lawReports s = true :=
    .of_activation (fun _ _ _ _ => rfl) (fun _ _ h => h)
      (fun hb hs => by have := hb.reports; simp only [lawReports, decide_eq_true_eq] at *; omega) (fun _ _ _ hs => hs)
  exact fun s t hs h => hkept.step hs h

end Sys2Proof.Machine

namespace Sys2Proof.Machine

set_option Elab.async false

/-- Settles O51: an answer or a check adds to the errored bits no more than to the bits. -/
theorem erroredBitsStayWithinBits : Obligations.ErroredBitsStayWithinBits := by
  have hkept : Kept fun s => lawErrors s = true :=
    .of_activation (fun _ _ _ _ => rfl) (fun _ _ h => h)
      (fun hb hs => by simpa [lawErrors] using hb.errors (by simpa [lawErrors] using hs)) (fun _ _ _ hs => hs)
  exact fun s t hs h => hkept.step hs h

/-- A code that is steered under values that agree lies in their range. -/
theorem SteeredBy.range {c : TimingConfig} {code : Nat} (h : SteeredBy c code) (hlow : c.steerMin ≤ c.centre)
    (hhigh : c.centre ≤ c.steerMax) : c.steerMin ≤ code ∧ code ≤ c.steerMax := by
  rcases h with rfl | ⟨x, rfl⟩
  · exact ⟨hlow, hhigh⟩
  · unfold steerClamp clampInt
    omega

/-- The sixth law with its companion, in their inequalities. -/
theorem lawSteer_and_centre_iff (s : State) : (lawSteer s = true ∧ centreInRange s = true) ↔
    s.tm.config.steerMin ≤ s.tm.steer ∧ s.tm.steer ≤ s.tm.config.steerMax ∧ ConfigAgrees s.tm.config := by
  simp only [lawSteer, centreInRange, Bool.and_eq_true, decide_eq_true_eq]
  exact ⟨fun ⟨⟨⟨h1, h2⟩, h3⟩, h4, h5⟩ => ⟨h1, h2, h4, h5, h3⟩, fun ⟨h1, h2, h4, h5, h3⟩ => ⟨⟨⟨h1, h2⟩, h3⟩, h4, h5⟩⟩

theorem Basic.steer {s t : State} (hb : Basic s t) (hs : lawSteer s = true ∧ centreInRange s = true) :
    lawSteer t = true ∧ centreInRange t = true := by
  rw [lawSteer_and_centre_iff] at hs ⊢
  obtain ⟨hmin, hmax, hagrees⟩ := hs
  rcases hb.timing with htm | hm
  · rw [htm]; exact ⟨hmin, hmax, hagrees⟩
  · rcases hm.steer with ⟨hconfig, hcode⟩ | ⟨hagrees', hcode⟩
    · rw [hconfig] at hcode ⊢
      rcases hcode with hcode | hcode
      · rw [hcode]; exact ⟨hmin, hmax, hagrees⟩
      · exact ⟨(hcode.range hagrees.low hagrees.high).1, (hcode.range hagrees.low hagrees.high).2, hagrees⟩
    · exact ⟨(hcode.range hagrees'.low hagrees'.high).1, (hcode.range hagrees'.low hagrees'.high).2, hagrees'⟩

/-- Settles O49: a code is set to the centre or brought into the range, and the range changes only to one that agrees. -/
theorem steeringCodeStaysInRange : Obligations.SteeringCodeStaysInRange := by
  have hkept : Kept fun s => lawSteer s = true ∧ centreInRange s = true :=
    .of_activation (fun _ role _ _ => by cases role <;> exact ⟨rfl, rfl⟩) (fun _ _ h => h) Basic.steer (fun _ _ _ hs => hs)
  exact fun s t h1 h2 h => hkept.step ⟨h1, h2⟩ h

theorem Basic.pulse {s t : State} (hb : Basic s t) (hs : lawPulse s = true) : lawPulse t = true := by
  have hrole := hb.role
  simp only [lawPulse, Bool.or_eq_true, Bool.not_eq_true', Bool.and_eq_true, beq_iff_eq] at hs ⊢
  rw [hrole]
  rcases hb.timing with htm | hm
  · rw [htm]; exact hs
  · cases hp : t.tm.pps with
    | false => exact .inl rfl
    | true =>
      rcases hm.pulse hp with ⟨hsite, hpulsing⟩ | ⟨hold, hpulsing⟩
      · exact .inr ⟨hsite, hpulsing⟩
      · rcases hs with hs | ⟨hsite, hs⟩
        · rw [hold] at hs; cases hs
        · exact .inr ⟨hsite, hpulsing hs⟩

/-- Settles O50: a pulse is driven at SITE in its timing states only, and cut when they are left. -/
theorem pulseOutputStaysQualified : Obligations.PulseOutputStaysQualified := by
  have hkept : Kept fun s => lawPulse s = true :=
    .of_activation (fun _ _ _ _ => rfl) (fun _ _ h => h) Basic.pulse (fun _ _ _ hs => hs)
  exact fun s t hs h => hkept.step hs h

end Sys2Proof.Machine

namespace Sys2Proof.Machine

set_option Elab.async false

/-! ### The tenants: hold flags, committed slots, blocks and credits -/

@[simp] theorem tenantRec_modTenant (u t : Tenant) (f : TenantRec → TenantRec) (s : State) :
    tenantRec (modTenant u f s) t = if t = u then f (tenantRec s t) else tenantRec s t := by
  simp only [tenantRec, modTenant, State.modTN_tn, PerTenant.get_set]
  split
  · next h => rw [h]
  · rfl

theorem holdRule_of_le {occ allow : Nat} (held : Bool) (h : allow ≤ occ) : holdRule occ allow held = true := by
  simp [holdRule, h]

theorem lawHold_iff (s : State) : lawHold s = true ↔
    ∀ t, allowance s.ps.active t (tenantRec s t) ≤ occupancy (tenantRec s t) → (tenantRec s t).hold = true := by
  have hall : lawHold s = true ↔ ∀ t ∈ Tenant.all, (tenantRec s t).hold = true ∨
      occupancy (tenantRec s t) < allowance s.ps.active t (tenantRec s t) := by
    simp [lawHold, tenantRec]
  rw [hall]
  refine forall_congr' fun t => ⟨fun h hle => ?_, fun h _ => ?_⟩
  · exact (h (by cases t <;> decide)).resolve_right (Nat.not_lt.2 hle)
  · by_cases hle : allowance s.ps.active t (tenantRec s t) ≤ occupancy (tenantRec s t)
    · exact .inl (h hle)
    · exact .inr (Nat.not_le.1 hle)

/-- Re-evaluating the flags establishes the twelfth law (R97). -/
theorem refreshTenants_lawHold (s : State) : lawHold (refreshTenants s) = true := by
  rw [lawHold_iff]
  intro t
  obtain ⟨r, h⟩ := refreshTenants_get s t
  unfold tenantRec
  rw [h]
  exact holdRule_of_le _

/-- A change under the same active plan in which flags, queue limits and queues stand, or queues shrink. -/
theorem lawHold_of_le {s t : State} (hactive : t.ps.active = s.ps.active)
    (h : ∀ n, (tenantRec t n).hold = (tenantRec s n).hold ∧
      (tenantRec t n).config.queueLimit = (tenantRec s n).config.queueLimit ∧
      occupancy (tenantRec t n) ≤ occupancy (tenantRec s n)) (hs : lawHold s = true) : lawHold t = true := by
  rw [lawHold_iff] at hs ⊢
  intro n hle
  obtain ⟨hhold, hlimit, hocc⟩ := h n
  rw [hhold]
  refine hs n (Nat.le_trans ?_ (Nat.le_trans hle hocc))
  simp [allowance, hactive, hlimit]

/-- The active plan changes only by a change of the active plan. -/
theorem Basic.active {s t : State} (h : Basic s t) : t.ps.active = s.ps.active := by
  cases h with
  | plans f s hm => exact hm.active
  | stop v a s => simp
  | _ => rfl

theorem Basic.hold {s t : State} (hb : Basic s t) (hs : lawHold s = true) : lawHold t = true := by
  have hstand : t.tn = s.tn → lawHold t = true := fun htn =>
    lawHold_of_le hb.active (fun n => by simp [tenantRec, htn]) hs
  have hone : ∀ (u : Tenant) (f : TenantRec → TenantRec), (∀ r, (f r).hold = r.hold ∧
      (f r).config.queueLimit = r.config.queueLimit ∧ (f r).queue = r.queue) → lawHold (modTenant u f s) = true :=
    fun u f hf => lawHold_of_le (s := s) rfl (fun n => by
      obtain ⟨h1, h2, h3⟩ := hf (tenantRec s n)
      rw [tenantRec_modTenant]
      split
      · exact ⟨h1, h2, by simp [occupancy, h3]⟩
      · exact ⟨rfl, rfl, Nat.le_refl _⟩) hs
  cases hb with
  | refresh => exact refreshTenants_lawHold _
  | configure => exact refreshTenants_lawHold _
  | enqueue => exact refreshTenants_lawHold _
  | tenants f s h =>
    refine lawHold_of_le (s := s) rfl (fun n => ?_) hs
    obtain ⟨-, hconfig, hqueue, hhold, -⟩ := h.record n
    exact ⟨hhold, congrArg TenantConfig.queueLimit hconfig, by simp [occupancy, tenantRec, hqueue]⟩
  | drain u => exact hone u _ fun _ => ⟨rfl, rfl, rfl⟩
  | close u => exact hone u _ fun _ => ⟨rfl, rfl, rfl⟩
  | enlist u => exact hone u _ fun _ => ⟨rfl, rfl, rfl⟩
  | unqueue u q n s h =>
    refine lawHold_of_le (s := s) rfl (fun m => ?_) hs
    rw [tenantRec_modTenant]
    split
    · next hm =>
      subst hm
      exact ⟨rfl, rfl, Nat.le.intro h⟩
    · exact ⟨rfl, rfl, Nat.le_refl _⟩
  | stop v a s => exact hstand (by simp)
  | _ => exact hstand rfl

/-- Settles O54: flags are re-evaluated wherever an allowance may fall or a queue grow, after every change of the active plan
among them. -/
theorem holdFlagStaysTrue : Obligations.HoldFlagStaysTrue := by
  have hkept : Kept fun s => lawHold s = true :=
    ⟨fun _ role _ _ => by cases role <;> rfl, fun _ _ h => h, Basic.hold,
      fun f s _ _ => Basics.keep Basic.hold (refreshTenants_lawHold _) (testPlanChange_basics s.ps.active _)⟩
  exact fun s t hs h => hkept.step hs h

/-! The committed slots -/

/-- The committed slots that a tenant's record commits: none while CLOSED. -/
def committedBy (r : TenantRec) : Nat := if r.state = .closed then 0 else r.config.committed

/-- A sum over the elements that pass a test. -/
theorem sum_map_filter {α : Type} (p : α → Bool) (f : α → Nat) (l : List α) :
    ((l.filter p).map f).sum = (l.map fun a => if p a then f a else 0).sum := by
  induction l with
  | nil => rfl
  | cons a l ih => by_cases h : p a <;> simp [h, ih]

theorem sum_all (v : PerTenant Nat) : (Tenant.all.map v.get).sum = v.sum := by
  simp [Tenant.all, PerTenant.sum, PerTenant.get]
  omega

/-- The committed slots are those of the four records. -/
theorem committedSum_eq (tn : TN) : committedSum tn = (tn.tenants.map committedBy).sum := by
  have hterm : (fun u => if decide ((tn.tenants.get u).state ≠ .closed) then (tn.tenants.get u).config.committed else 0) =
      (tn.tenants.map committedBy).get := funext fun u => by
    by_cases h : (tn.tenants.get u).state = .closed <;> simp [committedBy, h]
  rw [committedSum, sum_map_filter, hterm, sum_all]

/-- The committed slots of the others are those of the records with this tenant's left out. -/
theorem committedOthers_eq (tn : TN) (t : Tenant) :
    committedOthers tn t = ((tn.tenants.map committedBy).set t 0).sum := by
  have hterm : (fun u => if decide (u ≠ t ∧ (tn.tenants.get u).state ≠ .closed) then (tn.tenants.get u).config.committed
      else 0) = ((tn.tenants.map committedBy).set t 0).get := funext fun u => by
    rw [PerTenant.get_set]
    by_cases hu : u = t <;> by_cases h : (tn.tenants.get u).state = .closed <;> simp [committedBy, h, hu]
  rw [committedOthers, sum_map_filter, hterm, sum_all]

theorem sum_set (v : PerTenant Nat) (t : Tenant) (a : Nat) : (v.set t a).sum = (v.set t 0).sum + a := by
  cases t <;> simp [PerTenant.sum, PerTenant.set] <;> omega

theorem sum_set_add (v : PerTenant Nat) (t : Tenant) : (v.set t 0).sum + v.get t = v.sum := by
  cases t <;> simp [PerTenant.sum, PerTenant.set, PerTenant.get] <;> omega

theorem sum_le_sum {v w : PerTenant Nat} (h : ∀ t, v.get t ≤ w.get t) : v.sum ≤ w.sum := by
  have h1 := h .t1
  have h2 := h .t2
  have h3 := h .t3
  have h4 := h .t4
  simp only [PerTenant.sum, PerTenant.get] at *
  omega

theorem map_set {α β : Type} (f : α → β) (v : PerTenant α) (t : Tenant) (a : α) :
    (v.set t a).map f = (v.map f).set t (f a) := by
  cases t <;> rfl

theorem lawCommitted_iff (s : State) : lawCommitted s = true ↔ (s.tn.tenants.map committedBy).sum ≤ 11 := by
  simp [lawCommitted, committedSum_eq]

/-- A change after which no record commits more. -/
theorem lawCommitted_of_le {s t : State} (h : ∀ n, committedBy (tenantRec t n) ≤ committedBy (tenantRec s n))
    (hs : lawCommitted s = true) : lawCommitted t = true := by
  rw [lawCommitted_iff] at hs ⊢
  exact Nat.le_trans (sum_le_sum fun n => by simpa [tenantRec] using h n) hs

/-- A change of one record that commits no more than there is room for. -/
theorem lawCommitted_of_room {s : State} (u : Tenant) (f : TenantRec → TenantRec)
    (h : committedOthers s.tn u + committedBy (f (tenantRec s u)) ≤ 11) : lawCommitted (modTenant u f s) = true := by
  rw [lawCommitted_iff]
  simp only [modTenant, State.modTN_tn, map_set]
  rw [sum_set, ← committedOthers_eq]
  exact h

theorem committedBy_congr {a b : TenantRec} (hstate : b.state = a.state) (hconfig : b.config = a.config) :
    committedBy b = committedBy a := by
  simp [committedBy, hstate, hconfig]

theorem refreshTenants_committed (s : State) (n : Tenant) :
    committedBy (tenantRec (refreshTenants s) n) = committedBy (tenantRec s n) :=
  committedBy_congr (by simp [tenantRec]) (by simp [tenantRec])

theorem Basic.committed {s t : State} (hb : Basic s t) (hs : lawCommitted s = true) : lawCommitted t = true := by
  have hstand : ∀ {t : State}, t.tn = s.tn → lawCommitted t = true := fun htn =>
    lawCommitted_of_le (fun n => by simp [tenantRec, htn]) hs
  have hone : ∀ (u : Tenant) (f : TenantRec → TenantRec) (v : State), v.tn.tenants = s.tn.tenants →
      committedBy (f (tenantRec s u)) ≤ committedBy (tenantRec s u) → lawCommitted (modTenant u f v) = true :=
    fun u f v hv hf => lawCommitted_of_le (s := s) (fun n => by
      have hrec : ∀ m, tenantRec v m = tenantRec s m := fun m => by simp [tenantRec, hv]
      rw [tenantRec_modTenant, hrec]
      split
      · next h => exact h ▸ hf
      · exact Nat.le_refl _) hs
  have hrefresh : ∀ {t : State}, lawCommitted t = true → lawCommitted (refreshTenants t) = true := fun ht =>
    lawCommitted_of_le (fun n => Nat.le_of_eq (refreshTenants_committed _ n)) ht
  cases hb with
  | refresh => exact hrefresh hs
  | tenants f s h =>
    refine lawCommitted_of_le (s := s) (fun n => ?_) hs
    obtain ⟨hstate, hconfig, -⟩ := h.record n
    exact Nat.le_of_eq (committedBy_congr hstate hconfig)
  | drain u d s h => exact hone u _ s rfl (by simp [committedBy, h])
  | close u => exact hone u _ s rfl (by simp [committedBy])
  | enlist u c s h hc => exact lawCommitted_of_room u _ (by
      have : committedOthers s.tn u ≤ 11 := by
        rw [lawCommitted_iff, ← sum_set_add _ u, ← committedOthers_eq] at hs
        exact Nat.le_trans (Nat.le_add_right _ _) hs
      simp only [committedBy, reduceCtorEq, if_false]
      omega)
  | configure u c s h =>
    refine hrefresh ?_
    by_cases hclosed : (tenantRec s u).state = .closed
    · exact hone u _ s rfl (by simp [committedBy, hclosed])
    · exact lawCommitted_of_room u _ (by simpa [committedBy, hclosed] using h.resolve_left hclosed)
  | enqueue u packet s => exact hrefresh (hone u _ _ rfl (Nat.le_refl _))
  | unqueue u q n s => exact hone u _ _ rfl (Nat.le_refl _)
  | stop v a s => exact hstand (by simp)
  | _ => exact hstand rfl

/-- Settles O53: a tenant is opened, or its committed slots set, only where the others leave room. -/
theorem committedSlotsStayWithinEleven : Obligations.CommittedSlotsStayWithinEleven := by
  have hkept : Kept fun s => lawCommitted s = true :=
    .of_activation (fun _ role _ _ => by cases role <;> rfl) (fun _ _ h => h) Basic.committed (fun _ _ _ hs => hs)
  exact fun s t hs h => hkept.step hs h

end Sys2Proof.Machine

namespace Sys2Proof.Machine

set_option Elab.async false

/-! ### The blocks of the queues, and the credits -/

theorem ext_of_get {α : Type} {v w : PerTenant α} (h : ∀ t, v.get t = w.get t) : v = w := by
  cases v; cases w
  exact PerTenant.mk.injEq .. |>.mpr ⟨h .t1, h .t2, h .t3, h .t4⟩

/-- The credit of a record: none counts as 0 (R96). -/
def creditOf (r : TenantRec) : Nat := r.ready.getD 0

theorem reserved_eq (tn : TN) : reserved tn = (tn.tenants.map creditOf).sum := rfl

theorem credit_le_reserved (tn : TN) (t : Tenant) : creditOf (tn.tenants.get t) ≤ reserved tn := by
  have := sum_set_add (tn.tenants.map creditOf) t
  rw [PerTenant.get_map] at this
  rw [reserved_eq]
  omega

theorem dropReady_reserved (active : Plan) (tn : TN) : reserved (dropReady active tn) ≤ reserved tn := by
  refine sum_le_sum fun t => ?_
  simp only [dropReady, PerTenant.get_map, PerTenant.get_ofFn]
  split
  · exact Nat.zero_le _
  · exact Nat.le_refl _

/-- A line is asserted only with a credit that the unreserved free blocks cover (R96). -/
theorem assertReady_reserved (active : Plan) (t : Tenant) {tn : TN} (h : reserved tn ≤ tn.free) :
    reserved (assertReady active t tn) ≤ (assertReady active t tn).free := by
  unfold assertReady
  dsimp only
  split
  · next hassert =>
    obtain ⟨hnone, -, -, hroom⟩ := hassert
    have hadd := sum_set_add (tn.tenants.map creditOf) t
    have hzero : creditOf (tn.tenants.get t) = 0 := by simp [creditOf, hnone]
    rw [PerTenant.get_map, hzero, ← reserved_eq] at hadd
    rw [reserved_eq, map_set, sum_set]
    simp only [unreservedFree, creditOf, Option.getD_some] at hroom ⊢
    omega
  · exact h

theorem assertReady_free (active : Plan) (t : Tenant) (tn : TN) : (assertReady active t tn).free = tn.free := by
  unfold assertReady
  dsimp only
  split <;> rfl

theorem refreshReady_reserved (active : Plan) {tn : TN} (h : reserved tn ≤ tn.free) :
    reserved (refreshReady active tn) ≤ (refreshReady active tn).free :=
  assertReady_reserved active .t4 (assertReady_reserved active .t3 (assertReady_reserved active .t2
    (assertReady_reserved active .t1 (Nat.le_trans (dropReady_reserved active tn) h))))

/-- The fourth law with its companion, in its equation and inequality. -/
theorem lawBuffer_and_credits_iff (s : State) : (lawBuffer s = true ∧ creditsCovered s = true) ↔
    s.tn.free + (s.tn.tenants.map occupancy).sum = 512 ∧ (s.tn.tenants.map creditOf).sum ≤ s.tn.free :=
  and_congr beq_iff_eq decide_eq_true_iff

/-- The buffer's two laws. -/
def BufferWhole (s : State) : Prop := lawBuffer s = true ∧ creditsCovered s = true

theorem refreshTenants_buffer {s : State} (hs : BufferWhole s) : BufferWhole (refreshTenants s) := by
  rw [BufferWhole, lawBuffer_and_credits_iff] at hs ⊢
  obtain ⟨hfree, hcredits⟩ := hs
  have hocc : (refreshTenants s).tn.tenants.map occupancy = s.tn.tenants.map occupancy := by
    refine ext_of_get fun t => ?_
    simp [occupancy]
  refine ⟨by rw [hocc]; simpa using hfree, ?_⟩
  refine refreshReady_reserved s.ps.active (tn := refreshHold s.ps.active s.tn) (Nat.le_trans (sum_le_sum fun t => ?_) hcredits)
  simp [refreshHold, creditOf]

/-- A change of one record and of the free blocks that takes as many blocks as it gives, and keeps the credits covered. -/
theorem BufferWhole.of_modTenant {s : State} (hs : BufferWhole s) (u : Tenant) (f : TenantRec → TenantRec) (g : TN → TN)
    (htenants : (g s.tn).tenants = s.tn.tenants)
    (hblocks : (g s.tn).free + occupancy (f (tenantRec s u)) = s.tn.free + occupancy (tenantRec s u))
    (hcredit : reserved s.tn + creditOf (f (tenantRec s u)) ≤ (g s.tn).free + creditOf (tenantRec s u)) :
    BufferWhole (modTenant u f (s.modTN g)) := by
  rw [BufferWhole, lawBuffer_and_credits_iff] at hs ⊢
  obtain ⟨hfree, hcredits⟩ := hs
  have hocc := sum_set_add (s.tn.tenants.map occupancy) u
  have hcre := sum_set_add (s.tn.tenants.map creditOf) u
  simp only [modTenant, State.modTN_tn, htenants, map_set, tenantRec, PerTenant.get_map, reserved_eq] at *
  rw [sum_set (s.tn.tenants.map occupancy), sum_set (s.tn.tenants.map creditOf)]
  omega

theorem packetBlocks_fresh {packet : List Byte} (h : 0 < packet.length) :
    packetBlocks ⟨packet.length, 0, packet⟩ = blocksFor packet.length := by
  have : packet ≠ [] := List.length_pos_iff.1 h
  simp [packetBlocks, this]

theorem Basic.buffer {s t : State} (hb : Basic s t) (hs : BufferWhole s) : BufferWhole t := by
  have hstand : ∀ {t : State}, t.tn = s.tn → BufferWhole t := fun htn => by
    simpa [BufferWhole, lawBuffer, creditsCovered, htn] using hs
  have hcovered : reserved s.tn ≤ s.tn.free := of_decide_eq_true hs.2
  have hone : ∀ (u : Tenant) (f : TenantRec → TenantRec), (f (tenantRec s u)).queue = (tenantRec s u).queue →
      (f (tenantRec s u)).ready = (tenantRec s u).ready → BufferWhole (modTenant u f s) := fun u f hq hr =>
    hs.of_modTenant u f id rfl (by simp [occupancy, hq]) (by simpa [creditOf, hr] using hcovered)
  cases hb with
  | refresh => exact refreshTenants_buffer hs
  | tenants f s h =>
    rw [BufferWhole, lawBuffer_and_credits_iff] at hs ⊢
    have hocc : (f s.tn).tenants.map occupancy = s.tn.tenants.map occupancy := ext_of_get fun n => by
      obtain ⟨-, -, hqueue, -⟩ := h.record n
      simp [occupancy, hqueue]
    have hcre : (f s.tn).tenants.map creditOf = s.tn.tenants.map creditOf := ext_of_get fun n => by
      obtain ⟨-, -, -, -, hready⟩ := h.record n
      simp [creditOf, hready]
    simpa [hocc, hcre, h.free] using hs
  | drain u => exact hone u _ rfl rfl
  | close u => exact hone u _ rfl rfl
  | enlist u => exact hone u _ rfl rfl
  | configure u c s h =>
    exact refreshTenants_buffer (hs.of_modTenant u _ id rfl rfl (Nat.add_le_add hcovered (Nat.zero_le _)))
  | enqueue u packet s h hlen =>
    have hcredit := credit_le_reserved s.tn u
    have hroom : blocksFor packet.length ≤ s.tn.free - reserved s.tn + creditOf (tenantRec s u) := h
    refine refreshTenants_buffer (hs.of_modTenant u _ _ rfl ?_ ?_)
    · simp only [occupancy, List.map_append, List.map_cons, List.map_nil, List.sum_append, List.sum_cons, List.sum_nil,
        packetBlocks_fresh hlen]
      simp only [tenantRec] at *
      omega
    · have hspent : creditOf { tenantRec s u with
          ready := (tenantRec s u).ready.map fun c => c - min c (blocksFor packet.length) } =
          creditOf (tenantRec s u) - min (creditOf (tenantRec s u)) (blocksFor packet.length) := by
        cases hready : (tenantRec s u).ready <;> simp [creditOf, hready]
      change reserved s.tn + creditOf { tenantRec s u with
        ready := (tenantRec s u).ready.map fun c => c - min c (blocksFor packet.length) } ≤
          s.tn.free - blocksFor packet.length + creditOf (tenantRec s u)
      rw [hspent]
      have hcredit' : creditOf (tenantRec s u) ≤ reserved s.tn := hcredit
      generalize creditOf (tenantRec s u) = c at *
      generalize blocksFor packet.length = n at *
      omega
  | unqueue u q n s h =>
    refine hs.of_modTenant u _ _ rfl ?_ ?_
    · simp only [occupancy] at *; omega
    · simp only [creditOf]; omega
  | stop v a s => exact hstand (by simp)
  | _ => exact hstand rfl

/-- Settles O52: a packet takes the blocks that its queue gains, within the unreserved blocks and its tenant's credit. -/
theorem bufferStaysWhole : Obligations.BufferStaysWhole := by
  have hkept : Kept BufferWhole :=
    .of_activation (fun _ role _ _ => by cases role <;> exact ⟨rfl, rfl⟩) (fun _ _ h => h) Basic.buffer (fun _ _ _ hs => hs)
  exact fun s t h1 h2 h => hkept.step ⟨h1, h2⟩ h

end Sys2Proof.Machine

namespace Sys2Proof.Machine

set_option Elab.async false

/-! ### The plans: positions of CLOSED tenants -/

/-- The third law with its companion: what no CLOSED tenant has. -/
structure KeptOut (s : State) (t : Tenant) : Prop where
  active : s.ps.active.counts.get t = 0
  fallback : s.ps.fallback.counts.get t = 0
  pending : ∀ p, s.ps.pending = some p → p.plan.counts.get t = 0 ∧ p.carried.get t = 0
  join : s.lc.role = .site → s.lc.link = .join → ∀ j, s.lc.joinRecord = some j → j.counts.get t = 0

theorem lawClosed_and_keptOut_iff (s : State) : (lawClosed s = true ∧ closedKeptOut s = true) ↔
    ∀ t, (tenantRec s t).state = .closed → KeptOut s t := by
  have hall : ∀ f : Tenant → Bool, Tenant.all.all f = true ↔ ∀ t, f t = true := fun f => by
    simp only [List.all_eq_true]
    exact ⟨fun h t => h t (by cases t <;> decide), fun h t _ => h t⟩
  simp only [lawClosed, closedKeptOut, hall, Bool.or_eq_true, Bool.and_eq_true, bne_iff_ne, beq_iff_eq, ne_eq,
    Option.all_eq_true, tenantRec]
  rw [← forall_and]
  refine forall_congr' fun t => ⟨fun ⟨h1, h2⟩ hc => ?_, fun h => ?_⟩
  · obtain ⟨⟨ha, hf⟩, hp⟩ := h1.resolve_left (Classical.not_not.2 hc)
    obtain ⟨hcar, hj⟩ := h2.resolve_left (Classical.not_not.2 hc)
    exact ⟨ha, hf, fun p h => ⟨hp p h, hcar p h⟩, fun hr hl => (hj.resolve_left fun h => h.elim (· hr) (· hl))⟩
  · by_cases hc : (s.tn.tenants.get t).state = .closed
    · obtain ⟨ha, hf, hp, hj⟩ := h hc
      refine ⟨.inr ⟨⟨ha, hf⟩, fun p h => (hp p h).1⟩, .inr ⟨fun p h => (hp p h).2, ?_⟩⟩
      by_cases hr : s.lc.role = .site
      · by_cases hl : s.lc.link = .join
        · exact .inr (hj hr hl)
        · exact .inl (.inr hl)
      · exact .inl (.inl hr)
    · exact ⟨.inl hc, .inl hc⟩

/-- No CLOSED tenant holds a position, or could come to hold one. -/
def ClosedOut (s : State) : Prop := ∀ t, (tenantRec s t).state = .closed → KeptOut s t

theorem ClosedOut.of_same {s t : State} (hs : ClosedOut s) (hps : t.ps = s.ps) (hlc : t.lc = s.lc)
    (htn : ∀ n, (tenantRec t n).state = .closed → (tenantRec s n).state = .closed) : ClosedOut t := fun n hn => by
  obtain ⟨h1, h2, h3, h4⟩ := hs n (htn n hn)
  exact ⟨hps ▸ h1, hps ▸ h2, hps ▸ h3, hlc ▸ h4⟩

/-- The close condition is that a tenant would be kept out as CLOSED (R91). -/
theorem closeCondition_keptOut {s : State} {t : Tenant} (h : closeCondition s t = true) : KeptOut s t := by
  simp only [closeCondition, Bool.and_eq_true, beq_iff_eq] at h
  obtain ⟨⟨⟨⟨-, hactive⟩, hpending⟩, hfallback⟩, hjoin⟩ := h
  refine ⟨hactive, hfallback, fun p hp => ?_, fun hr hl j hj => ?_⟩
  · rw [hp] at hpending
    simpa using hpending
  · rw [hr, hl, hj] at hjoin
    simpa using hjoin

theorem Basic.closedOut {s t : State} (hb : Basic s t) (hs : ClosedOut s) : ClosedOut t := by
  have hone : ∀ (u : Tenant) (f : TenantRec → TenantRec) (v : State), v.ps = s.ps → v.lc = s.lc →
      v.tn.tenants = s.tn.tenants → ((f (tenantRec s u)).state = .closed → (tenantRec s u).state = .closed) →
      ClosedOut (modTenant u f v) := fun u f v hps hlc htn hf => hs.of_same hps hlc fun n => by
    rw [tenantRec_modTenant, show ∀ m, tenantRec v m = tenantRec s m from fun m => by simp [tenantRec, htn]]
    split
    · next h => exact h ▸ hf
    · exact id
  have hrefresh : ∀ {v : State}, ClosedOut v → ClosedOut (refreshTenants v) := fun hv =>
    hv.of_same rfl rfl fun n => by simp [tenantRec]
  cases hb with
  | lc f s h =>
    intro n hn
    obtain ⟨h1, h2, h3, h4⟩ := hs n hn
    refine ⟨h1, h2, h3, fun hr hl j hj => ?_⟩
    rcases h.join hl with ⟨hlink, hrecord⟩ | hzero
    · exact h4 (h.role ▸ hr) hlink j (hrecord ▸ hj)
    · exact hzero j hj n hn
  | plans f s h =>
    intro n hn
    obtain ⟨h1, h2, h3, h4⟩ := hs n hn
    refine ⟨h.active ▸ h1, ?_, fun q hq => ?_, h4⟩
    · rcases h.fallback with e | e
      · exact e ▸ h2
      · rw [State.modPS_ps, e]
        simp [Plan.flaggedIdle]
    · obtain ⟨p, hp, hplan, hcarried⟩ := h.pending q hq
      rw [hplan, hcarried]
      exact h3 p hp
  | install p s h =>
    intro n hn
    obtain ⟨h1, h2, -, h4⟩ := hs n hn
    refine ⟨h1, h2, fun q hq => ?_, h4⟩
    cases hq
    rcases h.closed with hzero | ⟨hr, hl, j, hj, hplan, hcarried⟩
    · exact hzero n hn
    · rw [hplan, hcarried]
      exact ⟨h4 hr hl j hj, h4 hr hl j hj⟩
  | refresh => exact hrefresh hs
  | tenants f s h =>
    refine hs.of_same rfl rfl fun n hn => ?_
    obtain ⟨hstate, -⟩ := h.record n
    exact hstate ▸ hn
  | drain u => exact hone u _ s rfl rfl rfl nofun
  | close u s h =>
    intro n hn
    rw [tenantRec_modTenant] at hn
    by_cases hu : n = u
    · subst hu
      obtain ⟨h1, h2, h3, h4⟩ := closeCondition_keptOut h
      exact ⟨h1, h2, h3, h4⟩
    · rw [if_neg hu] at hn
      obtain ⟨h1, h2, h3, h4⟩ := hs n hn
      exact ⟨h1, h2, h3, h4⟩
  | enlist u => exact hone u _ s rfl rfl rfl nofun
  | configure u => exact hrefresh (hone u _ s rfl rfl rfl id)
  | enqueue u => exact hrefresh (hone u _ _ rfl rfl rfl id)
  | unqueue u => exact hone u _ _ rfl rfl rfl id
  | stop v a s => exact hs.of_same (by simp) (by simp) fun n => by simp [tenantRec]
  | _ => exact hs.of_same rfl rfl fun _ => id

theorem Activation.closedOut {f : PS → PS} {s : State} (ha : Activation s (f s.ps)) (hs : ClosedOut s) :
    ClosedOut (s.modPS f) := fun n hn => by
  obtain ⟨h1, h2, h3, h4⟩ := hs n hn
  have hps : (s.modPS f).ps = f s.ps := rfl
  cases ha with
  | pending p _ hp hactive hpending hfallback =>
    refine ⟨by rw [hps, hactive]; exact (h3 p hp).1, by rw [hps, hfallback]; exact (h3 p hp).2, fun q hq => ?_, h4⟩
    rw [hps, hpending] at hq; cases hq
  | fallback _ hactive hpending hfallback =>
    exact ⟨by rw [hps, hactive]; exact h2, by rw [hps, hfallback]; exact h2, by rw [hps, hpending]; exact h3, h4⟩
  | idle _ hactive hpending hfallback =>
    exact ⟨by rw [hps, hactive]; simp [Plan.flaggedIdle], by rw [hps, hfallback]; simp [Plan.flaggedIdle],
      by rw [hps, hpending]; exact h3, h4⟩
  | loop _ _ hactive hpending hfallback =>
    exact ⟨by rw [hps, hactive]; simp [loopPlan], by rw [hps, hfallback]; exact h2, by rw [hps, hpending]; exact h3, h4⟩

/-- Settles O56: a plan that comes to be held gives CLOSED tenants nothing, and a tenant closes only when none does. -/
theorem closedTenantsHoldNoPosition : Obligations.ClosedTenantsHoldNoPosition := by
  have hkept : Kept ClosedOut :=
    .of_activation (fun _ role _ _ => (lawClosed_and_keptOut_iff _).1 (by cases role <;> exact ⟨rfl, rfl⟩))
      (fun _ _ h => h.of_same rfl rfl fun _ => id) Basic.closedOut (fun f s ha hs => ha.closedOut hs)
  exact fun s t h1 h2 h => (lawClosed_and_keptOut_iff t).2 (hkept.step ((lawClosed_and_keptOut_iff s).1 ⟨h1, h2⟩) h)

/-! ### The plans: profiles -/

/-- The fifth law with its companion. -/
structure ProfilesFit (s : State) : Prop where
  active : s.lc.role = .site → disciplined s.tm ∨ s.ps.active.profile ≤ 3
  fallback : s.ps.fallback.profile ≤ 3
  pending : s.lc.role = .site → disciplined s.tm ∨ ∀ p, s.ps.pending = some p → p.plan.profile ≤ 3

theorem lawProfile_and_ready_iff (s : State) : (lawProfile s = true ∧ profileReady s = true) ↔ ProfilesFit s := by
  simp only [lawProfile, profileReady, Bool.or_eq_true, Bool.and_eq_true, bne_iff_ne, beq_iff_eq, ne_eq,
    decide_eq_true_eq, Option.all_eq_true]
  refine ⟨fun ⟨h1, h2, h3⟩ => ⟨fun hr => ?_, h2, fun hr => ?_⟩, fun ⟨h1, h2, h3⟩ => ⟨?_, h2, ?_⟩⟩
  · unfold disciplined; grind
  · unfold disciplined; grind
  · unfold disciplined at h1; grind
  · unfold disciplined at h3; grind

theorem ProfilesFit.of_same {s t : State} (hs : ProfilesFit s) (hps : t.ps = s.ps) (hrole : t.lc.role = s.lc.role)
    (htm : t.tm = s.tm) : ProfilesFit t := by
  obtain ⟨h1, h2, h3⟩ := hs
  exact ⟨by rw [hps, hrole, htm]; exact h1, by rw [hps]; exact h2, by rw [hps, hrole, htm]; exact h3⟩

theorem Basic.profilesFit {s t : State} (hb : Basic s t) (hs : ProfilesFit s) : ProfilesFit t := by
  obtain ⟨h1, h2, h3⟩ := hs
  cases hb with
  | tm f s h =>
    refine ⟨fun hr => ?_, h2, fun hr => ?_⟩
    · by_cases hd : disciplined s.tm
      · exact (h.discipline hr hd).imp_right And.left
      · exact .inr ((h1 hr).resolve_left hd)
    · by_cases hd : disciplined s.tm
      · exact (h.discipline hr hd).imp_right And.right
      · exact .inr ((h3 hr).resolve_left hd)
  | plans f s h =>
    refine ⟨by rw [State.modPS_ps, h.active]; exact h1, ?_, fun hr => (h3 hr).imp_right fun hlow q hq => ?_⟩
    · rcases h.fallback with e | e
      · rw [State.modPS_ps, e]; exact h2
      · rw [State.modPS_ps, e]; exact Nat.zero_le _
    · obtain ⟨p, hp, hplan, -⟩ := h.pending q hq
      rw [hplan]
      exact hlow p hp
  | install p s h =>
    exact ⟨h1, h2, fun hr => (h.profile hr).imp_right fun hlow q hq => by cases hq; exact hlow⟩
  | lc f s h => exact .of_same ⟨h1, h2, h3⟩ rfl h.role rfl
  | stop v a s => exact .of_same ⟨h1, h2, h3⟩ (by simp) (by simp) (by simp)
  | _ => exact .of_same ⟨h1, h2, h3⟩ rfl rfl rfl

theorem Activation.profilesFit {f : PS → PS} {s : State} (ha : Activation s (f s.ps)) (hs : ProfilesFit s) :
    ProfilesFit (s.modPS f) := by
  obtain ⟨h1, h2, h3⟩ := hs
  have hps : (s.modPS f).ps = f s.ps := rfl
  cases ha with
  | pending p _ hp hactive hpending hfallback =>
    refine ⟨fun hr => ?_, by rw [hps, hfallback]; exact Nat.zero_le _, fun _ => .inr fun q hq => ?_⟩
    · rw [hps, hactive]
      exact (h3 hr).imp_right fun h => h p hp
    · rw [hps, hpending] at hq; cases hq
  | fallback _ hactive hpending hfallback =>
    exact ⟨fun _ => .inr (by rw [hps, hactive]; exact h2), by rw [hps, hfallback]; exact h2,
      by rw [hps, hpending]; exact h3⟩
  | idle _ hactive hpending hfallback =>
    exact ⟨fun _ => .inr (by rw [hps, hactive]; exact Nat.zero_le _), by rw [hps, hfallback]; exact Nat.zero_le _,
      by rw [hps, hpending]; exact h3⟩
  | loop _ _ hactive hpending hfallback =>
    exact ⟨fun _ => .inr (by rw [hps, hactive]; exact Nat.zero_le _), by rw [hps, hfallback]; exact h2,
      by rw [hps, hpending]; exact h3⟩

/-- Settles O57: the ceiling keeps a proposal low outside the disciplined states, which are left only with low profiles. -/
theorem highProfilesNeedDisciplinedTime : Obligations.HighProfilesNeedDisciplinedTime := by
  have hkept : Kept ProfilesFit :=
    .of_activation (fun _ role _ _ => (lawProfile_and_ready_iff _).1 (by cases role <;> exact ⟨rfl, rfl⟩))
      (fun _ _ h => h.of_same rfl rfl rfl) Basic.profilesFit (fun f s ha hs => ha.profilesFit hs)
  exact fun s t h1 h2 h => (lawProfile_and_ready_iff t).2 (hkept.step ((lawProfile_and_ready_iff s).1 ⟨h1, h2⟩) h)

/-! ### The loopback switch -/

/-- A set loopback switch has its LOOP test (R18, R149, R150). -/
def LoopRuns (s : State) : Prop :=
  s.mp.loopSwitch = true → s.st.kind = some .loop ∧ s.st.state = .running ∧ ∃ n, s.st.test = some n ∧ n ≤ 11

theorem loopReady_iff (s : State) : loopReady s = true ↔ LoopRuns s := by
  have hany : s.st.test.any (· ≤ 11) = true ↔ ∃ n, s.st.test = some n ∧ n ≤ 11 := by simp [Option.any_eq_true]
  simp only [loopReady, LoopRuns, Bool.or_eq_true, Bool.not_eq_true', Bool.and_eq_true, beq_iff_eq, hany, and_assoc]
  cases s.mp.loopSwitch <;> simp

theorem LoopRuns.of_same {s t : State} (hs : LoopRuns s) (hmp : t.mp.loopSwitch = s.mp.loopSwitch) (hst : t.st = s.st) :
    LoopRuns t := by
  unfold LoopRuns
  rw [hmp, hst]
  exact hs

/-- Without a LOOP test running, the switch is not set. -/
theorem LoopRuns.unset {s : State} (hs : LoopRuns s) (h : s.st.kind ≠ some .loop ∨ s.st.state ≠ .running) :
    s.mp.loopSwitch = false := by
  cases hl : s.mp.loopSwitch with
  | false => rfl
  | true =>
    obtain ⟨hk, hr, -⟩ := hs hl
    exact absurd h (by simp [hk, hr])

theorem LoopRuns.of_unset {s : State} (h : s.mp.loopSwitch = false) : LoopRuns s := fun hl => by rw [h] at hl; cases hl

theorem testBusy_not_running {st : ST} (h : testBusy st = false) : st.state ≠ .running := by
  intro hr; simp [testBusy, hr] at h

/-- The end of a LOOP test clears the switch. -/
theorem testStopped_switch (v : Option TestOutcome) (a : Bool) {s : State} (hs : LoopRuns s) :
    (testStopped v a s).mp.loopSwitch = false := by
  unfold testStopped
  dsimp only
  split
  · rfl
  · next h => exact hs.unset (.inl (by simpa using h))

theorem Basic.loopRuns {s t : State} (hb : Basic s t) (hs : LoopRuns s) : LoopRuns t := by
  cases hb with
  | mp f s h => exact hs.of_same h rfl
  | test f s h =>
    unfold LoopRuns
    rw [State.modST_st, h.kind, h.state, h.test]
    exact hs
  | arm f s hidle h => exact .of_unset (hs.unset (.inr (testBusy_not_running hidle)))
  | loopStart n run allowed s hidle hlink hn => exact fun _ => ⟨rfl, rfl, n, rfl, hn⟩
  | start s h => exact .of_unset (hs.unset (.inr (by simp [h])))
  | run f s hkind => exact .of_unset (hs.unset (.inl hkind))
  | done f s h => exact .of_unset (hs.unset (.inr (by simp [h])))
  | stop v a s => exact .of_unset (testStopped_switch v a hs)
  | _ => exact hs.of_same rfl rfl

/-! ### The plans: numbers -/

/-- The eighth law with its companions. -/
structure NumbersFollow (s : State) : Prop where
  number : s.ps.active.flagged = true ∨ ∀ p, s.ps.pending = some p → p.plan.number = s.ps.active.number + 1
  fallback : s.ps.fallback.flagged = true
  off : s.lc.link = .off → s.ps.pending = none
  switch : s.mp.loopSwitch = true → s.lc.link = .off
  loop : LoopRuns s

theorem numbersFollow_iff (s : State) :
    (lawNumber s = true ∧ loopAlone s = true ∧ loopReady s = true) ↔ NumbersFollow s := by
  simp only [lawNumber, loopAlone, loopReady_iff, Bool.or_eq_true, Bool.and_eq_true, Bool.not_eq_true', bne_iff_ne,
    beq_iff_eq, ne_eq, Option.all_eq_true, Option.isNone_iff_eq_none]
  refine ⟨fun ⟨h1, ⟨⟨h2, h3⟩, h4⟩, h5⟩ => ⟨h1, h2, fun hl => h3.resolve_left (Classical.not_not.2 hl), fun hl => ?_, h5⟩,
    fun ⟨h1, h2, h3, h4, h5⟩ => ⟨h1, ⟨⟨h2, ?_⟩, ?_⟩, h5⟩⟩
  · exact h4.resolve_left (by simp [hl])
  · exact (Classical.em (s.lc.link = .off)).symm.imp_right h3
  · cases hl : s.mp.loopSwitch with
    | false => exact .inl rfl
    | true => exact .inr (h4 hl)

theorem Basic.numbersFollow {s t : State} (hb : Basic s t) (hs : NumbersFollow s) : NumbersFollow t := by
  have hloop := hb.loopRuns hs.loop
  obtain ⟨h1, h2, h3, h4, h5⟩ := hs
  cases hb with
  | mp f s h => exact ⟨h1, h2, h3, h ▸ h4, hloop⟩
  | lc f s h =>
    refine ⟨h1, h2, fun hl => (h.toOff hl).elim h3 id, fun hl => ?_, hloop⟩
    exact (h.fromOff (h4 hl)).resolve_right fun hn => hn ⟨(h5 hl).1, (h5 hl).2.1⟩
  | plans f s h =>
    refine ⟨?_, ?_, fun hl => ?_, h4, hloop⟩
    · rw [State.modPS_ps, h.active]
      refine h1.imp_right fun hn q hq => ?_
      obtain ⟨p, hp, hplan, -⟩ := h.pending q hq
      rw [hplan]
      exact hn p hp
    · rcases h.fallback with e | e <;> rw [State.modPS_ps, e]
      · exact h2
      · rfl
    · cases hq : (f s.ps).pending with
      | none => exact hq
      | some q =>
        obtain ⟨p, hp, -⟩ := h.pending q hq
        rw [h3 hl] at hp; cases hp
  | install p s h =>
    exact ⟨h.number.imp_right fun hn q hq => by cases hq; exact hn, h2, fun hl => absurd hl h.link, h4, hloop⟩
  | loopStart n run allowed s hidle hlink => exact ⟨h1, h2, h3, fun _ => hlink, hloop⟩
  | stop v a s =>
    have hunset := testStopped_switch v a h5
    exact ⟨by simpa using h1, by simpa using h2, by simpa using h3, by simp [hunset], hloop⟩
  | _ => exact ⟨h1, h2, h3, h4, hloop⟩

theorem Activation.numbersFollow {f : PS → PS} {s : State} (ha : Activation s (f s.ps)) (hs : NumbersFollow s) :
    NumbersFollow (s.modPS f) := by
  obtain ⟨h1, h2, h3, h4, h5⟩ := hs
  have hps : (s.modPS f).ps = f s.ps := rfl
  have hloop : LoopRuns (s.modPS f) := h5.of_same rfl rfl
  cases ha with
  | pending p _ hp hactive hpending hfallback =>
    exact ⟨.inr fun q hq => (by rw [hps, hpending] at hq; cases hq), by rw [hps, hfallback]; rfl,
      fun _ => by rw [hps, hpending], h4, hloop⟩
  | fallback _ hactive hpending hfallback =>
    exact ⟨.inl (by rw [hps, hactive]; exact h2), by rw [hps, hfallback]; exact h2, by rw [hps, hpending]; exact h3, h4, hloop⟩
  | idle _ hactive hpending hfallback =>
    exact ⟨.inl (by rw [hps, hactive]; rfl), by rw [hps, hfallback]; rfl, by rw [hps, hpending]; exact h3, h4, hloop⟩
  | loop _ hswitch hactive hpending hfallback =>
    refine ⟨.inr fun q hq => ?_, by rw [hps, hfallback]; exact h2, by rw [hps, hpending]; exact h3, h4, hloop⟩
    rw [hps, hpending, h3 (h4 hswitch)] at hq; cases hq

/-- Settles O59: a plan is offered under the number after the active plan's, and a regular plan that becomes active leaves
none pending: the pending plan itself, or in OFF the loop plan. -/
theorem pendingNumberFollowsTheActive : Obligations.PendingNumberFollowsTheActive := by
  have hkept : Kept NumbersFollow :=
    .of_activation (fun _ role _ _ => (numbersFollow_iff _).1 (by cases role <;> exact ⟨rfl, rfl, rfl⟩))
      (fun _ _ ⟨h1, h2, h3, h4, h5⟩ => ⟨h1, h2, h3, h4, h5⟩) Basic.numbersFollow (fun f s ha hs => ha.numbersFollow hs)
  intro s t h1 h2 h3 h
  obtain ⟨hnumber, halone, -⟩ := (numbersFollow_iff t).2 (hkept.step ((numbersFollow_iff s).1 ⟨h1, h2, h3⟩) h)
  exact ⟨hnumber, halone⟩

/-! ### The plans: well-formed -/

/-- The first law with its companion. -/
structure PlansFormed (s : State) : Prop where
  active : s.ps.active.wellFormed = true
  fallback : s.ps.fallback.wellFormed = true
  pending : ∀ p, s.ps.pending = some p → p.plan.wellFormed = true ∧ countsWellFormed p.carried = true
  loop : LoopRuns s

theorem plansFormed_iff (s : State) : (lawPlans s = true ∧ loopReady s = true) ↔ PlansFormed s := by
  simp only [lawPlans, loopReady_iff, Bool.and_eq_true, Option.all_eq_true]
  exact ⟨fun ⟨⟨⟨h1, h2⟩, h3⟩, h4⟩ => ⟨h1, h2, h3, h4⟩, fun ⟨h1, h2, h3, h4⟩ => ⟨⟨⟨h1, h2⟩, h3⟩, h4⟩⟩

theorem flaggedIdle_wellFormed : Plan.flaggedIdle.wellFormed = true := by decide

theorem loopPlan_wellFormed {n : Nat} (h : n ≤ 11) : (loopPlan n).wellFormed = true := by
  have hall : ∀ m : Fin 12, (loopPlan m.val).wellFormed = true := by decide
  exact hall ⟨n, by omega⟩

/-- Carried counts that are well-formed make a well-formed fallback plan (R19, R30). -/
theorem fallbackPlan_wellFormed (number : PlanNo) {c : PerTenant Nat} (h : countsWellFormed c = true) :
    (fallbackPlan number c).wellFormed = true := by
  simp only [countsWellFormed, Bool.and_eq_true, decide_eq_true_eq] at h
  simp [Plan.wellFormed, Plan.inRange, fallbackPlan, usable, h]

theorem Basic.plansFormed {s t : State} (hb : Basic s t) (hs : PlansFormed s) : PlansFormed t := by
  have hloop := hb.loopRuns hs.loop
  obtain ⟨h1, h2, h3, -⟩ := hs
  cases hb with
  | plans f s h =>
    refine ⟨by rw [State.modPS_ps, h.active]; exact h1, ?_, fun q hq => ?_, hloop⟩
    · rcases h.fallback with e | e <;> rw [State.modPS_ps, e]
      · exact h2
      · exact flaggedIdle_wellFormed
    · obtain ⟨p, hp, hplan, hcarried⟩ := h.pending q hq
      rw [hplan, hcarried]
      exact h3 p hp
  | install p s h => exact ⟨h1, h2, fun q hq => by cases hq; exact ⟨h.plan, h.carried⟩, hloop⟩
  | stop v a s => exact ⟨by simpa using h1, by simpa using h2, by simpa using h3, hloop⟩
  | _ => exact ⟨h1, h2, h3, hloop⟩

theorem Activation.plansFormed {f : PS → PS} {s : State} (ha : Activation s (f s.ps)) (hs : PlansFormed s) :
    PlansFormed (s.modPS f) := by
  obtain ⟨h1, h2, h3, h4⟩ := hs
  have hps : (s.modPS f).ps = f s.ps := rfl
  have hloop : LoopRuns (s.modPS f) := h4.of_same rfl rfl
  cases ha with
  | pending p _ hp hactive hpending hfallback =>
    obtain ⟨hplan, hcarried⟩ := h3 p hp
    exact ⟨by rw [hps, hactive]; exact hplan, by rw [hps, hfallback]; exact fallbackPlan_wellFormed _ hcarried,
      fun q hq => (by rw [hps, hpending] at hq; cases hq), hloop⟩
  | fallback _ hactive hpending hfallback =>
    exact ⟨by rw [hps, hactive]; exact h2, by rw [hps, hfallback]; exact h2, by rw [hps, hpending]; exact h3, hloop⟩
  | idle _ hactive hpending hfallback =>
    exact ⟨by rw [hps, hactive]; exact flaggedIdle_wellFormed, by rw [hps, hfallback]; exact flaggedIdle_wellFormed,
      by rw [hps, hpending]; exact h3, hloop⟩
  | loop _ hswitch hactive hpending hfallback =>
    obtain ⟨-, -, n, hn, hle⟩ := h4 hswitch
    exact ⟨by rw [hps, hactive, hn]; exact loopPlan_wellFormed hle, by rw [hps, hfallback]; exact h2,
      by rw [hps, hpending]; exact h3, hloop⟩

/-- Settles O55: the Plan Store accepts well-formed plans only, and the plans it makes itself are. -/
theorem plansStayWellFormed : Obligations.PlansStayWellFormed := by
  have hkept : Kept PlansFormed :=
    .of_activation (fun _ role _ _ => (plansFormed_iff _).1 (by cases role <;> exact ⟨rfl, rfl⟩))
      (fun _ _ ⟨h1, h2, h3, h4⟩ => ⟨h1, h2, h3, h4⟩) Basic.plansFormed (fun f s ha hs => ha.plansFormed hs)
  exact fun s t h1 h2 h => (plansFormed_iff t).2 (hkept.step ((plansFormed_iff s).1 ⟨h1, h2⟩) h)

end Sys2Proof.Machine

namespace Sys2Proof.Machine

set_option Elab.async false

/-! ### The plans: TEST positions -/

/-- No TEST positions active, pending or requested. -/
structure NoTest (ps : PS) (st : ST) : Prop where
  active : ps.active.test = 0
  pending : ∀ p, ps.pending = some p → p.plan.test = 0
  request : st.reqTest = 0

/-- No stage of a sweep is active, and the first is wanted. -/
structure FirstStage (st : ST) : Prop where
  kind : st.kind = some .sweep
  wanted : st.stageWanted = 0
  active : st.stageActive = none

/-- The pending plan's TEST positions in STARTING are those that the test waits for (R151). -/
def WaitsFor (ps : PS) (st : ST) : Prop :=
  (st.kind = some .far ∧ st.reqTest = st.test.getD 0 ∧
      ∀ p, ps.pending = some p → p.plan.test = 0 ∨ st.test = some p.plan.test) ∨
    (FirstStage st ∧ st.reqTest = 11 ∧ st.reqProfile = some 0 ∧
      ∀ p, ps.pending = some p → p.plan.test = 0 ∨ (p.plan.profile = 0 ∧ p.plan.test = 11))

/-- The test record is in step with the plans, in each of its states. -/
def InStep (ps : PS) (st : ST) : Prop :=
  match st.state with
  | .idle => NoTest ps st
  | .done => NoTest ps st
  | .arming => NoTest ps st ∧ (st.kind = some .far ∨ FirstStage st)
  | .starting => ps.active.test = 0 ∧ WaitsFor ps st
  | .running => True
  | .stopping => True

/-- The seventh law with its companion. -/
structure TestFits (s : State) : Prop where
  fallback : s.ps.fallback.test = 0
  site : s.lc.role = .site → InStep s.ps s.st

theorem noTest_iff (ps : PS) (st : ST) :
    NoTest ps st ↔ (ps.active.test = 0 ∧ ∀ p, ps.pending = some p → p.plan.test = 0) ∧ st.reqTest = 0 :=
  ⟨fun ⟨h1, h2, h3⟩ => ⟨⟨h1, h2⟩, h3⟩, fun ⟨⟨h1, h2⟩, h3⟩ => ⟨h1, h2, h3⟩⟩

theorem firstStage_iff (st : ST) :
    FirstStage st ↔ (st.kind = some .sweep ∧ st.stageWanted = 0) ∧ st.stageActive = none :=
  ⟨fun ⟨h1, h2, h3⟩ => ⟨⟨h1, h2⟩, h3⟩, fun ⟨⟨h1, h2⟩, h3⟩ => ⟨h1, h2, h3⟩⟩

theorem lawTest_and_inStep_iff (s : State) : (lawTest s = true ∧ testInStep s = true) ↔ TestFits s := by
  have hfits : TestFits s ↔ s.ps.fallback.test = 0 ∧ (s.lc.role ≠ .site ∨ InStep s.ps s.st) := by
    rw [ne_eq, ← Decidable.imp_iff_not_or]
    exact ⟨fun ⟨h1, h2⟩ => ⟨h1, h2⟩, fun ⟨h1, h2⟩ => ⟨h1, h2⟩⟩
  rw [hfits]
  cases hr : s.lc.role with
  | hub => simp [lawTest, testInStep, hr]
  | site =>
    cases hst : s.st.state <;>
      simp [lawTest, testInStep, InStep, WaitsFor, noTest_iff, firstStage_iff, hr, hst, Option.all_eq_true]
    all_goals grind

theorem InStep.of_stands {ps ps' : PS} {st st' : ST} (h : InStep ps st) (hactive : ps'.active.test = 0 ∨ ps'.active = ps.active)
    (hpending : ∀ q, ps'.pending = some q → ∃ p, ps.pending = some p ∧ q.plan = p.plan)
    (hst : TestStands st st') : InStep ps' st' := by
  obtain ⟨hkind, htest, hstate, hreq, hprofile, hwanted, hstage, -⟩ := hst
  have hnone : NoTest ps st → NoTest ps' st' := fun ⟨h1, h2, h3⟩ => by
    refine ⟨hactive.elim id fun e => e ▸ h1, fun q hq => ?_, hreq ▸ h3⟩
    obtain ⟨p, hp, e⟩ := hpending q hq
    exact e ▸ h2 p hp
  have hfirst : FirstStage st → FirstStage st' := fun ⟨h1, h2, h3⟩ => ⟨hkind ▸ h1, hwanted ▸ h2, hstage ▸ h3⟩
  unfold InStep at h ⊢
  rw [hstate]
  split at h
  · exact hnone h
  · exact hnone h
  · exact ⟨hnone h.1, h.2.imp (hkind ▸ ·) hfirst⟩
  · refine ⟨hactive.elim id fun e => e ▸ h.1, h.2.imp (fun ⟨h1, h2, h3⟩ => ?_) fun ⟨h1, h2, h3, h4⟩ => ?_⟩
    · refine ⟨hkind ▸ h1, by rw [hreq, htest]; exact h2, fun q hq => ?_⟩
      obtain ⟨p, hp, e⟩ := hpending q hq
      rw [e, htest]
      exact h3 p hp
    · refine ⟨hfirst h1, hreq ▸ h2, hprofile ▸ h3, fun q hq => ?_⟩
      obtain ⟨p, hp, e⟩ := hpending q hq
      rw [e]
      exact h4 p hp
  · trivial
  · trivial

theorem TestFits.of_same {s t : State} (hs : TestFits s) (hps : t.ps = s.ps) (hrole : t.lc.role = s.lc.role)
    (hst : t.st = s.st) : TestFits t :=
  ⟨by rw [hps]; exact hs.fallback, by rw [hps, hrole, hst]; exact hs.site⟩

/-- In RUNNING and STOPPING the record is in step with any plans. -/
theorem TestFits.of_running {s : State} (h : s.ps.fallback.test = 0) (hst : s.st.state = .running ∨ s.st.state = .stopping) :
    TestFits s :=
  ⟨h, fun _ => by unfold InStep; rcases hst with e | e <;> rw [e] <;> trivial⟩

theorem testStopped_state (v : Option TestOutcome) (a : Bool) (s : State) : (testStopped v a s).st.state = .stopping := by
  unfold testStopped
  dsimp only
  split <;> rfl

theorem testStopped_fits (v : Option TestOutcome) (a : Bool) {s : State} (h : s.ps.fallback.test = 0) :
    TestFits (testStopped v a s) :=
  .of_running (by simpa using h) (.inr (testStopped_state v a s))

/-- A plan that passes is in step with the record: TEST positions are those requested. -/
theorem InStep.install {s : State} {p : Pending} (h : InStep s.ps s.st)
    (hp : p.plan.test = 0 ∨ (p.plan.test = s.st.reqTest ∧
      (sweepBusy s.st = true → ∀ q, s.st.reqProfile = some q → p.plan.profile ≤ q))) :
    InStep { s.ps with pending := some p } s.st := by
  have hnone : NoTest s.ps s.st → NoTest { s.ps with pending := some p } s.st := fun ⟨h1, h2, h3⟩ =>
    ⟨h1, fun q hq => by cases hq; exact hp.elim id fun e => e.1.trans h3, h3⟩
  unfold InStep at h ⊢
  split at h
  · exact hnone h
  · exact hnone h
  · exact ⟨hnone h.1, h.2⟩
  · next hstate =>
    refine ⟨h.1, h.2.imp (fun ⟨h1, h2, h3⟩ => ⟨h1, h2, fun q hq => ?_⟩) fun ⟨h1, h2, h3, h4⟩ => ⟨h1, h2, h3, fun q hq => ?_⟩⟩
    · cases hq
      cases htest : s.st.test with
      | none => exact .inl (hp.elim id fun e => by rw [e.1, h2, htest]; rfl)
      | some n => exact hp.imp_right fun e => by rw [e.1, h2, htest]; rfl
    · cases hq
      refine hp.imp_right fun ⟨htest, hprofile⟩ => ⟨?_, htest.trans h2⟩
      exact Nat.le_zero.1 (hprofile (by simp [sweepBusy, testBusy, h1.kind, hstate]) 0 h3)
  · trivial
  · trivial

theorem Basic.testFits {s t : State} (hb : Basic s t) (hs : TestFits s) : TestFits t := by
  have hfallback := hs.fallback
  cases hb with
  | lc f s h => exact hs.of_same rfl h.role rfl
  | plans f s h =>
    refine ⟨?_, fun hr => (hs.site hr).of_stands (.inr h.active) (fun q hq => ?_) (.of_same ⟨rfl, rfl, rfl, rfl, rfl, rfl, rfl, rfl, rfl⟩)⟩
    · rcases h.fallback with e | e <;> rw [State.modPS_ps, e]
      · exact hfallback
      · rfl
    · obtain ⟨p, hp, hplan, -⟩ := h.pending q hq
      exact ⟨p, hp, hplan⟩
  | install p s h => exact ⟨hfallback, fun hr => (hs.site hr).install (h.test hr)⟩
  | test f s h => exact ⟨hfallback, fun hr => (hs.site hr).of_stands (.inr rfl) (fun q hq => ⟨q, hq, rfl⟩) h⟩
  | arm f s hidle h =>
    refine ⟨hfallback, fun hr => ?_⟩
    have hnone : NoTest s.ps s.st := by
      have := hs.site hr
      unfold InStep at this
      cases hst : s.st.state <;> simp_all [testBusy]
    unfold InStep
    rw [State.modST_st, h.state]
    exact ⟨⟨hnone.active, hnone.pending, h.reqTest⟩, h.kind.imp_right fun ⟨h1, h2, h3⟩ => ⟨h1, h2, h3⟩⟩
  | loopStart n run allowed s => exact .of_running hfallback (.inl rfl)
  | start s h =>
    refine ⟨hfallback, fun hr => ?_⟩
    have harming := hs.site hr
    unfold InStep at harming
    rw [h] at harming
    obtain ⟨⟨hactive, hpending, -⟩, hkind⟩ := harming
    refine ⟨hactive, hkind.imp (fun hk => ?_) fun hk => ?_⟩
    · refine ⟨hk, by simp [startTest, hk], fun p hp => .inl (hpending p hp)⟩
    · exact ⟨⟨hk.kind, hk.wanted, hk.active⟩, by simp [startTest, hk.kind, usable], by simp [startTest, hk.kind],
        fun p hp => .inl (hpending p hp)⟩
  | run f s hkind hk hrun => exact .of_running hfallback (.inl hrun)
  | stop v a s => exact testStopped_fits v a hfallback
  | done f s h hclear hdone hreq =>
    refine ⟨hfallback, fun hr => ?_⟩
    unfold InStep
    rw [State.modST_st, hdone]
    simp only [clearOfPlans, Bool.and_eq_true, beq_iff_eq] at hclear
    refine ⟨hclear.1, fun p hp => ?_, hreq⟩
    have := hclear.2
    rw [show s.ps.pending = some p from hp] at this
    simpa using this
  | _ => exact hs.of_same rfl rfl rfl

/-- The end of a test brings the record in step. -/
theorem stopTest_fits (v : Option TestOutcome) (offerStop await : Bool) {s : State} (h : s.ps.fallback.test = 0) :
    TestFits (stopTest v offerStop await s) := by
  rw [stopTest_eq_tryDone]
  refine Basics.keep Basic.testFits (testStopped_fits v await h) (Steps.trans ?_ (tryDone_basics _))
  split
  · exact send_basics _ _ _
  · exact .refl

/-- A plan with the TEST positions that a test in STARTING waits for starts or ends it (R151, R158, R159). -/
theorem testPlanChange_fits {old : Plan} {u : State} (h : u.ps.fallback.test = 0) (hstate : u.st.state = .starting)
    (hwaits : (u.st.kind = some .far ∧ u.st.test = some u.ps.active.test) ∨
      (FirstStage u.st ∧ u.ps.active.profile = 0 ∧ u.ps.active.test = 11)) : TestFits (testPlanChange old u) := by
  have hrun : ∀ v : State, v.ps = u.ps → v.st.state = .running → TestFits (tryDone v) := fun v hps hr =>
    Basics.keep Basic.testFits (.of_running (by rw [hps]; exact h) (.inl hr)) (tryDone_basics v)
  unfold testPlanChange
  dsimp only
  rcases hwaits with ⟨hkind, htest⟩ | ⟨hfirst, hprofile, htest⟩
  · rw [if_pos ⟨hkind, by simp [testLive, hstate]⟩]
    split
    · exact Basics.keep Basic.testFits (stopTest_fits _ _ _ h) (tryDone_basics _)
    · rw [if_pos ⟨hstate, htest⟩]
      exact hrun _ rfl rfl
  · obtain ⟨hkind, hwanted, hactive⟩ := hfirst
    rw [if_neg (by simp [hkind]), if_pos ⟨hkind, by simp [stageBegins, hstate, hprofile, htest, hwanted, hactive, usable]⟩]
    exact hrun _ rfl rfl

/-- A change of the active plan, with what the Tenant and the Self-Test Unit do on it. -/
theorem planNotified_fits {f : PS → PS} {s : State} (ha : Activation s (f s.ps)) (hs : TestFits s) (hloop : LoopRuns s) :
    TestFits (testPlanChange s.ps.active (closeEval (s.modPS f))) := by
  have hquiet : TestFits (s.modPS f) → TestFits (testPlanChange s.ps.active (closeEval (s.modPS f))) := fun h =>
    Basics.keep Basic.testFits h (planNotified_basics f s)
  have hstand : (f s.ps).active.test = 0 → (f s.ps).fallback.test = 0 →
      (∀ q, (f s.ps).pending = some q → ∃ p, s.ps.pending = some p ∧ q.plan = p.plan) → TestFits (s.modPS f) :=
    fun h1 h2 h3 => ⟨h2, fun hr => (hs.site hr).of_stands (.inl h1) h3 (.of_same ⟨rfl, rfl, rfl, rfl, rfl, rfl, rfl, rfl, rfl⟩)⟩
  cases ha with
  | fallback _ hactive hpending hfallback =>
    exact hquiet (hstand (by rw [hactive]; exact hs.fallback) (by rw [hfallback]; exact hs.fallback)
      fun q hq => ⟨q, hpending ▸ hq, rfl⟩)
  | idle _ hactive hpending hfallback =>
    exact hquiet (hstand (by rw [hactive]; rfl) (by rw [hfallback]; rfl) fun q hq => ⟨q, hpending ▸ hq, rfl⟩)
  | loop _ hswitch hactive hpending hfallback =>
    obtain ⟨-, hrun, -⟩ := hloop hswitch
    exact hquiet (.of_running (by rw [State.modPS_ps, hfallback]; exact hs.fallback) (.inl hrun))
  | pending p _ hp hactive hpending hfallback =>
    have hzero : (f s.ps).fallback.test = 0 := by rw [hfallback]; rfl
    by_cases htest : p.plan.test = 0
    · exact hquiet (hstand (by rw [hactive]; exact htest) hzero fun q hq => by rw [hpending] at hq; cases hq)
    · by_cases hr : s.lc.role = .site
      · have hstep := hs.site hr
        have hnone : ¬ NoTest s.ps s.st := fun h => htest (h.pending p hp)
        unfold InStep at hstep
        split at hstep
        · exact absurd hstep hnone
        · exact absurd hstep hnone
        · exact absurd hstep.1 hnone
        · next hstate =>
          have hps : (closeEval (s.modPS f)).ps = f s.ps := by simp
          have hst : (closeEval (s.modPS f)).st = s.st := by simp
          refine testPlanChange_fits (by rw [hps]; exact hzero) (by rw [hst]; exact hstate) ?_
          rw [hps, hst, hactive]
          exact hstep.2.imp (fun ⟨h1, _, h3⟩ => ⟨h1, (h3 p hp).resolve_left htest⟩)
            fun ⟨h1, _, _, h4⟩ => ⟨h1, (h4 p hp).resolve_left htest⟩
        · next hstate => exact hquiet (.of_running hzero (.inl hstate))
        · next hstate => exact hquiet (.of_running hzero (.inr hstate))
      · exact hquiet ⟨hzero, fun h => absurd h hr⟩

/-- Settles O58: a plan with TEST positions carries what a test requests, and its activation starts the test or ends it. -/
theorem testPositionsNeedATest : Obligations.TestPositionsNeedATest := by
  have hkept : Kept fun s => TestFits s ∧ LoopRuns s :=
    ⟨fun _ role _ _ => ⟨(lawTest_and_inStep_iff _).1 (by cases role <;> exact ⟨rfl, rfl⟩), .of_unset rfl⟩,
      fun _ _ ⟨h1, h2⟩ => ⟨h1.of_same rfl rfl rfl, h2.of_same rfl rfl⟩, fun hb ⟨h1, h2⟩ => ⟨hb.testFits h1, hb.loopRuns h2⟩,
      fun f s ha ⟨h1, h2⟩ => ⟨planNotified_fits ha h1 h2,
        Basics.keep Basic.loopRuns (h2.of_same rfl rfl : LoopRuns (s.modPS f)) (planNotified_basics f s)⟩⟩
  intro s t h1 h2 h3 h
  obtain ⟨hfits, -⟩ := hkept.step ⟨(lawTest_and_inStep_iff s).1 ⟨h1, h2⟩, (loopReady_iff s).1 h3⟩ h
  exact (lawTest_and_inStep_iff t).2 hfits

/-! ### The straps and the identity -/

/-- The role, the line rate and a stored identity stand. -/
structure StrapsStand (s t : State) : Prop where
  role : t.lc.role = s.lc.role
  rate : t.cp.rate = s.cp.rate
  identity : ∀ me, s.lc.identity = some me → t.lc.identity = some me

theorem StrapsStand.refl (s : State) : StrapsStand s s := ⟨rfl, rfl, fun _ h => h⟩

theorem StrapsStand.trans {s t u : State} (h1 : StrapsStand s t) (h2 : StrapsStand t u) : StrapsStand s u :=
  ⟨h2.role.trans h1.role, h2.rate.trans h1.rate, fun me h => h2.identity me (h1.identity me h)⟩

theorem Basic.straps {s t : State} (hb : Basic s t) : StrapsStand s t := by
  refine ⟨hb.role, ?_, ?_⟩
  · cases hb with
    | cp f s h hrate => exact hrate
    | stop v a s => simp
    | _ => rfl
  · cases hb with
    | lc f s h => exact h.identity
    | stop v a s => simp
    | _ => exact fun _ h => h

theorem Changes.straps {s t : State} (h : Changes s t) : StrapsStand s t := by
  have hbasics : ∀ {u v : State}, Basics u v → StrapsStand u v := fun h => by
    induction h with
    | refl => exact .refl _
    | tail _ hb ih => exact ih.trans hb.straps
  have hchange : ∀ {u v : State}, Change u v → StrapsStand u v := fun {u v} h => by
    cases h with
    | basic hb => exact hb.straps
    | activate f _ _ =>
      have hbare : StrapsStand u (u.modPS f) := ⟨rfl, rfl, fun _ h => h⟩
      exact hbare.trans (hbasics (planNotified_basics f u))
  induction h with
  | refl => exact .refl _
  | tail _ hc ih => exact ih.trans (hchange hc)

/-- Settles O60: no change but a reset's touches the straps, and an identity is stored only where there is none. -/
theorem onlyAResetChangesTheStraps : Obligations.OnlyAResetChangesTheStraps := by
  intro c s t h hpower henter
  rcases exec_changes h with ⟨hreset | hreset, -⟩ | hc
  · obtain ⟨role, rate, e⟩ := hreset
    exact absurd e (hpower role rate)
  · obtain ⟨role, rate, e⟩ := hreset
    exact absurd e (henter role rate)
  · obtain ⟨hrole, hrate, hidentity⟩ := hc.straps
    exact ⟨hrole, hrate, hidentity⟩

end Sys2Proof.Machine

/-! PROOF. The queue of commands, the two resets, the steps of a boundary, frame lock and the assembler's abort. -/

namespace Sys2Proof.Machine

set_option Elab.async false

/-- Settles O1: `step` is a match on the queue. -/
theorem stepRunsTheFrontCommand : Obligations.StepRunsTheFrontCommand := by
  intro c s
  refine ⟨rfl, fun h => ?_⟩
  unfold step
  rw [h]

/-- Settles O2: `resetTo` is the reset state with the queue kept, and its fields are those of the tables. -/
theorem resetsLeaveTheResetState : Obligations.ResetsLeaveTheResetState := by
  refine ⟨fun role rate s => ⟨rfl, fun h => ?_⟩, fun cause role rate => ?_⟩
  · have hdue : (s.cp.resetDue || answeringReset s.cp) = true := by simpa using h
    exact congrArg Host.Outcome.next (if_pos hdue)
  · have htenants : ∀ n : Tenant, ((State.afterReset cause role rate).tn.tenants.get n) = TenantRec.afterReset := fun n => by
      cases n <;> rfl
    refine ⟨rfl, rfl, rfl, rfl, rfl, rfl, rfl, rfl, rfl, rfl, rfl, rfl, rfl, rfl, rfl, rfl, rfl, rfl, rfl, rfl, fun n => ?_,
      rfl, rfl, rfl, rfl, rfl, rfl, rfl, rfl, ?_, rfl, rfl, rfl, rfl, rfl, rfl, rfl, rfl, rfl, rfl, rfl, rfl⟩
    · rw [htenants]; exact ⟨rfl, rfl, rfl, rfl⟩
    · cases role <;> rfl

/-- Settles O3: the reset state is closed but for its cause, role and rate, of which only the role is read. -/
theorem resetMeetsTheLaws : Obligations.ResetMeetsTheLaws :=
  ⟨rfl, fun _ role _ => by cases role <;> rfl⟩

/-- A step whose condition fails at the boundary under way acts as on the boundary that it opens, or not at all (log 4). -/
theorem atBoundary_opens {cond : State → Bool} {act : State → State} {s : State} (h : cond s = false) :
    (s.mp.composed = true → cond (openBoundary s) = true → atBoundary cond act s = atBoundary cond act (openBoundary s)) ∧
      (¬ (s.mp.composed = true ∧ cond (openBoundary s) = true) → atBoundary cond act s = s) := by
  refine ⟨fun hc ho => ?_, fun hn => ?_⟩
  · rw [atBoundary_now ho]
    simp [atBoundary, h, hc, ho]
  · simp [atBoundary, h]
    exact fun hc ho => absurd ⟨hc, ho⟩ hn

/-- Settles O4: every step of a boundary is `atBoundary` of its condition. -/
theorem boundaryStepOpensItsBoundary : Obligations.BoundaryStepOpensItsBoundary := by
  intro c due s hdue hnot
  have hstep : ∃ act, ∀ u, exec c u = .next (atBoundary due act u) := by
    cases c <;> cases hdue <;> exact ⟨_, fun _ => rfl⟩
  obtain ⟨act, hact⟩ := hstep
  obtain ⟨hopen, hstay⟩ := atBoundary_opens (act := act) hnot
  refine ⟨fun hc ho => ?_, fun hn => ?_⟩
  · rw [hact, hact, hopen hc ho]
  · rw [hact, hstay hn]

/-- Settles O9: the branches of `lockStep` are the rows of the table. -/
theorem frameLockFollowsItsTable : Obligations.FrameLockFollowsItsTable := by
  intro sf
  refine ⟨fun h hr => ?_, fun h hr => ?_, fun h => ?_, fun h => ?_, fun h hr => ?_, fun h hr => ?_⟩ <;>
    simp only [lockStep, h]
  · exact if_neg (by omega)
  · exact if_pos hr
  · exact if_neg (by omega)
  · exact if_pos hr

theorem endMessage_ones (start next : Nat) (gathered : List Bool) (a : Assembler) :
    (endMessage start next gathered a).ones = 0 := by
  unfold endMessage
  dsimp only
  split
  · rfl
  · split
    · rfl
    · split <;> rfl

/-- The run of 1 bits is kept whatever the bit brings. -/
theorem assembleBit_ones (i : Nat) (bit : Bool) (a : Assembler) :
    (assembleBit i bit a).ones = if bit then a.ones + 1 else 0 := by
  unfold assembleBit
  split
  · cases bit with
    | true => rfl
    | false => by_cases h : a.ones = 6 <;> simp [h]
  · cases bit with
    | true =>
      by_cases h : a.ones = 6
      · simp [h]
      · simp only [if_true, if_neg h]
        split <;> rfl
    | false =>
      by_cases h5 : a.ones = 5
      · simp [h5]
      · by_cases h6 : a.ones = 6
        · simp [h6, endMessage_ones]
        · simp only [Bool.false_eq_true, if_false, if_neg h5, if_neg h6]
          split <;> rfl

/-- Settles O13: the branch of a seventh 1 bit, and the branches of HUNT. -/
theorem sevenOnesAbort : Obligations.SevenOnesAbort := by
  intro i a
  refine ⟨fun bit => assembleBit_ones i bit a, fun start gathered hm h6 => ?_, fun hm => ⟨fun bit hbit => ?_, fun h6 => ?_⟩⟩
  · have hseven : assembleBit i true a = { a with mode := .hunt, ones := 7, counts := abortOrOversize gathered :: a.counts } := by
      simp [assembleBit, hm, h6]
    rw [hseven]
    exact ⟨fun h => by rw [abortOrOversize, if_neg (by simpa [longestMessage] using h)],
      fun h => by rw [abortOrOversize, if_pos (by simpa [longestMessage] using h)]⟩
  · cases bit with
    | true => simp [assembleBit, hm]
    | false => simp [assembleBit, hm, show a.ones ≠ 6 from fun h => hbit ⟨rfl, h⟩]
  · simp [assembleBit, hm, h6]

end Sys2Proof.Machine

/-! PROOF. What a request's answer is, and the requests that read the part. -/

namespace Sys2Proof.Machine

set_option Elab.async false

/-- What is left unchanged, part by part. -/
theorem unchangedBut_iff (l : List Part) (s t : State) :
    unchangedBut l s t ↔ (.mp ∉ l → t.mp = s.mp) ∧ (.sf ∉ l → t.sf = s.sf) ∧ (.ps ∉ l → t.ps = s.ps) ∧
      (.mc ∉ l → t.mc = s.mc) ∧ (.lc ∉ l → t.lc = s.lc) ∧ (.tn ∉ l → t.tn = s.tn) ∧ (.ca ∉ l → t.ca = s.ca) ∧
      (.tm ∉ l → t.tm = s.tm) ∧ (.st ∉ l → t.st = s.st) ∧ (.cb ∉ l → t.cb = s.cb) ∧ (.cp ∉ l → t.cp = s.cp) ∧
      (.queue ∉ l → t.pending = s.pending) :=
  forall_part fun p => p ∉ l → p.same s t

/-! ### The answer to a request -/

/-- The state in which an owner's answer is the reply being sent. -/
def answered (kind tag : Byte) (a : Answer) : State :=
  setService (.replying (replyFrame ⟨kind, tag, []⟩ a.code a.content)) a.state

theorem takeRequest_answered {kind : Byte} {body : List Byte} {tag : Byte} {s : State} (h : handsOver kind body tag s)
    (owner : State → Answer) :
    takeRequest kind body owner s = answered kind tag (owner (countControl .requestsServed s)) :=
  takeRequest_handed h owner

@[simp] theorem answered_frame (kind tag : Byte) (a : Answer) :
    (answered kind tag a).mp = a.state.mp ∧ (answered kind tag a).sf = a.state.sf ∧
    (answered kind tag a).ps = a.state.ps ∧ (answered kind tag a).mc = a.state.mc ∧
    (answered kind tag a).lc = a.state.lc ∧ (answered kind tag a).tn = a.state.tn ∧
    (answered kind tag a).ca = a.state.ca ∧ (answered kind tag a).tm = a.state.tm ∧
    (answered kind tag a).st = a.state.st ∧ (answered kind tag a).cb = a.state.cb ∧
    (answered kind tag a).pending = a.state.pending :=
  ⟨rfl, rfl, rfl, rfl, rfl, rfl, rfl, rfl, rfl, rfl, rfl⟩

@[simp] theorem answered_port (kind tag : Byte) (a : Answer) :
    (answered kind tag a).cp.rate = a.state.cp.rate ∧ (answered kind tag a).cp.receiver = a.state.cp.receiver ∧
    (answered kind tag a).cp.buffer = a.state.cp.buffer ∧ (answered kind tag a).cp.reports = a.state.cp.reports ∧
    (answered kind tag a).cp.lost = a.state.cp.lost ∧ (answered kind tag a).cp.attention = a.state.cp.attention ∧
    (answered kind tag a).cp.resetDue = a.state.cp.resetDue :=
  ⟨rfl, rfl, rfl, rfl, rfl, rfl, rfl⟩

/-- Of the Control Port, the reply alone is the answer's doing. -/
theorem answered_cp {kind tag : Byte} {a : Answer} {s : State} (h : a.state.cp = s.cp) :
    (answered kind tag a).cp = { s.cp with service := (answered kind tag a).cp.service } := by
  rw [← h]; rfl

theorem answered_tenantRec (kind tag : Byte) (a : Answer) (n : Tenant) :
    tenantRec (answered kind tag a) n = tenantRec a.state n := rfl

theorem replies_answered {kind tag : Byte} {code : ResultCode} {content : List Byte} {a : Answer} (hcode : a.code = code)
    (hcontent : a.content = content) : replies kind tag code content (answered kind tag a) := by
  subst hcode hcontent; rfl

/-- An answer that leaves the state as the count left it. -/
theorem onlyAnswered_answered {kind tag : Byte} {a : Answer} {s : State}
    (h : a.state = countControl .requestsServed s) : onlyAnswered s (answered kind tag a) := by
  rw [answered, h]; exact onlyAnswered_setService _ s

/-- A plain answer on the counted state carries its code and changes nothing. -/
theorem answered_plain {kind tag : Byte} {code : ResultCode} {a : Answer} {s : State}
    (h : a = .plain code (countControl .requestsServed s)) :
    replies kind tag code [] (answered kind tag a) ∧ onlyAnswered s (answered kind tag a) := by
  subst h; exact ⟨rfl, onlyAnswered_answered rfl⟩

/-! ### The port's own requests -/

theorem drop_min_length {α : Type} (n : Nat) (l : List α) : l.drop (min n l.length) = l.drop n := by
  rcases Nat.le_total n l.length with h | h
  · rw [Nat.min_eq_left h]
  · rw [Nat.min_eq_right h, List.drop_length, List.drop_eq_nil_of_le h]

/-- The reports leave the queue with the lost flag cleared, and are counted. -/
theorem fetchReports_state (s : State) :
    (fetchReports s).state = countTimes (countControl .reportsFetched) (min 8 s.cp.reports.length)
      (s.modCP fun cp => { cp with reports := cp.reports.drop 8, lost := false }) := by
  simp only [fetchReports, State.modCP, drop_min_length]

theorem fetchReports_content (s : State) :
    (fetchReports s).content = enc8 (min 8 s.cp.reports.length) ++ encFlag s.cp.lost ++ enc8 (s.cp.reports.length - 8) ++
      (s.cp.reports.take 8).flatMap reportBytes := by
  have hleft : s.cp.reports.length - min 8 s.cp.reports.length = s.cp.reports.length - 8 := by omega
  have htaken : s.cp.reports.take (min 8 s.cp.reports.length) = s.cp.reports.take 8 := by
    rw [List.take_eq_take_min (i := 8)]
  simp only [fetchReports, fetchContent, hleft, htaken]

/-- Counting over and over changes the live counters alone. -/
theorem countTimes_countControl_onlyCounts (c : ControlCounter) (n : Nat) (s : State) :
    onlyCounts s (countTimes (countControl c) n s) := by
  simp [onlyCounts_iff, countTimes_frame (fun x => x.cb.beforeArea) (countControl c) (fun _ => rfl)]

/-- Settles O40: both owners answer at once. -/
theorem reportsAndAttention : Obligations.ReportsAndAttention := by
  refine ⟨fun tag s h => ?_, fun enable tag s h => ?_⟩
  · have hexec : exec .reportsFetch s = .next (answered 0x03 tag (fetchReports (countControl .requestsServed s))) :=
      congrArg Host.Outcome.next (takeRequest_answered h _)
    refine ⟨_, hexec, ?_, ?_, replies_answered rfl (fetchReports_content _), ?_, ?_, ?_⟩
    · simp [fetchReports_state]
    · simp [fetchReports_state]
    · simp [answered, fetchReports_state, setService]
    · exact countTimes_countControl_onlyCounts .reportsFetched _ _
    · simp [unchangedBut_iff, fetchReports_state]
  · have hexec : exec (.attnEnable enable) s =
        .next (answered 0x04 tag (enableAttention enable (countControl .requestsServed s))) :=
      congrArg Host.Outcome.next (takeRequest_answered h _)
    refine ⟨_, hexec, rfl, replies_answered rfl ?_, ?_, rfl, ?_⟩
    · by_cases he : enable = 0 <;> simp [enableAttention, encFlag, flagCode, he]
    · simp [attentionLine, enableAttention, Bool.and_comm]
    · simp [unchangedBut_iff, enableAttention]

/-! ### Handing over -/

/-- What becomes of a request: an owner acts on it once it is handed over, and without that nothing happens. -/
def onHandOver (act : Request × State → State) (kind : Byte) (body : List Byte) (s : State) : State :=
  ((handedRequest kind body s).map act).getD s

theorem takeRequest_eq (kind : Byte) (body : List Byte) (owner : State → Answer) :
    takeRequest kind body owner =
      onHandOver (fun x => answered x.1.kind x.1.tag (owner (countControl .requestsServed x.2))) kind body := by
  funext s
  unfold takeRequest onHandOver
  cases handedRequest kind body s <;> rfl

theorem requestCapture_eq (clear : Byte) :
    requestCapture clear = onHandOver (fun x => setService .capturing
      ((countControl .requestsServed x.2).modCB fun cb =>
        { cb with pending := some (clear != 0), captureDue := .next })) 0x50 [clear] := by
  funext s
  unfold requestCapture onHandOver
  cases handedRequest 0x50 [clear] s <;> rfl

/-- Every request does nothing but what its owner does once it is handed over. -/
theorem exec_request {c : Instr} {kind : Byte} {body : List Byte} (h : requestOf c = some (kind, body)) :
    ∃ act, ∀ s, exec c s = .next (onHandOver act kind body s) := by
  cases c with
  | countersSnapshot clear =>
    cases h
    exact ⟨_, fun s => congrArg Host.Outcome.next (congrFun (requestCapture_eq clear) s)⟩
  | _ => cases h <;> exact ⟨_, fun s => congrArg Host.Outcome.next (congrFun (takeRequest_eq ..) s)⟩

/-- Settles O37: both clauses are about what is handed over, not about the owner. -/
theorem requestIsHandedOver : Obligations.RequestIsHandedOver := by
  intro c kind body s hreq
  obtain ⟨act, hact⟩ := exec_request hreq
  refine ⟨fun hidle hempty hdue => ?_, fun r rest hbuf hother => ?_⟩
  · rw [hact, hact, onHandOver, onHandOver, handedRequest_idle kind body hidle hempty hdue,
      handedRequest_head (tag := 0) ⟨rfl, rfl⟩]
    rfl
  · rw [hact, onHandOver, handedRequest_other hbuf hother]; rfl

/-! ### The requests that read the part -/

theorem tenant_ofNumber {number : Byte} {n : Tenant} (h : number.toNat = n.number) :
    Tenant.ofNumber number.toNat = some n := by
  rw [h]; cases n <;> rfl

theorem tenant_ofNumber_outside {n : Nat} (h : n = 0 ∨ 4 < n) : Tenant.ofNumber n = none := by
  unfold Tenant.ofNumber
  split
  all_goals simp at h ⊢

theorem forTenant_outside {number : Byte} (h : number.toNat = 0 ∨ 4 < number.toNat) (act : Tenant → State → Answer)
    (s : State) : forTenant number act s = .plain .badArg s := by
  rw [forTenant, tenant_ofNumber_outside h]

theorem forTenant_of {number : Byte} {n : Tenant} (h : number.toNat = n.number) (act : Tenant → State → Answer)
    (s : State) : forTenant number act s = act n s := by
  rw [forTenant, tenant_ofNumber h]

theorem groupOf_outside {n : Nat} (h : n = 0 ∨ 9 < n) (b : Bank) : groupOf n b = none := by
  have htenant : Tenant.ofNumber n = none := tenant_ofNumber_outside (by omega)
  unfold groupOf
  split
  case h_6 => rw [htenant]; rfl
  all_goals simp at h

theorem groupOf_inside {n : Nat} (h1 : 1 ≤ n) (h9 : n ≤ 9) (b : Bank) : ∃ counters, groupOf n b = some counters := by
  match n, h1, h9 with
  | 1, _, _ | 2, _, _ | 3, _, _ | 4, _, _ | 5, _, _ | 6, _, _ | 7, _, _ | 8, _, _ | 9, _, _ => exact ⟨_, rfl⟩

/-- Settles O38: the owners read the state that the count leaves, and the count touches nothing they read. -/
theorem readRequestsChangeNothing : Obligations.ReadRequestsChangeNothing := by
  refine ⟨fun c kind tag content s hc h => ?_, fun number tag s h => ?_, fun selector tag s h => ?_⟩
  · have hexec : exec c s = .next (answered kind tag ⟨countControl .requestsServed s, .ok, content s⟩) := by
      simp only [List.mem_cons, Prod.mk.injEq, List.not_mem_nil, or_false] at hc
      rcases hc with ⟨rfl, rfl, rfl⟩ | ⟨rfl, rfl, rfl⟩ | ⟨rfl, rfl, rfl⟩ | ⟨rfl, rfl, rfl⟩ | ⟨rfl, rfl, rfl⟩ |
        ⟨rfl, rfl, rfl⟩ <;>
      exact congrArg Host.Outcome.next (takeRequest_answered h _)
    exact ⟨_, hexec, replies_answered rfl rfl, onlyAnswered_answered rfl⟩
  · have hexec : exec (.tenantStatus number) s = .next (answered 0x24 tag
        (forTenant number (fun n s => ⟨s, .ok, tenantStatusContent n s⟩) (countControl .requestsServed s))) :=
      congrArg Host.Outcome.next (takeRequest_answered h _)
    refine ⟨_, hexec, onlyAnswered_answered ?_, fun n hn => ?_, fun hout => ?_⟩
    · unfold forTenant; split <;> rfl
    · rw [forTenant_of hn]; rfl
    · rw [forTenant_outside hout]; rfl
  · have hexec : exec (.countersRead selector) s =
        .next (answered 0x51 tag (readGroup selector (countControl .requestsServed s))) :=
      congrArg Host.Outcome.next (takeRequest_answered h _)
    refine ⟨_, hexec, onlyAnswered_answered (readGroup_state ..), fun hout => ?_, fun h1 h9 hvalid => ?_,
      fun counters frame cleared hgroup hvalid hcapture => ?_⟩
    · rw [readGroup, groupOf_outside hout]; rfl
    · obtain ⟨counters, hgroup⟩ := groupOf_inside h1 h9 s.cb.snapshot
      simp [readGroup, hgroup, hvalid, answered, Answer.plain]
    · simp [readGroup, hgroup, hvalid, hcapture, answered, countersReadContent, encFrame, enc16]

/-! ### The end of a request -/

theorem serveNext_empty {s : State} (h : s.cp.buffer = []) : serveNext s = s := by
  unfold serveNext
  split
  · rename_i hb; rw [h] at hb; cases hb
  · rfl

theorem serveNext_busy {s : State} (h : s.cp.service ≠ .idle) : serveNext s = s := by
  unfold serveNext
  split
  · rename_i hs _; exact absurd hs h
  · rfl

theorem serveNext_unknown {s : State} {r : Request} {rest : List Request} (hs : s.cp.service = .idle)
    (hb : s.cp.buffer = r :: rest) (hk : requestLength r.kind = none) :
    serveNext s = setService (.replying (replyFrame r .unknown [])) (countControl .unknownKinds s) := by
  simp only [serveNext, hs, hb, hk]

theorem serveNext_handed {s : State} {r : Request} {rest : List Request} (hs : s.cp.service = .idle)
    (hb : s.cp.buffer = r :: rest) (hk : requestLength r.kind = some r.body.length) :
    serveNext s = setService .handed s := by
  simp only [serveNext, hs, hb, hk, if_true]

theorem serveNext_badLength {s : State} {r : Request} {rest : List Request} {n : Nat} (hs : s.cp.service = .idle)
    (hb : s.cp.buffer = r :: rest) (hk : requestLength r.kind = some n) (hn : n ≠ r.body.length) :
    serveNext s = setService (.replying (replyFrame r .badArg [])) (countControl .wrongLengths s) := by
  simp only [serveNext, hs, hb, hk, if_neg (Ne.symm hn)]

theorem countControl_onlyCounts (c : ControlCounter) (s : State) : onlyCounts s (countControl c s) := rfl

/-- Serving the next request counts at most, and sets the service at most. -/
theorem serveNext_only (s : State) :
    onlyCounts s (serveNext s) ∧ (serveNext s).cp = { s.cp with service := (serveNext s).cp.service } := by
  unfold serveNext
  split
  · split
    · exact ⟨countControl_onlyCounts .unknownKinds s, rfl⟩
    · split
      · exact ⟨rfl, rfl⟩
      · exact ⟨countControl_onlyCounts .wrongLengths s, rfl⟩
  · exact ⟨rfl, rfl⟩

/-- The buffer once the request that was answered has left it. -/
theorem endReply_replying {frame : List Byte} {r : Request} {rest : List Request} {s : State}
    (hserv : s.cp.service = .replying frame) (hbuf : s.cp.buffer = r :: rest) :
    endReply s = if r.kind = 0x02 ∧ r.body = [] then
        s.modCP fun cp => { cp with buffer := rest, service := .idle, resetDue := true }
      else serveNext (s.modCP fun cp => { cp with buffer := rest, service := .idle }) := by
  simp [endReply, answeringReset, hserv, hbuf, partResetKind, State.modCP]

/-- Settles O36: the request leaves, then the reset falls due or the next is served. -/
theorem replyEndsTheRequest : Obligations.ReplyEndsTheRequest := by
  refine ⟨fun frame r rest s hserv hbuf => ?_, fun tag s h => ?_⟩
  · refine ⟨_, congrArg Host.Outcome.next (endReply_replying hserv hbuf), ?_⟩
    by_cases hreset : r.kind = 0x02 ∧ r.body = []
    · rw [if_pos hreset]
      refine ⟨rfl, fun _ _ => rfl, fun hn => absurd hreset hn, rfl, rfl, ?_⟩
      simp [unchangedBut_iff]
    · rw [if_neg hreset]
      have hnext := serveNext_only (s.modCP fun cp => { cp with buffer := rest, service := .idle })
      refine ⟨by simp, fun hk hb => absurd ⟨hk, hb⟩ hreset, fun _ => ⟨by simp, fun hrest => ?_, fun q more hq hk => ?_,
        fun q more hq hk => ?_, fun q more n hq hk hn => ?_⟩, by simp, hnext.1, ?_⟩
      · subst hrest; exact serveNext_empty rfl
      · subst hq; rw [serveNext_handed rfl rfl hk]; rfl
      · subst hq; rw [serveNext_unknown rfl rfl hk]; rfl
      · subst hq; rw [serveNext_badLength rfl rfl hk hn]; rfl
      · simp [unchangedBut_iff]
  · have hexec : exec .partReset s = .next (answered 0x02 tag (Answer.plain .ok (countControl .requestsServed s))) :=
      congrArg Host.Outcome.next (takeRequest_answered h _)
    exact ⟨_, hexec, answered_plain rfl⟩

/-! ### The capture -/

/-- Settles O34: the request is recorded, and the capture copies. -/
theorem snapshotIsCaptured : Obligations.SnapshotIsCaptured := by
  refine ⟨fun clear tag s h => ?_, fun clear r rest s hdue hpend hserv hbuf => ?_⟩
  · have hexec : exec (.countersSnapshot clear) s = .next (setService .capturing
        ((countControl .requestsServed s).modCB fun cb => { cb with pending := some (clear != 0), captureDue := .next })) := by
      refine congrArg Host.Outcome.next ?_
      rw [requestCapture_eq, onHandOver, handedRequest_head h]
      rfl
    refine ⟨_, hexec, rfl, rfl, ?_⟩
    simp [unchangedBut_iff, setService]
  · have hexec : exec .snapshotCapture s = .next (capture s) :=
      congrArg Host.Outcome.next (atBoundary_now (by simp [captureOpen, hdue, hpend]))
    have hcapture : capture s = setService (.replying (replyFrame r .ok (encFrame s.mp.frame ++ encFlag clear)))
        (s.modCB fun cb =>
          { cb with snapshot := cb.live, valid := true, capture := some (s.mp.frame, clear), pending := none,
                    captureDue := .no, live := if clear then Bank.zero else cb.live, beforeArea := none }) := by
      simp [capture, hserv, hbuf, hpend]
    rw [hcapture] at hexec
    refine ⟨_, hexec, rfl, rfl, ?_⟩
    simp [unchangedBut_iff, setService]

end Sys2Proof.Machine

/-! PROOF. The timing steps: lost exchanges, expiry, the reference and the rollover. -/

namespace Sys2Proof.Machine

set_option Elab.async false

/-- An exchange that is lost: dropped and counted, in the run of the lost ones. -/
def exchangeDropped (s : State) : State :=
  countTiming .lost (s.modTM fun tm => { tm with outstanding := none, lostRun := min (tm.lostRun + 1) 255 })

theorem loseExchange_eq (s : State) :
    loseExchange s = if s.tm.state = .locked ∧ min (s.tm.lostRun + 1) 255 = 8 then
      enterHoldover .lostExchanges (exchangeDropped s) else exchangeDropped s := rfl

/-- Settles O30: the two cases of a lost exchange, and the announcement of the expiry. -/
theorem lostExchangesAndExpiry : Obligations.LostExchangesAndExpiry := by
  refine ⟨fun x s hout hframe => ?_, fun n s hstate hexp htimer hlimit => ?_⟩
  · have hexec : exec .exchangeLost s = .next (loseExchange s) :=
      congrArg Host.Outcome.next (atBoundary_now (by simp [exchangeOver, hout, hframe]))
    refine ⟨_, hexec, ?_, fun hother => ?_, fun hlocked hrun => ?_, by simp, by simp, by simp, by simp⟩
    · rw [loseExchange_eq]
      split <;> simp [enterHoldover_tm, exchangeDropped]
    · rw [loseExchange_eq, if_neg fun h => hother ⟨h.1, by omega⟩]; rfl
    · rw [loseExchange_eq, if_pos ⟨hlocked, by omega⟩, enterHoldover_tm]
      exact ⟨rfl, rfl, rfl, rfl⟩
  · have hexec : exec .holdoverExpired s = .next (expireHoldover s) :=
      congrArg Host.Outcome.next (atBoundary_now (by simp [holdoverOver, hstate, hexp, htimer, limitFrames, hlimit]))
    refine ⟨_, hexec, ?_, by simp, by simp, by simp⟩
    simp [expireHoldover, announceTiming_tm, pulsing, hstate]

theorem followsPulse_iff {q : RefPulse} {record : BitVec 32} :
    followsPulse (some q) (some record) = true ↔ q.record = some (record - 1) := by
  obtain ⟨last, age⟩ := q
  cases last with
  | none => simp [followsPulse]
  | some last =>
    simp only [followsPulse, beq_iff_eq, Option.some.injEq]
    exact ⟨fun h => by rw [h, BitVec.add_sub_cancel], fun h => by rw [h, BitVec.sub_add_cancel]⟩

/-- A pulse noted as the last one. -/
def pulseNoted (record : Option (BitVec 32)) (s : State) : State := s.modTM fun tm => { tm with pulse := some ⟨record, 0⟩ }

/-! The four outcomes of the judgement of a pulse. -/

theorem judgePulse_aligned {record : Option (BitVec 32)} {s : State} (hstate : s.tm.state = .reference)
    (hfollows : followsPulse s.tm.pulse record = true) :
    (judgePulse record s).tm = (alignTime record (pulseNoted record s)).tm := by
  simp only [judgePulse, State.modTM_tm, hstate, hfollows, if_true]
  split <;> simp [alignTime, pulseNoted]

theorem judgePulse_fault {record : Option (BitVec 32)} {s : State} (hstate : s.tm.state = .reference)
    (hfails : followsPulse s.tm.pulse record = false) :
    judgePulse record s = setTiming .referenceLost .referenceInvalid (countTiming .referenceFaults (pulseNoted record s)) := by
  simp [judgePulse, hstate, hfails, pulseNoted]

theorem judgePulse_valid {record : Option (BitVec 32)} {s : State} (hstate : s.tm.state ≠ .reference)
    (hfollows : followsPulse s.tm.pulse record = true) (hage : (s.tm.pulse.any fun p => p.age ≤ 2200) = true) :
    judgePulse record s = setTiming .reference .referenceValid (alignTime record (pulseNoted record s)) := by
  simp only [judgePulse, State.modTM_tm]
  exact if_pos ⟨hfollows, hage⟩

theorem judgePulse_noted {record : Option (BitVec 32)} {s : State} (hstate : s.tm.state ≠ .reference)
    (hfails : ¬ (followsPulse s.tm.pulse record = true ∧ (s.tm.pulse.any fun p => p.age ≤ 2200) = true)) :
    judgePulse record s = pulseNoted record s := by
  simp only [judgePulse, State.modTM_tm]
  exact if_neg hfails

/-- However it is judged, the pulse is the last one. -/
theorem judgePulse_pulse (record : Option (BitVec 32)) (s : State) : (judgePulse record s).tm.pulse = some ⟨record, 0⟩ := by
  by_cases hstate : s.tm.state = .reference
  · by_cases hfollows : followsPulse s.tm.pulse record = true
    · rw [judgePulse_aligned hstate hfollows]; rfl
    · rw [judgePulse_fault hstate (Bool.eq_false_iff.mpr hfollows), setTiming_tm]; rfl
  · by_cases hvalid : followsPulse s.tm.pulse record = true ∧ (s.tm.pulse.any fun p => p.age ≤ 2200) = true
    · rw [judgePulse_valid hstate hvalid.1 hvalid.2, setTiming_tm]; rfl
    · rw [judgePulse_noted hstate hvalid]; rfl

/-- Settles O31: the rows of R127, the carry of the counter, and its modulus. -/
theorem timingEventsAreJudged : Obligations.TimingEventsAreJudged := by
  refine ⟨⟨fun elapsed record s hsite => ?_, fun elapsed record q s hhub hpulse => ?_, fun q s hstate hpulse hage => ?_⟩,
    fun elapsed s hroll => ?_, fun offset time _ => timeNumber_moveTime offset time⟩
  · simp [exec, execReferencePulse, hsite]
  · have hexec : exec (.referencePulse elapsed (some record)) s = .next (judgePulse (some record) (advanceCounter elapsed s)) :=
      congrArg Host.Outcome.next (if_pos hhub)
    have hlast : (advanceCounter elapsed s).tm.pulse = some q := hpulse
    have hfollows : followsPulse (advanceCounter elapsed s).tm.pulse (some record) = true ↔ q.record = some (record - 1) := by
      rw [hlast, followsPulse_iff]
    refine ⟨_, hexec, ?_, fun hq hstate => ?_, fun hq hstate hage => ?_, fun hq hstate => ?_, fun hstate hq => ?_,
      by simp, by simp, by simp, by simp, by simp⟩
    · exact judgePulse_pulse _ _
    · rw [judgePulse_aligned (s := advanceCounter elapsed s) hstate (hfollows.mpr hq)]
      exact ⟨hstate, rfl⟩
    · rw [judgePulse_valid (s := advanceCounter elapsed s) hstate (hfollows.mpr hq) (by simp [hlast, hage]), setTiming_tm]
      exact ⟨rfl, rfl⟩
    · rw [judgePulse_fault (s := advanceCounter elapsed s) hstate (Bool.eq_false_iff.mpr fun h => hq (hfollows.mp h)), setTiming_tm]
      exact ⟨rfl, rfl⟩
    · refine judgePulse_noted hstate fun h => ?_
      have hage : q.age ≤ 2200 := by simpa [hlast] using h.2
      rcases hq with hq | hq
      · exact hq (hfollows.mp h.1)
      · omega
  · have hexec : exec .referenceTimeout s = .next (loseReference s) :=
      congrArg Host.Outcome.next (atBoundary_now (by simp [pulseOver, hstate, hpulse, hage]))
    refine ⟨_, hexec, ?_⟩
    simp [loseReference, setTiming_tm]
  · have hexec : exec (.secondsRollover elapsed) s = .next (advanceCounter elapsed s) :=
      congrArg Host.Outcome.next (if_pos (by simp [rollsOver, second, hroll]))
    refine ⟨_, hexec, ?_, ?_⟩
    · simp [advanceCounter, advanceTime, rollsOver, second, hroll, pulsing]
    · simp [unchangedBut_iff]

end Sys2Proof.Machine

/-! PROOF. The demand window, the packets that arrive and the queues that are flushed. -/

namespace Sys2Proof.Machine

set_option Elab.async false

/-! ### The demand window -/

/-- The triggers that follow the close of the window bring a result at most to the Capacity Allocator. -/
theorem closeDemandWindow_ca (s : State) :
    ∃ l w, (closeDemandWindow s).ca = { closeWindow (windowUnsent s) s.ca with last := l, waiting := w } := by
  unfold closeDemandWindow
  dsimp only
  split
  · exact trigger_ca .periodic (s.modCA (closeWindow (windowUnsent s)))
  · exact ⟨_, _, rfl⟩

/-- At HUB there is no trigger. -/
theorem closeDemandWindow_hub {s : State} (h : s.lc.role = .hub) :
    closeDemandWindow s = s.modCA (closeWindow (windowUnsent s)) := by
  simp [closeDemandWindow, trigger, h]

/-- Settles O28: the window closes into demands; the PERIODIC trigger leaves them. -/
theorem demandWindowCloses : Obligations.DemandWindowCloses := by
  intro s hdue unsent
  have hexec : exec .demandWindowClose s = .next (closeDemandWindow s) := congrArg Host.Outcome.next (atBoundary_now hdue)
  obtain ⟨l, w, hca⟩ := closeDemandWindow_ca s
  refine ⟨_, hexec, fun n => ?_, ?_, ?_, ?_, fun hhub => ?_, ?_⟩
  · simp [hca, closeWindow, demandOf, unsent, windowUnsent]
  · rw [hca]; rfl
  · rw [hca]; rfl
  · rw [hca]; rfl
  · rw [closeDemandWindow_hub hhub]; exact ⟨rfl, rfl, rfl⟩
  · simp only [closeDemandWindow]
    split <;> simp

/-! ### The tenants' queues -/

/-- Admission: the packet joins its queue, takes its blocks and is counted, before the flags are set anew. -/
def packetQueued (tenant : Tenant) (packet : List Byte) (s : State) : State :=
  (countTenant tenant .packetsAdmitted
    (modTenant tenant (fun t =>
      { t with queue := t.queue ++ [⟨packet.length, 0, packet⟩],
               ready := t.ready.map fun c => c - min c (blocksFor packet.length) })
      (s.modTN fun tn => { tn with free := tn.free - blocksFor packet.length }))).modCA fun ca =>
        { ca with sums := ca.sums.set tenant (ca.sums.get tenant + packet.length) }

theorem admitPacket_eq (tenant : Tenant) (packet : List Byte) (s : State) :
    admitPacket tenant packet s =
      if packet.length < 64 ∨ 2048 < packet.length then countTenant tenant .lengthErrors s
      else if (tenantRec s tenant).state ≠ .active then countTenant tenant .admissionDrops s
      else if allowance s.ps.active tenant (tenantRec s tenant) < occupancy (tenantRec s tenant) + blocksFor packet.length then
        countTenant tenant .admissionDrops s
      else if unreservedFree s.tn + (tenantRec s tenant).ready.getD 0 < blocksFor packet.length then
        countTenant tenant .admissionDrops s
      else refreshTenants (packetQueued tenant packet s) := rfl

/-- A packet of a length that R95 admits, arriving where it is not taken. -/
theorem admitPacket_dropped {tenant : Tenant} {packet : List Byte} {s : State} (h64 : 64 ≤ packet.length)
    (h2048 : packet.length ≤ 2048)
    (h : (tenantRec s tenant).state ≠ .active ∨
      ¬ (occupancy (tenantRec s tenant) + blocksFor packet.length ≤ allowance s.ps.active tenant (tenantRec s tenant) ∧
        blocksFor packet.length ≤ unreservedFree s.tn + (tenantRec s tenant).ready.getD 0)) :
    admitPacket tenant packet s = countTenant tenant .admissionDrops s := by
  rw [admitPacket_eq, if_neg (by omega)]
  split
  · rfl
  · next hactive =>
    split
    · rfl
    · next hallowed =>
      have hroom := h.resolve_left hactive
      exact if_pos (by omega)

theorem admitPacket_queued {tenant : Tenant} {packet : List Byte} {s : State} (h64 : 64 ≤ packet.length)
    (h2048 : packet.length ≤ 2048) (hactive : (tenantRec s tenant).state = .active)
    (hallowed : occupancy (tenantRec s tenant) + blocksFor packet.length ≤ allowance s.ps.active tenant (tenantRec s tenant))
    (hroom : blocksFor packet.length ≤ unreservedFree s.tn + (tenantRec s tenant).ready.getD 0) :
    admitPacket tenant packet s = refreshTenants (packetQueued tenant packet s) := by
  rw [admitPacket_eq, if_neg (by omega), if_neg (Classical.not_not.mpr hactive), if_neg (by omega), if_neg (by omega)]

theorem packetQueued_rec (tenant n : Tenant) (packet : List Byte) (s : State) :
    tenantRec (packetQueued tenant packet s) n = if n = tenant then
        { tenantRec s n with
          queue := (tenantRec s n).queue ++ [⟨packet.length, 0, packet⟩],
          ready := (tenantRec s n).ready.map fun c => c - min c (blocksFor packet.length) }
      else tenantRec s n :=
  tenantRec_modTenant tenant n (fun t =>
      { t with queue := t.queue ++ [⟨packet.length, 0, packet⟩],
               ready := t.ready.map fun c => c - min c (blocksFor packet.length) })
    (s.modTN fun tn => { tn with free := tn.free - blocksFor packet.length })

/-- A drain-flushed queue, before the close condition is evaluated. -/
def drainFlushed (tenant : Tenant) (s : State) : State :=
  modTenant tenant (fun t => { t with drain := t.drain.map fun d => { d with flushed := true } })
    (countTimes (countTenant tenant .drainFlushes) (tenantRec s tenant).queue.length (emptyQueue tenant s))

theorem drainFlush_settled (tenant : Tenant) (s : State) : Settled (drainFlushed tenant s) (drainFlush tenant s) :=
  (closeEval_settled _).trans (drainCompletion_settled _ _ _)

theorem emptyQueue_rec (tenant n : Tenant) (s : State) :
    tenantRec (emptyQueue tenant s) n = if n = tenant then { tenantRec s n with queue := [] } else tenantRec s n := by
  rw [emptyQueue, tenantRec_modTenant]; rfl

theorem countTimes_tenantRec (t : Tenant) (c : TenantCounter) (k : Nat) (s : State) (n : Tenant) :
    tenantRec (countTimes (countTenant t c) k s) n = tenantRec s n := by
  simp [tenantRec]

theorem drainFlushed_rec (tenant n : Tenant) (s : State) :
    tenantRec (drainFlushed tenant s) n = if n = tenant then
        { tenantRec s n with queue := [], drain := (tenantRec s n).drain.map fun d => { d with flushed := true } }
      else tenantRec s n := by
  rw [drainFlushed, tenantRec_modTenant, countTimes_tenantRec, emptyQueue_rec]
  split <;> rfl

/-- Settles O29: the checks of an admission in order; what a flush leaves is what the close condition finds. -/
theorem tenantQueuesFillAndDrain : Obligations.TenantQueuesFillAndDrain := by
  refine ⟨?_, fun n d s hstate hdrain hflushed hframe => ?_⟩
  · intro n packet s r blocks lengthFits room
    refine ⟨fun hlen => congrArg Host.Outcome.next ?_,
      fun hlen hdrop => congrArg Host.Outcome.next (admitPacket_dropped hlen.1 hlen.2 hdrop), fun hlen hactive hroom => ?_⟩
    · rw [admitPacket_eq, if_pos (by simp only [lengthFits] at hlen; omega)]
    · refine ⟨_, congrArg Host.Outcome.next (admitPacket_queued hlen.1 hlen.2 hactive hroom.1 hroom.2), ?_⟩
      have hsettled := refreshTenants_settled (packetQueued n packet s)
      obtain ⟨hqueue, hconfig, -, -, -⟩ := hsettled.2 n
      refine ⟨?_, hsettled.1, rfl, rfl, fun m hm => ⟨?_, ?_⟩, ?_, ?_, ?_⟩
      · rw [hqueue, packetQueued_rec, if_pos rfl]
      · rw [(hsettled.2 m).1, packetQueued_rec, if_neg hm]
      · rw [tenantRec, (refreshTenants_record _ m).1, ← tenantRec, packetQueued_rec, if_neg hm]
      · rw [tenantRec, (refreshTenants_record _ n).1, ← tenantRec, packetQueued_rec, if_pos rfl]
      · rw [hconfig, packetQueued_rec, if_pos rfl]
      · simp [unchangedBut_iff, packetQueued]
  · have hexec : exec (.drainFlush n) s = .next (drainFlush n s) :=
      congrArg Host.Outcome.next (atBoundary_now (by simp [drainFlushDue, hstate, hdrain, hflushed, hframe]))
    have hsettled := drainFlush_settled n s
    obtain ⟨hqueue, hconfig, -, -, hdrained⟩ := hsettled.2 n
    have hrec := drainFlushed_rec n n s
    rw [if_pos rfl, hdrain] at hrec
    refine ⟨_, hexec, ?_, ?_, ?_, fun hstill => ?_, ?_, fun m hm => ?_, ?_⟩
    · rw [hqueue, hrec]
    · rw [hsettled.1]; simp [drainFlushed, emptyQueue]
    · rw [hconfig, hrec]
    · rcases hdrained with h | h
      · rw [h.2, hrec]; rfl
      · rw [h.2.2] at hstill; cases hstill
    · rcases hdrained with h | h
      · rw [h.1, hrec]; exact .inl hstate
      · exact .inr h.2.2
    · rw [(hsettled.2 m).1, drainFlushed_rec, if_neg hm]
    · simp [drainFlush]

end Sys2Proof.Machine

/-! PROOF. The requests of the link, the tenants and the timing. -/

namespace Sys2Proof.Machine

set_option Elab.async false

@[simp] theorem Answer.plain_frame (code : ResultCode) (s : State) :
    (Answer.plain code s).state = s ∧ (Answer.plain code s).code = code ∧ (Answer.plain code s).content = [] :=
  ⟨rfl, rfl, rfl⟩

theorem Answer.plain_state (code : ResultCode) (s : State) : (Answer.plain code s).state = s := rfl

/-! ### The link -/

theorem storeIdentity_state (siteId peer : SiteId) (s : State) :
    (storeIdentity siteId peer s).state = s ∨
      (storeIdentity siteId peer s).state = s.modLC fun lc => { lc with identity := some ⟨siteId, peer⟩ } := by
  unfold storeIdentity
  split
  · exact .inl rfl
  · exact .inr rfl

theorem beginStop_state (reason : Byte) (s : State) :
    (beginStop reason s).state = s ∨
      (beginStop reason s).state = placeRepeat (.bye (stopReasonOf reason))
        (s.modLC fun lc => { lc with stop := some ⟨3, stopReasonOf reason, false⟩ }) := by
  unfold beginStop
  split
  · exact .inl rfl
  · split
    · exact .inl rfl
    · exact .inr rfl

/-- An entry to SEARCH that a request brings, once it is answered. -/
theorem enteredSearch_answered {kind tag : Byte} {code : ResultCode} {c : ControlCounter} {s u : State}
    (h : enteredSearch (countControl c s) u) : enteredSearch s (answered kind tag (.plain code u)) := h

/-- Starting the link leaves the Control Port but for the reports, and the queue of commands. -/
theorem startLink_port (s : State) : (startLink s).state.cp.rate = s.cp.rate ∧
    (startLink s).state.cp.receiver = s.cp.receiver ∧ (startLink s).state.cp.buffer = s.cp.buffer ∧
    (startLink s).state.cp.attention = s.cp.attention ∧ (startLink s).state.cp.resetDue = s.cp.resetDue ∧
    (startLink s).state.pending = s.pending := by
  unfold startLink
  split <;> simp

/-- Settles O41: each owner's branches, on the state that the count of the request leaves. -/
theorem linkRequestsStoreStartAndStop : Obligations.LinkRequestsStoreStartAndStop := by
  refine ⟨fun siteId peer tag s h => ?_, fun hostMax hysteresis lead flags tag s h => ?_, fun reason tag s h => ?_,
    fun tag s h => ?_⟩
  · have hexec : exec (.setSiteId siteId peer) s =
        .next (answered 0x10 tag (storeIdentity siteId peer (countControl .requestsServed s))) :=
      congrArg Host.Outcome.next (takeRequest_answered h _)
    have hstate := storeIdentity_state siteId peer (countControl .requestsServed s)
    refine ⟨_, hexec, fun hnone => ?_, fun hsome => ?_, ?_, answered_cp ?_, ?_⟩
    · rw [storeIdentity, if_neg (by simp [hnone])]; exact ⟨rfl, rfl⟩
    · rw [storeIdentity, if_pos (by simpa using Option.isSome_iff_ne_none.mpr hsome)]; exact ⟨rfl, rfl⟩
    · rcases hstate with hs | hs <;> simp [hs]
    · rcases hstate with hs | hs <;> simp [hs]
    · rcases hstate with hs | hs <;> simp [unchangedBut_iff, hs]
  · have hexec : exec (.linkConfig hostMax hysteresis lead flags) s =
        .next (answered 0x11 tag (configureLink hostMax hysteresis lead flags (countControl .requestsServed s))) :=
      congrArg Host.Outcome.next (takeRequest_answered h _)
    exact ⟨_, hexec, rfl, rfl, rfl, rfl, answered_cp rfl, by simp [unchangedBut_iff, configureLink]⟩
  · have hexec : exec (.linkStop reason) s = .next (answered 0x13 tag (beginStop reason (countControl .requestsServed s))) :=
      congrArg Host.Outcome.next (takeRequest_answered h _)
    have hstate := beginStop_state reason (countControl .requestsServed s)
    refine ⟨_, hexec, fun hoff => ?_, fun hon hstop => ?_, fun hon hstop => ?_, ?_, answered_cp ?_, ?_⟩
    · rw [beginStop, if_pos (by simpa using hoff)]; exact ⟨rfl, rfl, rfl⟩
    · rw [beginStop, if_neg (by simpa using hon), if_pos (by simpa using Option.isSome_iff_ne_none.mpr hstop)]
      exact ⟨rfl, rfl, rfl⟩
    · rw [beginStop, if_neg (by simpa using hon), if_neg (by simp [hstop])]
      exact ⟨rfl, by simp [Answer.plain, placeRepeat, stopReasonOf], by simp [Answer.plain, placeRepeat, stopReasonOf]⟩
    · rcases hstate with hs | hs <;> simp [hs]
    · rcases hstate with hs | hs <;> simp [hs]
    · rcases hstate with hs | hs <;> simp [unchangedBut_iff, hs]
  · have hexec : exec .linkStart s = .next (answered 0x12 tag (startLink (countControl .requestsServed s))) :=
      congrArg Host.Outcome.next (takeRequest_answered h _)
    refine ⟨_, hexec, fun hrefused => ?_, fun hoff hid htest => ?_, ?_, ?_⟩
    · exact answered_plain (if_pos (by simpa using hrefused))
    · have hstart : startLink (countControl .requestsServed s) =
          .plain .ok (enterSearch .start 0 .request (countControl .requestsServed s)) :=
        if_neg (by simp [hoff, hid, htest])
      obtain ⟨hentered, hmp, htm⟩ := enterSearch_entered .start 0 .request (countControl .requestsServed s)
      rw [hstart]
      refine ⟨rfl, enteredSearch_answered hentered, ?_, ?_, ?_, ?_⟩
      · simpa only [answered_frame, Answer.plain, countControl_frame] using htm (by simp [hoff, inPair])
      · simp
      · simp
      · simpa only [answered_frame, Answer.plain, countControl_frame] using hmp rfl
    · have hport := startLink_port (countControl .requestsServed s)
      simp [answered, setService, hport]
    · have hport := startLink_port (countControl .requestsServed s)
      simp [hport]

/-! ### The tenants -/

/-- An opened tenant, before the flags are set anew and the trigger is taken. -/
def tenantOpened (n : Tenant) (s : State) : State :=
  reportTenant n .closed .opened false (modTenant n (fun t => { t with state := .active }) s)

/-- A tenant whose drain begins, before the close condition is evaluated. -/
def drainBegun (n : Tenant) (s : State) : State :=
  reportTenant n .active .close false
    (modTenant n (fun t => { t with state := .draining, drain := some ⟨s.mp.frame, false⟩ }) s)

theorem openTenant_refused {n : Tenant} {s : State} (h : (tenantRec s n).state ≠ .closed) :
    openTenant n s = .plain .state s := if_pos h

theorem openTenant_noRoom {n : Tenant} {s : State} (h : (tenantRec s n).state = .closed)
    (hroom : 11 < committedOthers s.tn n + (tenantRec s n).config.committed) : openTenant n s = .plain .noRoom s :=
  (if_neg (Classical.not_not.mpr h)).trans (if_pos hroom)

theorem openTenant_opened {n : Tenant} {s : State} (h : (tenantRec s n).state = .closed)
    (hroom : committedOthers s.tn n + (tenantRec s n).config.committed ≤ 11) :
    openTenant n s = .plain .ok (trigger .tenant (refreshTenants (tenantOpened n s))) :=
  (if_neg (Classical.not_not.mpr h)).trans (if_neg (Nat.not_lt.mpr hroom))

theorem drainTenant_refused {n : Tenant} {s : State} (h : (tenantRec s n).state ≠ .active) :
    drainTenant n s = .plain .state s := if_pos h

theorem drainTenant_begun {n : Tenant} {s : State} (h : (tenantRec s n).state = .active) :
    drainTenant n s = .plain .ok (trigger .tenant (closeEval (drainBegun n s))) := if_neg (Classical.not_not.mpr h)

theorem reportTenant_tenantRec (n m : Tenant) (old : TenantState) (cause : TenantCause) (b : Bool) (s : State) :
    tenantRec (reportTenant n old cause b s) m = tenantRec s m := by
  simp [tenantRec]

theorem tenantOpened_rec (n : Tenant) (s : State) :
    tenantRec (tenantOpened n s) n = { tenantRec s n with state := .active } := by
  rw [tenantOpened, reportTenant_tenantRec, tenantRec_modTenant, if_pos rfl]

theorem drainBegun_rec (n : Tenant) (s : State) :
    tenantRec (drainBegun n s) n = { tenantRec s n with state := .draining, drain := some ⟨s.mp.frame, false⟩ } := by
  rw [drainBegun, reportTenant_tenantRec, tenantRec_modTenant, if_pos rfl]

/-- A flushed queue with the tenant's counters zeroed, before the close condition is evaluated. -/
def tenantFlushed (n : Tenant) (s : State) : State := zeroTenantCounters n (emptyQueue n s)

theorem flushTenant_eq (n : Tenant) (s : State) :
    flushTenant n s = .plain .ok (drainCompletion n (tenantRec s n) (closeEval (tenantFlushed n s))) := rfl

theorem tenantFlushed_rec (n m : Tenant) (s : State) :
    tenantRec (tenantFlushed n s) m = if m = n then { tenantRec s m with queue := [] } else tenantRec s m :=
  emptyQueue_rec n m s

/-- A request that names a tenant is answered by that tenant's owner. -/
theorem takeRequest_tenant {kind number tag : Byte} {n : Tenant} {s : State} {rest : List Byte}
    (h : handsOver kind (number :: rest) tag s) (hn : number.toNat = n.number) (act : Tenant → State → Answer) :
    takeRequest kind (number :: rest) (forTenant number act) s =
      answered kind tag (act n (countControl .requestsServed s)) := by
  rw [takeRequest_answered h, forTenant_of hn]

theorem takeRequest_outside {kind number tag : Byte} {s : State} {rest : List Byte}
    (h : handsOver kind (number :: rest) tag s) (hout : number.toNat = 0 ∨ 4 < number.toNat)
    (act : Tenant → State → Answer) :
    takeRequest kind (number :: rest) (forTenant number act) s =
      answered kind tag (.plain .badArg (countControl .requestsServed s)) := by
  rw [takeRequest_answered h, forTenant_outside hout]

/-- What an opening leaves of the tenant, the triggers it brings included. -/
theorem tenantOpened_settles (n : Tenant) (s : State) :
    let t := trigger .tenant (refreshTenants (tenantOpened n s))
    (tenantRec t n).state = .active ∧ (tenantRec t n).queue = (tenantRec s n).queue ∧
      (tenantRec t n).config = (tenantRec s n).config ∧ t.tn.free = s.tn.free ∧ t.ps.active = s.ps.active := by
  intro t
  have hsettled : Settled (tenantOpened n s) t := (refreshTenants_settled _).trans (trigger_settled _ _)
  have hrec := tenantOpened_rec n s
  obtain ⟨hqueue, hconfig, -, -, -⟩ := hsettled.2 n
  refine ⟨(hsettled.state_of (by rw [hrec]; nofun)).trans (by rw [hrec]), hqueue.trans (by rw [hrec]),
    hconfig.trans (by rw [hrec]), ?_, ?_⟩ <;>
  simp [t, tenantOpened]

/-- What the begin of a drain leaves of the tenant, the close condition and the triggers included. -/
theorem drainBegun_settles (n : Tenant) (s : State) :
    let t := trigger .tenant (closeEval (drainBegun n s))
    (((tenantRec t n).state = .draining ∧ (tenantRec t n).drain = some ⟨s.mp.frame, false⟩) ∨
        (tenantRec t n).state = .closed) ∧
      (tenantRec t n).queue = (tenantRec s n).queue ∧ t.tn.free = s.tn.free ∧ t.ps.active = s.ps.active := by
  intro t
  have hsettled : Settled (drainBegun n s) t := (closeEval_settled _).trans (trigger_settled _ _)
  have hrec := drainBegun_rec n s
  obtain ⟨hqueue, -, -, -, hdrained⟩ := hsettled.2 n
  refine ⟨?_, hqueue.trans (by rw [hrec]), ?_, ?_⟩
  · rcases hdrained with hd | hd
    · exact .inl ⟨hd.1.trans (by rw [hrec]), hd.2.trans (by rw [hrec])⟩
    · exact .inr hd.2.2
  · simp [t, drainBegun]
  · simp [t, drainBegun]

/-- What a flush leaves of the tenants, the close condition and the triggers included. -/
theorem tenantFlushed_settles (n : Tenant) (s : State) :
    let t := drainCompletion n (tenantRec s n) (closeEval (tenantFlushed n s))
    (tenantRec t n).queue = [] ∧ t.tn.free = s.tn.free + occupancy (tenantRec s n) ∧
      (tenantRec t n).config = (tenantRec s n).config ∧ t.cb.live.tenants.get n = List.replicate 9 0 ∧
      (∀ m, m ≠ n → (tenantRec t m).queue = (tenantRec s m).queue) ∧ t.ps.active = s.ps.active := by
  intro t
  have hsettled : Settled (tenantFlushed n s) t := (closeEval_settled _).trans (drainCompletion_settled _ _ _)
  have hrec := tenantFlushed_rec n n s
  rw [if_pos rfl] at hrec
  obtain ⟨hqueue, hconfig, -, -, -⟩ := hsettled.2 n
  refine ⟨hqueue.trans (by rw [hrec]), hsettled.1, hconfig.trans (by rw [hrec]), ?_, fun m hm => ?_, ?_⟩
  · simp [t, tenantFlushed, zeroTenantCounters]
  · exact (hsettled.2 m).1.trans (by rw [tenantFlushed_rec, if_neg hm])
  · simp [t, tenantFlushed, zeroTenantCounters, emptyQueue]

/-- Settles O43: the branches of the three owners; what follows the first change leaves queues and configuration. -/
theorem tenantOpensDrainsAndFlushes : Obligations.TenantOpensDrainsAndFlushes := by
  refine ⟨fun n number tag s hn => ⟨fun h => ?_, fun h => ?_, fun h => ?_⟩, fun number tag s hout c kind hc h => ?_⟩
  · refine ⟨_, congrArg Host.Outcome.next (takeRequest_tenant h hn openTenant), fun hstate => ?_, fun hstate hroom => ?_,
      fun hstate hroom => ?_⟩
    · exact answered_plain (openTenant_refused hstate)
    · exact answered_plain (openTenant_noRoom hstate hroom)
    · rw [openTenant_opened (s := countControl .requestsServed s) hstate hroom]
      simp only [answered_tenantRec, answered_frame, Answer.plain_state]
      exact ⟨rfl, tenantOpened_settles n (countControl .requestsServed s)⟩
  · refine ⟨_, congrArg Host.Outcome.next (takeRequest_tenant h hn drainTenant), fun hstate => ?_, fun hstate => ?_⟩
    · exact answered_plain (drainTenant_refused hstate)
    · rw [drainTenant_begun (s := countControl .requestsServed s) hstate]
      simp only [answered_tenantRec, answered_frame, Answer.plain_state]
      exact ⟨rfl, drainBegun_settles n (countControl .requestsServed s)⟩
  · refine ⟨_, congrArg Host.Outcome.next (takeRequest_tenant h hn flushTenant), ?_⟩
    rw [flushTenant_eq]
    simp only [answered_tenantRec, answered_frame, Answer.plain_state]
    exact ⟨rfl, tenantFlushed_settles n (countControl .requestsServed s)⟩
  · simp only [List.mem_cons, Prod.mk.injEq, List.not_mem_nil, or_false] at hc
    rcases hc with ⟨rfl, rfl⟩ | ⟨rfl, rfl⟩ | ⟨rfl, rfl⟩ <;>
    exact ⟨_, congrArg Host.Outcome.next (takeRequest_outside h hout _), answered_plain rfl⟩

/-! ### The timing -/

theorem steerClamp_le {c : TimingConfig} {code : Int} (h : c.steerMin ≤ c.steerMax) : steerClamp c code ≤ c.steerMax := by
  unfold steerClamp clampInt; omega

theorem le_steerClamp {c : TimingConfig} {code : Int} : c.steerMin ≤ steerClamp c code := by
  unfold steerClamp clampInt; omega

theorem steerClamp_of_mem {c : TimingConfig} {code : Nat} (h1 : c.steerMin ≤ code) (h2 : code ≤ c.steerMax) :
    steerClamp c code = code := by
  unfold steerClamp clampInt; omega

theorem configureTiming_refused {c : TimingConfig} {s : State}
    (h : c.steerMax < c.steerMin ∨ c.centre < c.steerMin ∨ c.steerMax < c.centre) :
    configureTiming c s = .plain .badArg s := if_pos h

/-- The values stored, and a limit already reached (R140). -/
def timingStored (c : TimingConfig) (s : State) : State :=
  if holdoverOver (withConfig s.lc.role c s.tm) then expireHoldover (s.modTM (withConfig s.lc.role c))
  else s.modTM (withConfig s.lc.role c)

theorem configureTiming_stored {c : TimingConfig} {s : State} (h1 : c.steerMin ≤ c.centre) (h2 : c.centre ≤ c.steerMax) :
    configureTiming c s = ⟨timingStored c s, .ok, timingConfigContent c⟩ := if_neg (by omega)

/-- Storing the values leaves the state, the time and the integrator; the code is brought into range. -/
theorem timingStored_tm (c : TimingConfig) (s : State) :
    (timingStored c s).tm.config = c ∧ (timingStored c s).tm.steer = (withConfig s.lc.role c s.tm).steer ∧
      (timingStored c s).tm.integrator = s.tm.integrator ∧ (timingStored c s).tm.state = s.tm.state ∧
      (timingStored c s).tm.time = s.tm.time ∧ (timingStored c s).ps.active = s.ps.active := by
  unfold timingStored
  split <;> simp [withConfig]

/-- The code that new values leave lies in their range (R125, R142). -/
theorem withConfig_steer {c : TimingConfig} (h1 : c.steerMin ≤ c.centre) (h2 : c.centre ≤ c.steerMax) (role : Role) (tm : TM) :
    c.steerMin ≤ (withConfig role c tm).steer ∧ (withConfig role c tm).steer ≤ c.steerMax ∧
      (role = .hub → (withConfig role c tm).steer = c.centre) ∧
      (role = .site → c.steerMin ≤ tm.steer → tm.steer ≤ c.steerMax → (withConfig role c tm).steer = tm.steer) := by
  cases role with
  | hub => exact ⟨h1, h2, fun _ => rfl, nofun⟩
  | site => exact ⟨le_steerClamp, steerClamp_le (Nat.le_trans h1 h2), nofun, fun _ hmin hmax => steerClamp_of_mem hmin hmax⟩

theorem restartTiming_hub {s : State} (h : s.lc.role = .hub) :
    restartTiming s = .plain .ok (s.modTM fun tm => { tm with steer := tm.config.centre }) := by
  simp [restartTiming, h]

theorem restartTiming_refused {s : State} (h : s.lc.role = .site)
    (hp : 3 < s.ps.active.profile ∨ (s.ps.pending.any fun p => 3 < p.plan.profile) = true) :
    restartTiming s = .plain .state s := by
  simp only [restartTiming, h]
  exact if_pos hp

theorem restartTiming_site {s : State} (h : s.lc.role = .site) (hp : s.ps.active.profile ≤ 3)
    (hq : (s.ps.pending.any fun p => 3 < p.plan.profile) = false) :
    restartTiming s = .plain .ok
      (setTiming (if inPair s.lc.link then .acquire else .freeRun) .restart (s.modTM restartedTiming)) := by
  simp only [restartTiming, h]
  exact if_neg (by simp [hq]; omega)

theorem restartTiming_frame (s : State) : (restartTiming s).state.ps.active = s.ps.active ∧
    (restartTiming s).state.lc.role = s.lc.role ∧ (restartTiming s).state.pending = s.pending := by
  unfold restartTiming
  split
  · simp
  · split <;> simp

/-- Settles O45: the refusals, the values stored and the restart. -/
theorem timingRequestsStoreAndRestart : Obligations.TimingRequestsStoreAndRestart := by
  refine ⟨?_, fun tag s h => ?_⟩
  · intro kp ki lo hi centre window limit period delay tag s h c
    refine ⟨_, congrArg Host.Outcome.next (takeRequest_answered h _), fun hbad => ?_, fun h1 h2 => ?_⟩
    · exact answered_plain (configureTiming_refused hbad)
    · obtain ⟨hconfig, hsteer, hint, hstate, htime, hplan⟩ := timingStored_tm c (countControl .requestsServed s)
      rw [configureTiming_stored (c := c) h1 h2]
      simp only [answered_frame, hconfig, hint, hstate, htime, hplan, hsteer, countControl_frame, true_and, and_true]
      obtain ⟨hmin, hmax, hhub, hsite⟩ := withConfig_steer (c := c) h1 h2 s.lc.role s.tm
      exact ⟨rfl, hmin, hmax, hhub, hsite⟩
  · refine ⟨_, congrArg Host.Outcome.next (takeRequest_answered h _), fun hhub => ?_, fun hsite hp => ?_,
      fun hsite hp hq => ?_, ?_⟩
    · rw [restartTiming_hub (s := countControl .requestsServed s) hhub]; exact ⟨rfl, rfl⟩
    · exact answered_plain (restartTiming_refused hsite hp)
    · rw [restartTiming_site (s := countControl .requestsServed s) hsite hp hq]
      simp only [answered_frame, Answer.plain_state, setTiming_tm]
      refine ⟨rfl, rfl, rfl, rfl, rfl, rfl, rfl, rfl, rfl, rfl, ?_, rfl⟩
      split <;> simp [pulsing]
    · simpa only [answered_frame, countControl_frame] using restartTiming_frame (countControl .requestsServed s)

/-! ### The allocation settings -/

theorem configRefusal_range {n : Tenant} {c : TenantConfig} {s : State} (h : c.ceiling < c.committed ∨ c.fill.toNat < 0x10) :
    configRefusal n c s = some .badArg := by
  unfold configRefusal
  split
  · rfl
  · next hc => exact if_pos (h.resolve_left hc)

theorem configRefusal_noRoom {n : Tenant} {c : TenantConfig} {s : State} (h1 : c.committed ≤ c.ceiling)
    (h2 : 0x10 ≤ c.fill.toNat) (hstate : (tenantRec s n).state ≠ .closed)
    (hroom : 11 < committedOthers s.tn n + c.committed) : configRefusal n c s = some .noRoom := by
  rw [configRefusal, if_neg (by omega), if_neg (by omega), if_pos ⟨hstate, hroom⟩]

theorem configRefusal_clear {n : Tenant} {c : TenantConfig} {s : State} (h1 : c.committed ≤ c.ceiling)
    (h2 : 0x10 ≤ c.fill.toNat) (h : (tenantRec s n).state = .closed ∨ committedOthers s.tn n + c.committed ≤ 11) :
    configRefusal n c s = none := by
  rw [configRefusal, if_neg (by omega), if_neg (by omega), if_neg]
  rintro ⟨hstate, hroom⟩
  rcases h with h | h
  · exact hstate h
  · omega

theorem configureTenant_refused {n : Tenant} {c : TenantConfig} {code : ResultCode} {s : State}
    (h : configRefusal n c s = some code) : configureTenant c n s = .plain code s := by
  simp only [configureTenant, h]

/-- The configuration stored with the flags set anew, before the sync mark is evaluated. -/
def configStored (c : TenantConfig) (n : Tenant) (s : State) : State :=
  refreshTenants (modTenant n (fun t => { t with config := c, ready := none }) s)

/-- The triggers that a configuration brings (R86, R103, R110). -/
def configTriggered (c : TenantConfig) (n : Tenant) (s : State) : State :=
  triggerIf .tenant (configTriggers (tenantRec s n).config c (tenantRec s n).state)
    (triggerIf .tenant (evalSync n (configStored c n s)).2 (evalSync n (configStored c n s)).1)

theorem configureTenant_stored {n : Tenant} {c : TenantConfig} {s : State} (h : configRefusal n c s = none) :
    configureTenant c n s = ⟨configTriggered c n s, .ok, configFields c⟩ := by
  simp only [configureTenant, h]
  rfl

/-- The sync mark follows its rule, and nothing else of the record changes. -/
theorem evalSync_rec (n : Tenant) (s : State) : tenantRec (evalSync n s).1 n =
    { tenantRec s n with syncOk := syncRule s.lc.role s.tm (tenantRec s n).config.syncDependent } := by
  rw [evalSync_eq]
  split
  · next h => rw [h]
  · rw [reportTenant_tenantRec, tenantRec_modTenant, if_pos rfl]

/-- What a stored configuration leaves of its tenant, the triggers included. -/
theorem configTriggered_settles (c : TenantConfig) (n : Tenant) (s : State) :
    let t := configTriggered c n s
    (tenantRec t n).config = c ∧ ((tenantRec s n).state ≠ .draining → (tenantRec t n).state = (tenantRec s n).state) ∧
      (tenantRec t n).queue = (tenantRec s n).queue ∧
      (s.lc.role = .site → (tenantRec t n).syncOk = (!c.syncDependent || pulsing s.tm)) := by
  intro t
  have hsettled : Settled (evalSync n (configStored c n s)).1 t :=
    (triggerIf_settled _ _ _).trans (triggerIf_settled _ _ _)
  have hrec := evalSync_rec n (configStored c n s)
  obtain ⟨hqueue, hconfig, hsync, -, -⟩ := hsettled.2 n
  have hstored : (tenantRec (configStored c n s) n).config = c ∧
      (tenantRec (configStored c n s) n).state = (tenantRec s n).state ∧
      (tenantRec (configStored c n s) n).queue = (tenantRec s n).queue := by
    simp [configStored, tenantRec, modTenant]
  obtain ⟨hc, hs, hq⟩ := hstored
  refine ⟨hconfig.trans (by rw [hrec, hc]), fun hn => ?_, hqueue.trans (by rw [hrec, hq]), fun hsite => ?_⟩
  · exact (hsettled.state_of (by rw [hrec, hs]; exact hn)).trans (by rw [hrec, hs])
  · have hrole : (configStored c n s).lc.role = .site := hsite
    rw [hsync, hrec, hc, hrole]
    rfl

/-- Whatever becomes of a TENANT_CONFIG, it leaves the plans, the time and the free blocks. -/
theorem configureTenant_frame (c : TenantConfig) (n : Tenant) (s : State) :
    let t := (configureTenant c n s).state
    t.tn.free = s.tn.free ∧ t.ps.active = s.ps.active ∧ t.tm = s.tm ∧ t.mp.frame = s.mp.frame ∧
      t.lc.role = s.lc.role ∧ t.pending = s.pending := by
  intro t
  cases h : configRefusal n c s with
  | some code => simp [t, configureTenant_refused h]
  | none => simp [t, configureTenant_stored h, configTriggered, configStored]

/-- The mode stored, before the trigger. -/
def modeStored (mode : Byte) (counts : PerTenant Nat) (s : State) : State :=
  s.modCA fun ca => { ca with fixed := mode == 1, fixedCounts := counts.map fun f => min f 63 }

theorem storeMode_eq (mode : Byte) (counts : PerTenant Nat) (s : State) :
    storeMode mode counts s =
      ⟨trigger .mode (modeStored mode counts s), .ok, allocModeContent (modeStored mode counts s).ca⟩ := rfl

theorem trigger_hub {cause : AllocCause} {s : State} (h : s.lc.role = .hub) : trigger cause s = s := by
  simp [trigger, h]

/-- Settles O42: the refusals in order, the values stored, and the mode. -/
theorem allocationSettingsAreStored : Obligations.AllocationSettingsAreStored := by
  refine ⟨?_, ?_, ?_⟩
  · intro number committed weight ceil queueLimit burst fill sync tag s hout h
    exact ⟨_, congrArg Host.Outcome.next (takeRequest_outside h hout _), answered_plain rfl⟩
  · intro n number committed weight ceil queueLimit burst fill sync tag s hn h c
    refine ⟨_, congrArg Host.Outcome.next (takeRequest_tenant h hn (configureTenant c)), fun hbad => ?_,
      fun h1 h2 hstate hroom => ?_, fun h1 h2 hfits => ?_, ?_⟩
    · rw [configureTenant_refused (configRefusal_range (c := c) hbad)]; exact ⟨rfl, rfl⟩
    · rw [configureTenant_refused (configRefusal_noRoom (c := c) (s := countControl .requestsServed s) h1 h2 hstate hroom)]
      exact ⟨rfl, rfl⟩
    · rw [configureTenant_stored (configRefusal_clear (c := c) (s := countControl .requestsServed s) h1 h2 hfits)]
      simp only [answered_tenantRec]
      exact ⟨rfl, configTriggered_settles c n (countControl .requestsServed s)⟩
    · simpa only [answered_frame, countControl_frame] using configureTenant_frame c n (countControl .requestsServed s)
  · intro mode f1 f2 f3 f4 tag s h counts
    refine ⟨_, congrArg Host.Outcome.next (takeRequest_answered h _), ?_⟩
    rw [storeMode_eq]
    simp only [answered_frame]
    obtain ⟨l, w, hca⟩ := trigger_ca .mode (modeStored mode ⟨f1.toNat, f2.toNat, f3.toNat, f4.toNat⟩ (countControl .requestsServed s))
    refine ⟨?_, ?_, replies_answered rfl rfl, fun hhub => ?_, ?_⟩
    · rw [hca]; rfl
    · rw [hca]; rfl
    · rw [trigger_hub (s := modeStored mode _ (countControl .requestsServed s)) hhub]
      refine ⟨rfl, rfl, answered_cp rfl, ?_⟩
      simp [unchangedBut_iff, modeStored]
    · simp [modeStored]

end Sys2Proof.Machine

/-! PROOF. A message dispatched, the messages that are offered, and the time messages. -/

namespace Sys2Proof.Machine

set_option Elab.async false

/-! ### A message dispatched -/

theorem skipMisplaced_cons (m : RxMessage) (ms : List RxMessage) (s : State) :
    skipMisplaced (m :: ms) s = if misplaced m then
        skipMisplaced ms (countChannel .misplacedTime (countChannel .messagesReceived s))
      else s.modMC fun mc => { mc with inbox := m :: ms } := rfl

theorem skipMisplaced_inbox (ms : List RxMessage) (s : State) :
    (skipMisplaced ms s).mc.inbox = ms.dropWhile misplaced := by
  induction ms generalizing s with
  | nil => rfl
  | cons m ms ih =>
    rw [skipMisplaced_cons]
    by_cases hm : misplaced m = true
    · rw [if_pos hm, ih, List.dropWhile_cons_of_pos hm]
    · rw [if_neg hm, List.dropWhile_cons_of_neg hm]; rfl

/-- The state in which the message that comes next is acted on. -/
def upFront (s : State) : State := takenUp (s.mc.inbox.drop 1) s

@[simp] theorem upFront_frame (s : State) :
    (upFront s).mp = s.mp ∧ (upFront s).sf = s.sf ∧ (upFront s).ps = s.ps ∧
      (upFront s).mc = { s.mc with inbox := s.mc.inbox.drop 1 } ∧ (upFront s).lc = s.lc ∧ (upFront s).tn = s.tn ∧
      (upFront s).ca = s.ca ∧ (upFront s).tm = s.tm ∧ (upFront s).st = s.st ∧
      (upFront s).cb = (countChannel .messagesReceived s).cb ∧ (upFront s).cp = s.cp ∧ (upFront s).pending = s.pending :=
  ⟨rfl, rfl, rfl, rfl, rfl, rfl, rfl, rfl, rfl, rfl, rfl, rfl⟩

theorem upFront_empty {s : State} (h : s.mc.inbox = []) : upFront s = countChannel .messagesReceived s := by
  rw [upFront, h]; exact takenUp_nil h

theorem dispatchMessage_empty {s : State} (m : LinkMessage) (act : State → State) (h : s.mc.inbox = []) :
    dispatchMessage m act s = act (upFront s) := by
  rw [upFront_empty h]
  simp only [dispatchMessage, h]

/-- The message that comes next is acted on, and what then waits is skipped while it is misplaced. -/
theorem dispatchMessage_upFront {m : LinkMessage} {s : State} (act : State → State) (h : comesNext m s) :
    (s.mc.inbox = [] ∧ dispatchMessage m act s = act (upFront s)) ∨
      dispatchMessage m act s = skipMisplaced (act (upFront s)).mc.inbox (act (upFront s)) := by
  cases hi : s.mc.inbox with
  | nil => exact .inl ⟨rfl, dispatchMessage_empty m act hi⟩
  | cons r rest =>
    have hr : r.message = m := by
      rcases h with h | h
      · rw [hi] at h; cases h
      · simpa [hi] using h
    refine .inr ?_
    rw [upFront, hi]
    simp only [dispatchMessage, hi, hr, if_true]
    rfl

/-- A message whose owner leaves those that wait: the misplaced ones at their head are dropped. -/
theorem dispatchMessage_waiting {m : LinkMessage} {s : State} {act : State → State} (h : comesNext m s)
    (hin : (act (upFront s)).mc.inbox = s.mc.inbox.drop 1) :
    ∃ counted, dispatchMessage m act s = settleInbox (nextWaiting s.mc.inbox) counted (act (upFront s)) := by
  rcases dispatchMessage_upFront act h with ⟨hi, e⟩ | e
  · refine ⟨(act (upFront s)).cb.live.channel, e.trans ?_⟩
    rw [hi] at hin
    show act (upFront s) = settleInbox (nextWaiting s.mc.inbox) _ _
    rw [hi, show nextWaiting [] = (act (upFront s)).mc.inbox from hin.symm]
    rfl
  · refine ⟨(skipMisplaced (act (upFront s)).mc.inbox (act (upFront s))).cb.live.channel, e.trans ?_⟩
    rw [nextWaiting, ← hin, ← skipMisplaced_inbox _ (act (upFront s))]
    exact skipMisplaced_only _ _

/-- A message whose owner drops those that wait. -/
theorem dispatchMessage_dropped {m : LinkMessage} {s : State} {act : State → State} (h : comesNext m s)
    (hin : (act (upFront s)).mc.inbox = []) : dispatchMessage m act s = act (upFront s) := by
  rcases dispatchMessage_upFront act h with ⟨-, e⟩ | e
  · exact e
  · rw [e, hin]
    generalize act (upFront s) = x at hin
    rw [skipMisplaced, ← hin]
    rfl

/-- A message that is only counted. -/
theorem dispatchMessage_counted {m : LinkMessage} {c : LinkCounter} {s : State} {act : State → State} (h : comesNext m s)
    (hact : act (upFront s) = countLink c (upFront s)) :
    onlyCounted c s (dispatchMessage m act s) := by
  obtain ⟨counted, e⟩ := dispatchMessage_waiting (act := act) h (by rw [hact]; rfl)
  refine ⟨by rw [e, hact]; rfl, by rw [e, hact]; rfl, by rw [e, hact]; rfl, ?_, fun hi => ?_⟩
  · rw [e, hact]; simp [unchangedBut_iff]
  · rw [dispatchMessage_empty m act hi, hact, upFront_empty hi]

/-! ### Messages offered -/

/-- Handing a message over touches the queue, what is kept, and the counts of the message channel alone. -/
theorem send_onlyCounts (p : Producer) (m : LinkMessage) (s : State) :
    onlyCounts s (send p m s) ∧ unchangedBut [.mc, .lc, .st, .cb] s (send p m s) := by
  obtain ⟨queue, kl, ks, channel, e, -, -⟩ := send_state p m s
  rw [e]
  exact ⟨rfl, by simp [unchangedBut_iff]⟩

/-- Kept messages that are none of them fresh or a STATUS and find room join the queue. -/
theorem retryMessages_room {ks : List KeptMessage} {s : State} (hks : ∀ k ∈ ks, k.fresh = false ∧ isStatus k.message = false)
    (hroom : s.mc.queue.length + ks.length ≤ 8) :
    retryMessages ks s = (s.modMC fun mc => { mc with queue := mc.queue ++ ks.map (·.message) }, []) := by
  induction ks generalizing s with
  | nil => simp [retryMessages, State.modMC]
  | cons k ks ih =>
    obtain ⟨hfresh, hstatus⟩ := hks k (List.mem_cons_self ..)
    rw [List.length_cons] at hroom
    have hoffer : offerQueue k.message s = (s.modMC fun mc => { mc with queue := mc.queue ++ [k.message] }, true) := by
      rw [offerQueue, if_neg (by simp [hstatus]), if_pos (by omega)]
    rw [retryMessages_cons, if_neg (by simp [hfresh]), hoffer, if_pos rfl,
      ih (fun k hk => hks k (List.mem_cons_of_mem _ hk)) (by simp; omega)]
    simp [State.modMC]

/-- A producer's retry of this boundary is taken. -/
def retryTaken (p : Producer) (s : State) : State :=
  match p with
  | .linkController => s.modLC fun lc => { lc with retryDue := false }
  | .selfTest => s.modST fun st => { st with retryDue := false }

theorem retryKept_room {p : Producer} {s : State}
    (hks : ∀ k ∈ keptOf p s, k.fresh = false ∧ isStatus k.message = false)
    (hroom : s.mc.queue.length + (keptOf p s).length ≤ 8) :
    retryKept p s = setKept p []
      ((retryTaken p s).modMC fun mc => { mc with queue := mc.queue ++ (keptOf p s).map (·.message) }) := by
  have hqueue : (retryTaken p s).mc.queue = s.mc.queue := by cases p <;> rfl
  have hretry := retryMessages_room (s := retryTaken p s) hks (by rwa [hqueue])
  have heq : retryKept p s = setKept p (retryMessages (keptOf p s) (retryTaken p s)).2
      (retryMessages (keptOf p s) (retryTaken p s)).1 := by
    cases p <;> rfl
  rw [heq, hretry]

/-- The STATUS of a boundary (R71). -/
def statusMessage (s : State) : LinkMessage :=
  .status (BitVec.ofNat 16 (fastMinimum s.lc.history)) (BitVec.ofNat 16 (slowMean s.lc.history))
    (s.ca.demands.map (BitVec.ofNat 8)) (holdCode (s.tn.tenants.map (·.hold)))

/-- The boundary's STATUS is no longer to be built. -/
def statusTaken (s : State) : State := s.modLC fun lc => { lc with statusDue := false }

theorem buildStatus_eq (s : State) : buildStatus s = send .linkController (statusMessage s) (statusTaken s) := rfl

theorem openLC_retry (f : FrameNo) (lc : LC) : (openLC f lc).retryDue = true ∧ (openLC f lc).kept = unfreshen lc.kept :=
  ⟨rfl, rfl⟩

/-- Settles O27: the room a message finds decides, and only a boundary that opens makes a refused one old. -/
theorem statusAndKeptMessagesAreOffered : Obligations.StatusAndKeptMessagesAreOffered := by
  refine ⟨fun s hdue hpair hstop htaken => ?_, fun fast slow d1 d2 d3 d4 hold s hnext hpair hstop => ?_, ?_,
    fun p k ks s hkept hfresh hcomposed => ?_⟩
  · have hexec : exec .statusBuild s = .next (buildStatus s) :=
      congrArg Host.Outcome.next (atBoundary_now (by simp [statusOpen, hdue, hpair, hstop, htaken]))
    obtain ⟨hmc, hlc, -, hst, -⟩ := send_only .linkController (statusMessage s) (statusTaken s)
    obtain ⟨hcounts, -⟩ := send_onlyCounts .linkController (statusMessage s) (statusTaken s)
    refine ⟨_, hexec, fun hkept hroom hnone => ?_, hmc, hlc, hcounts, ?_⟩
    · rw [buildStatus_eq, send_room .linkController _ (statusTaken s) hkept hroom (by simp [statusTaken, hnone])]
      exact ⟨rfl, hkept⟩
    · have hst' : (send .linkController (statusMessage s) (s.modLC fun lc => { lc with statusDue := false })).st = s.st :=
        hst rfl
      rw [buildStatus_eq]
      simp [unchangedBut_iff, statusTaken, hst']
  · obtain ⟨counted, hdispatch⟩ := dispatchMessage_waiting (s := s)
      (act := takeStatus fast.toNat slow.toNat ⟨d1.toNat, d2.toNat, d3.toNat, d4.toNat⟩ (holdOf hold)) hnext
      (by simp [takeStatus, hpair, hstop])
    refine ⟨_, congrArg Host.Outcome.next hdispatch, ?_⟩
    simp only [takeStatus, upFront_frame]
    rw [if_pos ⟨hpair, hstop⟩]
    refine ⟨rfl, rfl, rfl, rfl, rfl, ?_⟩
    simp [unchangedBut_iff]
  · intro p s ks hne hlc hst hks hroom
    have hopen : retryOpen p s = true := by
      obtain ⟨k, rest, hkept⟩ := List.exists_cons_of_ne_nil hne
      have hfresh : k.fresh = false := (hks k (hkept ▸ List.mem_cons_self ..)).1
      have hkept' : keptOf p s = k :: rest := hkept
      cases p <;> simp [retryOpen, hkept', hfresh, hlc, hst]
    have hexec : exec (.queueRetryOffer p) s = .next (retryKept p s) := congrArg Host.Outcome.next (atBoundary_now hopen)
    refine ⟨_, hexec, ?_⟩
    rw [retryKept_room hks hroom]
    cases p <;> exact ⟨rfl, rfl, rfl, rfl, rfl, by simp [unchangedBut_iff, setKept, retryTaken]⟩
  · have hclosed : retryOpen p s = false := by simp [retryOpen, hkept, hfresh]
    have hopened : retryOpen p (openBoundary s) = true := by
      cases p with
      | linkController =>
        have hkept' : s.lc.kept = k :: ks := hkept
        simp [retryOpen, keptOf, openLC_retry, unfreshen, hkept']
      | selfTest =>
        have hkept' : s.st.kept = k :: ks := hkept
        simp [retryOpen, keptOf, unfreshen, hkept']
    exact congrArg Host.Outcome.next ((atBoundary_opens hclosed).1 hcomposed hopened)

/-! ### TEST_CTL -/

theorem takeTestControl_start {action kind mode test : Byte} {s : State} (h : action = actionStart)
    (hbusy : testBusy s.st = false) :
    takeTestControl action kind mode test s = send .selfTest (testAckMessage actionStart true 0 0 0)
      ((countTest .ctlReceived s).modST fun st =>
        { st with responder := some ⟨responderKindOf kind, testModeOf mode, test.toNat, 0, 0, 0⟩ }) := by
  simp [takeTestControl, h, hbusy]

theorem takeTestControl_refused {action kind mode test : Byte} {s : State} (h : action = actionStart)
    (hbusy : testBusy s.st = true) :
    takeTestControl action kind mode test s =
      countTest .responderRefusals (send .selfTest (testAckMessage actionStart false 0 0 0) (countTest .ctlReceived s)) := by
  simp [takeTestControl, h, hbusy]

/-- The answer to a STOP (R152, R153). -/
def stopAnswer (responder : Option Responder) : LinkMessage :=
  match responder with
  | some r =>
    if r.mode = .check then testAckMessage actionStop true r.frames r.bits r.errored
    else testAckMessage actionStop true 0 0 0
  | none => testAckMessage actionStop false 0 0 0

theorem takeTestControl_stop {action kind mode test : Byte} {s : State} (h : action ≠ actionStart) :
    takeTestControl action kind mode test s = send .selfTest (stopAnswer s.st.responder)
      ((countTest .ctlReceived s).modST fun st => { st with responder := none }) := by
  rw [takeTestControl, if_neg h]
  cases hr : s.st.responder with
  | none =>
    have hsame : (countTest .ctlReceived s).modST (fun st => { st with responder := none }) = countTest .ctlReceived s := by
      rw [← hr]; rfl
    rw [hsame]
    simp [hr, stopAnswer]
  | some r => simp [hr, stopAnswer]

/-- All that a TEST_CTL can do. -/
theorem takeTestControl_state (action kind mode test : Byte) (s : State) :
    ∃ queue responder kept channel counted, takeTestControl action kind mode test s =
      { s with
        mc := { s.mc with queue := queue }, st := { s.st with responder := responder, kept := kept },
        cb := { s.cb with live := { s.cb.live with channel := channel, test := counted } } } := by
  by_cases h : action = actionStart
  · by_cases hbusy : testBusy s.st = true
    · obtain ⟨queue, kl, ks, channel, e, -, hkl⟩ :=
        send_state .selfTest (testAckMessage actionStart false 0 0 0) (countTest .ctlReceived s)
      rw [takeTestControl_refused h hbusy, e, hkl rfl]
      exact ⟨_, _, _, _, _, rfl⟩
    · obtain ⟨queue, kl, ks, channel, e, -, hkl⟩ := send_state .selfTest (testAckMessage actionStart true 0 0 0)
        ((countTest .ctlReceived s).modST fun st =>
          { st with responder := some ⟨responderKindOf kind, testModeOf mode, test.toNat, 0, 0, 0⟩ })
      rw [takeTestControl_start h (Bool.eq_false_iff.mpr hbusy), e, hkl rfl]
      exact ⟨_, _, _, _, _, rfl⟩
  · obtain ⟨queue, kl, ks, channel, e, -, hkl⟩ := send_state .selfTest (stopAnswer s.st.responder)
      ((countTest .ctlReceived s).modST fun st => { st with responder := none })
    rw [takeTestControl_stop h, e, hkl rfl]
    exact ⟨_, _, _, _, _, rfl⟩

/-- An answer of the Self-Test Unit that has room joins the queue. -/
theorem send_testAck {m : LinkMessage} {s : State} (hm : isStatus m = false) (hkept : s.st.kept = [])
    (hroom : s.mc.queue.length < 8) :
    (send .selfTest m s).mc.queue = s.mc.queue ++ [m] ∧ (send .selfTest m s).st.kept = [] := by
  rw [send_room .selfTest m s hkept hroom (by simp [hm])]
  exact ⟨rfl, hkept⟩

theorem send_selfTest_st (m : LinkMessage) (s : State) :
    (send .selfTest m s).st = { s.st with kept := (send .selfTest m s).st.kept } := by
  obtain ⟨-, -, hst, -, -⟩ := send_only .selfTest m s
  exact hst

/-- Settles O21: the three answers. -/
theorem testControlIsAnswered : Obligations.TestControlIsAnswered := by
  intro action kind mode test s hnext
  obtain ⟨counted, hdispatch⟩ := dispatchMessage_waiting (act := takeTestControl action kind mode test) hnext (by simp)
  refine ⟨_, congrArg Host.Outcome.next hdispatch, fun h hbusy => ?_, fun h hbusy => ?_, fun h => ?_, ?_⟩
  · rw [takeTestControl_start (s := upFront s) h hbusy]
    exact ⟨send_selfTest_st _ _, fun hkept hroom => send_testAck rfl hkept hroom⟩
  · rw [takeTestControl_refused (s := upFront s) h hbusy]
    exact ⟨send_selfTest_st _ _, fun hkept hroom =>
      (send_testAck (m := .testAck 1 0 0 0 0) (s := countTest .ctlReceived (upFront s)) rfl hkept hroom).1⟩
  · rw [takeTestControl_stop (s := upFront s) h]
    refine ⟨send_selfTest_st _ _, fun hnone hkept hroom => ?_, fun r hr hmode hkept hroom => ?_⟩
    · rw [show (upFront s).st.responder = none from hnone]
      exact (send_testAck (m := .testAck 0 0 0 0 0)
        (s := (countTest .ctlReceived (upFront s)).modST fun st => { st with responder := none }) rfl hkept hroom).1
    · have hanswer : stopAnswer (upFront s).st.responder = testAckMessage actionStop true r.frames r.bits r.errored := by
        rw [show (upFront s).st.responder = some r from hr]
        exact if_pos hmode
      rw [hanswer]
      exact (send_testAck (m := testAckMessage actionStop true r.frames r.bits r.errored)
        (s := (countTest .ctlReceived (upFront s)).modST fun st => { st with responder := none }) rfl hkept hroom).1
  · obtain ⟨queue, responder, kept, channel, tested, e⟩ := takeTestControl_state action kind mode test (upFront s)
    rw [e]
    exact ⟨rfl, rfl, by simp [unchangedBut_iff]⟩

/-! ### The time messages -/

theorem offerTime_mc (m : LinkMessage) (s : State) : (offerTime m s).mc = { s.mc with timeHolder := some m } := by
  unfold offerTime
  dsimp only
  split <;> rfl

/-- Offering a time message changes the holder and the counts alone. -/
theorem offerTime_only (m : LinkMessage) (s : State) :
    onlyCounts s (offerTime m s) ∧ unchangedBut [.mc, .cb] s (offerTime m s) := by
  refine ⟨?_, by simp [unchangedBut_iff]⟩
  unfold offerTime
  dsimp only
  split <;> rfl

theorem arrivalRecord_upFront (s : State) : arrivalRecord (upFront s) = arrivalRecord s := rfl

/-- What counts alone on the message's own state counts alone when the message is settled. -/
theorem onlyCounts_settled {left : List RxMessage} {counted : List Nat} {s u : State} (h : onlyCounts (upFront s) u) :
    onlyCounts s (settleInbox left counted u) := by
  rw [onlyCounts_iff] at h ⊢
  exact h

theorem takeTimeRequest_hub {s : State} (h : s.lc.role = .hub) (sequence : Byte) :
    takeTimeRequest sequence s = offerTime
      (.timeResp sequence (BitVec.ofNat 64 (timeNumber (arrivalRecord s).time)) 0 (arrivalRecord s).plan 0
        (flagCode (s.tm.state == .reference))) s := by
  simp [takeTimeRequest, h]

/-- The good answer that leaves the window short of eight joins it, and that is all. -/
theorem takeTimeResponse_joins {x : Exchange} {t2 t3 : BitVec 64} {plan traceable : Byte} {s : State}
    (h : goodAnswer x t2 t3 plan traceable s) (hshort : s.tm.window.length < 7) :
    takeTimeResponse x.sequence t2.toNat t3.toNat plan plan (traceable != 0) (upFront s) =
      exchangeJoined (exchangeOffset x.t1 t2.toNat t3.toNat (timeNumber (arrivalRecord s).time))
        (exchangeDelay x.t1 t2.toNat t3.toNat (timeNumber (arrivalRecord s).time)) (upFront s) := by
  obtain ⟨-, hrole, hout, htrace, hnear, hp1, hp4, hpos, hmax⟩ := h
  have hplans : plansDiffer x.p1 plan plan (arrivalRecord s).plan = false := by simp [plansDiffer, hp1, hp4]
  rw [bne_iff_ne.2 htrace, takeTimeResponse_answered (s := upFront s) hrole hout hnear]
  exact (answerExchange_accepted (s := upFront s) hplans hpos hmax).trans
    (if_neg (by simp [exchangeJoined]; omega))

/-- Settles O18: the answer of the HUB, the offer, and the answer that joins the window. -/
theorem timeMessagesMakeTheExchange : Obligations.TimeMessagesMakeTheExchange := by
  refine ⟨fun sequence s hnext hhub => ?_, fun s hdue => ?_, ?_⟩
  · obtain ⟨counted, hdispatch⟩ := dispatchMessage_waiting (act := takeTimeRequest sequence) hnext
      (by rw [takeTimeRequest_hub (s := upFront s) hhub]; simp)
    rw [takeTimeRequest_hub (s := upFront s) hhub] at hdispatch
    refine ⟨_, congrArg Host.Outcome.next hdispatch, ?_, ?_, ?_, ?_⟩
    · simp only [settleInbox_frame, offerTime_mc, upFront_frame, arrivalRecord_upFront, flagCode, beq_iff_eq]
    · simp only [settleInbox_frame, offerTime_mc, upFront_frame]
    · exact onlyCounts_settled (offerTime_only _ (upFront s)).1
    · simp [unchangedBut_iff]
  · have hexec : exec .timeReqOffer s = .next (offerRequest s) := congrArg Host.Outcome.next (atBoundary_now hdue)
    refine ⟨_, hexec, offerTime_mc _ _, ?_, (offerTime_only _ _).1, ?_⟩
    · simp [offerRequest]
    · simp [offerRequest, unchangedBut_iff]
  · intro x t2 t3 plan traceable s t4 delay offset hgood hshort
    have hjoins := takeTimeResponse_joins hgood hshort
    obtain ⟨counted, hdispatch⟩ := dispatchMessage_waiting
      (act := takeTimeResponse x.sequence t2.toNat t3.toNat plan plan (traceable != 0)) hgood.1 (by rw [hjoins]; rfl)
    rw [hjoins] at hdispatch
    refine ⟨_, congrArg Host.Outcome.next hdispatch, rfl, rfl, rfl, rfl, ?_⟩
    simp [unchangedBut_iff, exchangeJoined]

end Sys2Proof.Machine

/-! PROOF. The self-test: how a test ends, and the events that end or start it. -/

namespace Sys2Proof.Machine

set_option Elab.async false

/-! ### The queue grows -/

/-- A message that is no STATUS leaves those before it in the queue. -/
theorem send_prefix {p : Producer} {m : LinkMessage} {s : State} (hm : isStatus m = false) :
    s.mc.queue <+: (send p m s).mc.queue := by
  have hoffer : s.mc.queue <+: (offerQueue m s).1.mc.queue := by
    rw [offerQueue, if_neg (by simp [hm])]
    split
    · exact List.prefix_append ..
    · exact List.prefix_rfl
  rw [send_eq]
  split
  · split
    · exact hoffer
    · simpa using hoffer
  · simp

theorem propose_prefix (c : Candidate) (s : State) : s.mc.queue <+: (propose c s).1.mc.queue := by
  rw [propose_eq]
  split
  · split
    · have h := send_prefix (p := .linkController) (m := shiftMessage (proposalOf c s))
        (s := (offerPlan (proposalOf c s) s).1.modLC fun lc =>
          { lc with proposal := some (Proposal.mk (proposalOf c s).plan.number (proposalOf c s).effective false) }) rfl
      simpa using h
    · simp
  · exact List.prefix_rfl

theorem tryDone_mc (s : State) : (tryDone s).mc = s.mc := by
  obtain ⟨-, -, -, hmc, -, -⟩ := tryDone_st s
  exact hmc

theorem testStopped_mc (v : Option TestOutcome) (a : Bool) (s : State) : (testStopped v a s).mc = s.mc := by
  unfold testStopped
  dsimp only
  split <;> rfl

theorem stopTest_prefix (v : Option TestOutcome) (o a : Bool) (s : State) : s.mc.queue <+: (stopTest v o a s).mc.queue := by
  rw [stopTest_eq_tryDone, tryDone_mc]
  split
  · have h := send_prefix (p := .selfTest) (m := testControl actionStop s.st) (s := testStopped v a s) rfl
    rwa [testStopped_mc] at h
  · exact testStopped_mc v a s ▸ List.prefix_rfl

theorem roomAbort_prefix (s : State) : s.mc.queue <+: (roomAbort s).mc.queue := by
  unfold roomAbort
  dsimp only
  split
  · exact stopTest_prefix (some .abortedRoom) true false (countLink .roomAborts s)
  · exact List.prefix_rfl

theorem allocateOnce_prefix (cause : AllocCause) (target : Nat) (s : State) :
    s.mc.queue <+: (allocateOnce cause target s).mc.queue := by
  rw [allocateOnce_eq]
  have hroom : s.mc.queue <+:
      (if roomFails (allocInput s) (min target (ceiling s)) s.st.reqTest then roomAbort s else s).mc.queue := by
    split
    · exact roomAbort_prefix s
    · exact List.prefix_rfl
  generalize (if roomFails (allocInput s) (min target (ceiling s)) s.st.reqTest then roomAbort s else s) = x at hroom ⊢
  generalize candidateFor s cause (min target (ceiling s)) s.st.reqTest = c
  have hpropose := propose_prefix c
    (countLink .allocationsProposed (x.modCA fun ca => { ca with last := some c, waiting := false }))
  split
  · split
    · exact hroom.trans hpropose
    · exact hroom.trans hpropose
  · exact hroom

theorem allocate_prefix (cause : AllocCause) (target : Nat) (s : State) :
    s.mc.queue <+: (allocate cause target s).mc.queue := by
  have honce := allocateOnce_prefix cause target s
  unfold allocate
  dsimp only
  split
  · split
    · exact honce.trans (allocateOnce_prefix ..)
    · exact honce
  · exact honce

theorem trigger_prefix (cause : AllocCause) (s : State) : s.mc.queue <+: (trigger cause s).mc.queue := by
  unfold trigger
  split
  · exact List.prefix_rfl
  · split
    · exact allocate_prefix ..
    · exact List.prefix_rfl

theorem withTestTrigger_prefix (f : State → State) (s : State) : (f s).mc.queue <+: (withTestTrigger f s).mc.queue := by
  unfold withTestTrigger
  dsimp only
  split
  · exact trigger_prefix ..
  · exact List.prefix_rfl

/-- A message at the end of a queue that only grows stands where it was put. -/
theorem getElem?_of_prefix {q r : List LinkMessage} {m : LinkMessage} (h : q ++ [m] <+: r) : r[q.length]? = some m := by
  obtain ⟨more, rfl⟩ := h
  simp

/-! ### The end of a test -/

/-- The end of a test asks for no positions, and keeps the counts. -/
theorem withTestTrigger_stopTest (v : Option TestOutcome) (o a : Bool) (s : State) :
    (withTestTrigger (stopTest v o a) s).st = (stopTest v o a s).st ∧
      (withTestTrigger (stopTest v o a) s).mp = (stopTest v o a s).mp := by
  obtain ⟨-, -, hend⟩ := stopTest_ends v o a s
  refine withTestTrigger_quiet _ s ?_
  rcases hend with ⟨hstate, -⟩ | ⟨hstate, -⟩ <;> rw [noRoomAbort, hstate] <;> exact ⟨nofun, nofun⟩

/-- The TEST_CTL STOP that the end of a test sends, when it finds room, and stands in the queue whatever is triggered. -/
theorem withTestTrigger_stopTest_queue {v : Option TestOutcome} {a : Bool} {s : State} (hloop : s.st.kind ≠ some .loop)
    (hkept : s.st.kept = []) (hroom : s.mc.queue.length < 8) :
    (withTestTrigger (stopTest v true a) s).mc.queue[s.mc.queue.length]? = some (testControl actionStop s.st) := by
  refine getElem?_of_prefix (List.IsPrefix.trans ?_ (withTestTrigger_prefix _ s))
  have hkept' : keptOf .selfTest (testStopped v a s) = [] := by
    unfold testStopped
    dsimp only
    split <;> exact hkept
  have hqueue : (stopTest v true a s).mc.queue = s.mc.queue ++ [testControl actionStop s.st] := by
    rw [stopTest_eq_tryDone, tryDone_mc, if_pos (by simp [hloop]),
      send_room .selfTest _ _ hkept' (by rw [testStopped_mc]; exact hroom) rfl, State.modMC_mc, testStopped_mc]
  exact hqueue ▸ List.prefix_rfl

/-- What the aborted test shows, the trigger that follows included. -/
theorem withTestTrigger_abort (o : TestOutcome) (b : Bool) (s : State) :
    let t := withTestTrigger (abortTest o b) s
    t.st.reqTest = 0 ∧ t.st.frames = s.st.frames ∧ t.st.bits = s.st.bits ∧ t.st.errored = s.st.errored ∧
      ((t.st.state = .done ∧ t.st.outcome = some o) ∨ (t.st.state = .stopping ∧ t.st.verdict = some o)) ∧
      (clearOfPlans s.ps = true → t.st.state = .done) := by
  intro t
  obtain ⟨hst, -⟩ := withTestTrigger_stopTest (some o) b false s
  obtain ⟨hreq, -, hend⟩ := stopTest_ends (some o) b false s
  have ht : t.st = (stopTest (some o) b false s).st := hst
  rw [ht]
  refine ⟨hreq, by simp, by simp, by simp, ?_, fun hclear => ?_⟩
  · rcases hend with ⟨hstate, hverdict, -, -⟩ | ⟨hstate, houtcome, -, -⟩
    · exact .inr ⟨hstate, hverdict⟩
    · exact .inl ⟨hstate, houtcome⟩
  · rcases hend with ⟨-, -, -, hawait⟩ | ⟨hstate, -, -, -⟩
    · exact absurd (hawait hclear) (by simp)
    · exact hstate

/-! ### The stop answer -/

/-- The answer's counts are stored and judged (R155, R156), before it is asked whether the test is done. -/
def answerTaken (accepted : Bool) (frames bits errored : Nat) (s : State) : State :=
  s.modST fun st =>
    let st := if accepted then { st with bits := bits, errored := min errored bits, farFrames := some frames } else st
    { st with awaiting := false, deadline := none,
              verdict := some (st.verdict.getD (if accepted then judgeErrors st else .abortedLink)) }

theorem takeStopAnswer_eq (accepted : Bool) (frames bits errored : Nat) (s : State) :
    takeStopAnswer accepted frames bits errored s = tryDone (answerTaken accepted frames bits errored s) := rfl

theorem tryDone_still {s : State} (h : ¬ (s.st.state = .stopping ∧ clearOfPlans s.ps = true ∧ s.st.awaiting = false)) :
    tryDone s = s := if_neg (by simpa using h)

theorem tryDone_done {s : State} (hstate : s.st.state = .stopping) (hclear : clearOfPlans s.ps = true)
    (hawait : s.st.awaiting = false) :
    (tryDone s).st = { s.st with
      state := .done, outcome := some (s.st.verdict.getD .abortedLink), verdict := none, deadline := none, reqTest := 0,
      reqProfile := none } := by
  unfold tryDone
  dsimp only
  rw [if_pos ⟨hstate, hclear, by simp [hawait]⟩]
  simp

/-- What the answer leaves of the test in either case. -/
theorem takeStopAnswer_st (accepted : Bool) (frames bits errored : Nat) (s : State) :
    let x := (answerTaken accepted frames bits errored s).st
    let t := (takeStopAnswer accepted frames bits errored s).st
    (s.st.state = .stopping ∧ clearOfPlans s.ps = true →
      t = { x with state := .done, outcome := some (x.verdict.getD .abortedLink), verdict := none, deadline := none,
                   reqTest := 0, reqProfile := none }) ∧
    (¬ (s.st.state = .stopping ∧ clearOfPlans s.ps = true) → t = x) := by
  intro x t
  have hx : x.state = s.st.state ∧ x.awaiting = false := by cases accepted <;> exact ⟨rfl, rfl⟩
  refine ⟨fun ⟨hstate, hclear⟩ => tryDone_done (hx.1.trans hstate) hclear hx.2, fun hnot => ?_⟩
  have hstill : tryDone (answerTaken accepted frames bits errored s) = answerTaken accepted frames bits errored s :=
    tryDone_still fun h => hnot ⟨hx.1.symm.trans h.1, h.2.1⟩
  exact congrArg State.st hstill

/-- What the answer leaves whether or not the test is done with it. -/
theorem takeStopAnswer_counts (accepted : Bool) (frames bits errored : Nat) (s : State) :
    let x := (answerTaken accepted frames bits errored s).st
    let t := (takeStopAnswer accepted frames bits errored s).st
    t.awaiting = false ∧ t.deadline = none ∧ t.bits = x.bits ∧ t.errored = x.errored ∧ t.farFrames = x.farFrames ∧
      t.frames = s.st.frames := by
  intro x t
  obtain ⟨hdone, hstill⟩ := takeStopAnswer_st accepted frames bits errored s
  have hx : x.awaiting = false ∧ x.deadline = none ∧ x.frames = s.st.frames := by cases accepted <;> exact ⟨rfl, rfl, rfl⟩
  by_cases h : s.st.state = .stopping ∧ clearOfPlans s.ps = true
  · rw [show t = _ from hdone h]; exact ⟨hx.1, rfl, rfl, rfl, rfl, hx.2.2⟩
  · rw [show t = x from hstill h]; exact ⟨hx.1, hx.2.1, rfl, rfl, rfl, hx.2.2⟩

/-- The trigger that follows a stop answer changes neither the test nor the Modem Port. -/
theorem withTestTrigger_answer (accepted : Bool) (frames bits errored : Nat) (s : State) :
    (withTestTrigger (takeStopAnswer accepted frames bits errored) s).st = (takeStopAnswer accepted frames bits errored s).st ∧
      (withTestTrigger (takeStopAnswer accepted frames bits errored) s).mp = s.mp := by
  obtain ⟨hdone, hstill⟩ := takeStopAnswer_st accepted frames bits errored s
  have hmp : (takeStopAnswer accepted frames bits errored s).mp = s.mp := by simp
  by_cases h : s.st.state = .stopping ∧ clearOfPlans s.ps = true
  · obtain ⟨hst, hmp'⟩ := withTestTrigger_quiet (takeStopAnswer accepted frames bits errored) s
      (by rw [hdone h]; exact ⟨nofun, nofun⟩)
    exact ⟨hst, hmp'.trans hmp⟩
  · have hsame : requestChanged s.st (takeStopAnswer accepted frames bits errored s).st = false := by
      rw [hstill h]
      cases accepted <;> simp [requestChanged, answerTaken]
    have heq : withTestTrigger (takeStopAnswer accepted frames bits errored) s = takeStopAnswer accepted frames bits errored s :=
      if_neg (by simp [hsame])
    rw [heq]
    exact ⟨rfl, hmp⟩

/-- Settles O32: each deadline runs its end of the test, and the trigger that follows leaves it. -/
theorem testDeadlinesEndTheTest : Obligations.TestDeadlinesEndTheTest := by
  intro s hdeadline
  have hnow : atDeadline s = true := by simp [atDeadline, hdeadline]
  refine ⟨fun c hc => ?_, fun hawait => ?_⟩
  · obtain ⟨u, hexec, hu⟩ : ∃ u, exec c s = .next (withTestTrigger (abortTest .abortedLink true) u) ∧
        (u = s ∨ u = countTest .startExpiries s) := by
      rcases hc with ⟨rfl, hstate⟩ | ⟨rfl, hstate⟩
      · exact ⟨s, congrArg Host.Outcome.next (atBoundary_now (by simp [armingOver, hstate, hnow])), .inl rfl⟩
      · refine ⟨_, congrArg Host.Outcome.next (atBoundary_now ?_), .inr rfl⟩
        rcases hstate with hstate | ⟨hstate, hkind⟩
        · simp [startOver, hstate, hnow]
        · simp [startOver, hstate, hkind, hnow]
    obtain ⟨hst, hps, htm, hsf, hmp, hlc, hpend⟩ : u.st = s.st ∧ u.ps = s.ps ∧ u.tm = s.tm ∧ u.sf = s.sf ∧ u.mp = s.mp ∧
        u.lc = s.lc ∧ u.pending = s.pending := by
      rcases hu with rfl | rfl <;> simp
    have habort := withTestTrigger_abort .abortedLink true u
    rw [hst, hps] at habort
    obtain ⟨hreq, hframes, hbits, herrored, hend, hclear⟩ := habort
    refine ⟨_, hexec, hreq, hframes, hbits, herrored, hend, hclear, ?_⟩
    simp [hps, htm, hsf, hmp, hlc, hpend]
  · have hexec : exec .stopAnswerDeadline s = .next (withTestTrigger (takeStopAnswer false 0 0 0) s) :=
      congrArg Host.Outcome.next (atBoundary_now (by simp [answerOver, hawait, hnow]))
    obtain ⟨hdone, -⟩ := takeStopAnswer_st false 0 0 0 s
    obtain ⟨hst, hmp⟩ := withTestTrigger_answer false 0 0 0 s
    obtain ⟨hawaits, hnone, hbits, herrored, -, -⟩ := takeStopAnswer_counts false 0 0 0 s
    rw [← hst] at hawaits hnone hbits herrored
    refine ⟨_, hexec, hawaits, hnone, hbits, herrored, fun hstate hclear => ?_, by simp, by simp, by simp, hmp, by simp,
      by simp⟩
    rw [hst, hdone ⟨hstate, hclear⟩]
    exact ⟨rfl, rfl⟩

/-! ### Triggers that find room -/

/-- A trigger that waits, or whose room check passes, leaves the test and the Modem Port. -/
theorem trigger_room {cause : AllocCause} {s : State}
    (h : lcFree s = false ∨ roomFails (allocInput s) (min (standingTarget s) (ceiling s)) s.st.reqTest = false) :
    (trigger cause s).st = s.st ∧ (trigger cause s).mp = s.mp := by
  unfold trigger
  split
  · exact ⟨rfl, rfl⟩
  · split
    · next hfree =>
      have hroom := h.resolve_left (by simp [hfree])
      rw [allocate_room hroom]
      exact allocateOnce_room hroom
    · exact ⟨rfl, rfl⟩

theorem withTestTrigger_room {f : State → State} {s : State}
    (h : lcFree (f s) = false ∨
      roomFails (allocInput (f s)) (min (standingTarget (f s)) (ceiling (f s))) (f s).st.reqTest = false) :
    (withTestTrigger f s).st = (f s).st ∧ (withTestTrigger f s).mp = (f s).mp := by
  unfold withTestTrigger
  dsimp only
  split
  · exact trigger_room h
  · exact ⟨rfl, rfl⟩

/-! ### TEST_ACK -/

theorem takeTestAck_accepted {s : State} (hstate : s.st.state = .arming) {accepted : Byte} (h : accepted ≠ 0)
    (frames bits errored : Nat) :
    takeTestAck 1 accepted frames bits errored s = withTestTrigger startTest s := by
  rw [takeTestAck, if_pos ⟨hstate, rfl⟩, if_pos h]

theorem takeTestAck_refused {s : State} (hstate : s.st.state = .arming) {accepted : Byte} (h : accepted = 0)
    (frames bits errored : Nat) :
    takeTestAck 1 accepted frames bits errored s = withTestTrigger (abortTest .abortedLink true) s := by
  rw [takeTestAck, if_pos ⟨hstate, rfl⟩, if_neg (Classical.not_not.mpr h)]

theorem takeTestAck_stop {s : State} (hawait : s.st.awaiting = true) (accepted : Byte) (frames bits errored : Nat) :
    takeTestAck 0 accepted frames bits errored s =
      withTestTrigger (takeStopAnswer (accepted != 0) frames bits errored) s := by
  rw [takeTestAck, if_neg (by simp [actionStart]), if_pos ⟨hawait, rfl⟩]

theorem takeTestAck_other {action : Byte} {s : State} (hstart : ¬ (action = actionStart ∧ s.st.state = .arming))
    (hstop : ¬ (action = actionStop ∧ s.st.awaiting = true)) (accepted : Byte) (frames bits errored : Nat) :
    takeTestAck action accepted frames bits errored s = countTest .unexpected s := by
  rw [takeTestAck, if_neg fun h => hstart ⟨h.2, h.1⟩, if_neg fun h => hstop ⟨h.2, h.1⟩]

theorem takeTestAck_inbox (action accepted : Byte) (frames bits errored : Nat) (s : State) :
    (takeTestAck action accepted frames bits errored s).mc.inbox = s.mc.inbox := by simp

/-- The outcome that an answer brings where none is fixed. -/
theorem answerTaken_verdict (accepted : Bool) (frames bits errored : Nat) (s : State) :
    (answerTaken accepted frames bits errored s).st.verdict = some (s.st.verdict.getD
      (if accepted then (if min errored bits ≤ s.st.allowed.getD 0 then .passed else .failed) else .abortedLink)) := by
  cases accepted <;> rfl

theorem answerTaken_state (accepted : Bool) (frames bits errored : Nat) (s : State) :
    (answerTaken accepted frames bits errored s).st.state = s.st.state := by
  cases accepted <;> rfl

theorem tryDone_awaiting (s : State) : (tryDone s).st.awaiting = s.st.awaiting := by
  unfold tryDone
  dsimp only
  split <;> simp

theorem stopTest_awaiting (v : Option TestOutcome) (o a : Bool) (s : State) : (stopTest v o a s).st.awaiting = a := by
  obtain ⟨x, hx, -, -, -, ⟨kept, hst⟩, -⟩ := stopTest_eq v o a s
  rw [hx, tryDone_awaiting, hst]

/-- Settles O22: the four answers; what is triggered behind them leaves the test. -/
theorem testAckIsTaken : Obligations.TestAckIsTaken := by
  intro accepted frames bits errored s
  refine ⟨?_, ?_, ?_, ?_⟩
  · intro hnext hstate haccepted sweep test profile hroom
    obtain ⟨counted, hdispatch⟩ := dispatchMessage_waiting
      (act := takeTestAck 1 accepted frames.toNat bits.toNat errored.toNat) hnext (takeTestAck_inbox ..)
    rw [takeTestAck_accepted (s := upFront s) hstate haccepted] at hdispatch
    have htest : (startTest (upFront s)).st.reqTest = test := rfl
    have htarget : standingTarget (startTest (upFront s)) = profile := by
      simp only [standingTarget, startTest, State.modST_st, upFront_frame, profile, sweep]
      split <;> rfl
    obtain ⟨hst, hmp⟩ := withTestTrigger_room (f := startTest) (s := upFront s) (by rw [htest, htarget]; exact hroom)
    refine ⟨_, congrArg Host.Outcome.next hdispatch, ?_⟩
    simp only [settleInbox_frame, hst, hmp]
    exact ⟨rfl, rfl, rfl, rfl, rfl, rfl, rfl, by simp [startTest], by simp [startTest], by simp [startTest],
      by simp [startTest], (onlyReports_iff s _).mpr (by simp [startTest]), by simp [startTest]⟩
  · intro hnext hstate haccepted
    obtain ⟨counted, hdispatch⟩ := dispatchMessage_waiting
      (act := takeTestAck 1 accepted frames.toNat bits.toNat errored.toNat) hnext (takeTestAck_inbox ..)
    rw [takeTestAck_refused (s := upFront s) hstate haccepted] at hdispatch
    obtain ⟨hreq, hframes, hbits, herrored, hend, hclear⟩ := withTestTrigger_abort .abortedLink true (upFront s)
    obtain ⟨hst, -⟩ := withTestTrigger_stopTest (some .abortedLink) true false (upFront s)
    refine ⟨_, congrArg Host.Outcome.next hdispatch, hreq, ?_, hframes, hbits, herrored, hend, hclear,
      fun hloop hkept hroom => ?_, ?_⟩
    · exact (congrArg ST.awaiting hst).trans (stopTest_awaiting (some .abortedLink) true false (upFront s))
    · exact withTestTrigger_stopTest_queue (s := upFront s) hloop hkept hroom
    · simp
  · intro hnext hawait judged outcome
    obtain ⟨counted, hdispatch⟩ := dispatchMessage_waiting
      (act := takeTestAck 0 accepted frames.toNat bits.toNat errored.toNat) hnext (takeTestAck_inbox ..)
    rw [takeTestAck_stop (s := upFront s) hawait] at hdispatch
    obtain ⟨hst, hmp⟩ := withTestTrigger_answer (accepted != 0) frames.toNat bits.toNat errored.toNat (upFront s)
    obtain ⟨hdone, hstill⟩ := takeStopAnswer_st (accepted != 0) frames.toNat bits.toNat errored.toNat (upFront s)
    obtain ⟨hawaits, hnone, hbits, herrored, hfar, hframes⟩ :=
      takeStopAnswer_counts (accepted != 0) frames.toNat bits.toNat errored.toNat (upFront s)
    have hverdict : (answerTaken (accepted != 0) frames.toNat bits.toNat errored.toNat (upFront s)).st.verdict =
        some outcome := by
      rw [answerTaken_verdict]
      by_cases h : accepted = 0 <;> simp [h, outcome, judged]
    refine ⟨_, congrArg Host.Outcome.next hdispatch, ?_⟩
    simp only [settleInbox_frame, hst, hmp]
    refine ⟨hawaits, hnone, fun h => ?_, fun h => ?_, fun hstate hclear => ?_, fun h => ?_, hframes, ?_⟩
    · rw [hbits, herrored, hfar, bne_iff_ne.2 h]; exact ⟨rfl, rfl, rfl⟩
    · rw [hbits, herrored, hfar, h]; exact ⟨rfl, rfl, rfl⟩
    · rw [hdone ⟨hstate, hclear⟩, hverdict]; exact ⟨rfl, rfl⟩
    · rw [hstill h, hverdict]
      exact ⟨answerTaken_state .., rfl⟩
    · simp
  · intro action hnext hstart hstop
    have hact := takeTestAck_other (s := upFront s) hstart hstop accepted frames.toNat bits.toNat errored.toNat
    obtain ⟨counted, hdispatch⟩ := dispatchMessage_waiting
      (act := takeTestAck action accepted frames.toNat bits.toNat errored.toNat) hnext (takeTestAck_inbox ..)
    rw [hact] at hdispatch
    refine ⟨_, congrArg Host.Outcome.next hdispatch, rfl, rfl, rfl, by simp [unchangedBut_iff], fun hempty => ?_⟩
    have hfree := dispatchMessage_empty (.testAck action accepted frames bits errored)
      (takeTestAck action accepted frames.toNat bits.toNat errored.toNat) hempty
    rw [← hdispatch, hfree, hact, upFront_empty hempty]

end Sys2Proof.Machine

/-! PROOF. The stages of a sweep, and the requests that start and stop a test. -/

namespace Sys2Proof.Machine

set_option Elab.async false

/-! ### The stages of a sweep -/

/-- The stage counted as complete. -/
def stageDone (s : State) : State := s.modST fun st => { st with stagesComplete := st.stagesComplete + 1 }

theorem completeStage_next {s : State} (h5 : s.st.stagesComplete < 5) (hceil : s.st.stagesComplete + 1 ≤ ceiling s) :
    completeStage s = requestStage (s.st.stagesComplete + 1) (stageDone s) := if_pos ⟨h5, hceil⟩

theorem completeStage_last {s : State} (h : 5 ≤ s.st.stagesComplete ∨ ceiling s < s.st.stagesComplete + 1) :
    completeStage s = finishTest (stageDone s) := by
  have hceiling : ceiling (stageDone s) = ceiling s := rfl
  exact if_neg (by rintro ⟨h5, hceil⟩; rw [← hceiling] at h; exact h.elim (fun h => by omega) (Nat.not_lt.mpr hceil))

theorem one_le_usable (p : Nat) : 1 ≤ usable p := by
  unfold usable
  split <;> decide

/-- A request of every position but position 0 finds room beside no guarantees. -/
theorem roomFails_usable {i : AllocInput} {p : Nat} (h : guaranteeSum i = 0) : roomFails i p (usable p - 1) = false := by
  have := one_le_usable p
  simp [roomFails, h]
  omega

/-- The end of a sweep is judged at once. -/
theorem finishTest_sweep {s : State} (h : s.st.kind = some .sweep) :
    finishTest s = stopTest (some (judgeErrors s.st)) true false s := if_neg (by simp [farCheck, h])

/-- A test that is done keeps its stage table and the ceilings. -/
theorem tryDone_stages (s : State) :
    (tryDone s).st.commissioned = s.st.commissioned ∧ (tryDone s).st.saved = s.st.saved ∧
      (tryDone s).st.stagesComplete = s.st.stagesComplete ∧ (tryDone s).st.stages = s.st.stages := by
  unfold tryDone
  dsimp only
  split <;> simp

/-- The end of a test sets the commissioned ceiling of a sweep and keeps its stage table (R160). -/
theorem stopTest_stages (v : Option TestOutcome) (o a : Bool) (s : State) :
    (stopTest v o a s).st.commissioned =
        (if s.st.kind = some .sweep then ceilingFromStages s.st else s.st.commissioned) ∧
      (stopTest v o a s).st.saved = (if s.st.kind = some .sweep then none else s.st.saved) ∧
      (stopTest v o a s).st.stagesComplete = s.st.stagesComplete ∧ (stopTest v o a s).st.stages = s.st.stages := by
  obtain ⟨x, hx, -, -, -, ⟨kept, hst⟩, -⟩ := stopTest_eq v o a s
  obtain ⟨hcomm, hsaved, hcomplete, hstages⟩ := tryDone_stages x
  rw [hx, hcomm, hsaved, hcomplete, hstages, hst]
  exact ⟨rfl, rfl, rfl, rfl⟩

/-- The test is STOPPING or DONE once it ends. -/
theorem stopTest_state (v : Option TestOutcome) (o a : Bool) (s : State) :
    (stopTest v o a s).st.state = .stopping ∨ (stopTest v o a s).st.state = .done := by
  obtain ⟨-, -, ⟨hstate, -⟩ | ⟨hstate, -⟩⟩ := stopTest_ends v o a s
  · exact .inl hstate
  · exact .inr hstate

theorem stopTest_noRoomAbort (v : Option TestOutcome) (o a : Bool) (s : State) : noRoomAbort (stopTest v o a s).st := by
  rcases stopTest_state v o a s with h | h <;> rw [noRoomAbort, h] <;> exact ⟨nofun, nofun⟩

/-- The ceiling that the stages of a table bring, in the words of R160. -/
theorem ceilingFromStages_eq (st : ST) :
    ceilingFromStages st = if st.stagesComplete = 0 then st.saved.getD st.commissioned
      else ((st.stages.take st.stagesComplete).takeWhile fun e => e.any fun x => x.errored == 0).length - 1 := by
  have hany : (fun e : Option StageEntry => match e with | some entry => entry.errored == 0 | none => false) =
      fun e => e.any fun x => x.errored == 0 := by
    funext e
    cases e <;> rfl
  unfold ceilingFromStages
  exact congrArg (fun f => if st.stagesComplete = 0 then st.saved.getD st.commissioned
    else ((st.stages.take st.stagesComplete).takeWhile f).length - 1) hany

/-- Settles O33: the next stage is requested, or the sweep ends; what is triggered behind either leaves the test. -/
theorem sweepStageCompletes : Obligations.SweepStageCompletes := by
  intro a s hkind hstate hactive hframe hroom p
  have hexec : exec .stageComplete s = .next (withTestTrigger completeStage s) :=
    congrArg Host.Outcome.next (atBoundary_now (by simp [stageOver, hkind, hstate, hactive, hframe]))
  refine ⟨_, hexec, ?_⟩
  by_cases hnext : p < 5 ∧ p + 1 ≤ ceiling s
  · have hstage := completeStage_next hnext.1 hnext.2
    have htarget : standingTarget (completeStage s) = p + 1 ∧ (completeStage s).st.reqTest = usable (p + 1) - 1 := by
      rw [hstage]; exact ⟨rfl, rfl⟩
    obtain ⟨hst, -⟩ := withTestTrigger_room (f := completeStage) (s := s) (by
      rw [htarget.1, htarget.2, hstage]
      exact hroom.imp id fun h => (Nat.min_eq_left hnext.2).symm ▸ roomFails_usable h)
    rw [hst, hstage]
    refine ⟨rfl, rfl, rfl, rfl, fun _ _ => ⟨hstate, rfl, rfl, rfl, rfl⟩, fun hlast => ?_, ?_⟩
    · omega
    · simp [requestStage, stageDone, hstage]
  · have hlast : 5 ≤ p ∨ ceiling s < p + 1 := by omega
    have hstage : completeStage s = stopTest (some (judgeErrors s.st)) true false (stageDone s) :=
      (completeStage_last hlast).trans (finishTest_sweep hkind)
    obtain ⟨hst, -⟩ := withTestTrigger_quiet completeStage s (by rw [hstage]; exact stopTest_noRoomAbort ..)
    obtain ⟨hcomm, -, hcomplete, hstages⟩ := stopTest_stages (some (judgeErrors s.st)) true false (stageDone s)
    obtain ⟨hreq, -, -⟩ := stopTest_ends (some (judgeErrors s.st)) true false (stageDone s)
    rw [hst, hstage]
    refine ⟨hcomplete, by simp [stageDone], by simp [stageDone], hstages, fun h5 hceil => absurd ⟨h5, hceil⟩ hnext,
      fun _ => ⟨?_, hreq, stopTest_state ..⟩, ?_⟩
    · rw [hcomm, if_pos (show (stageDone s).st.kind = some .sweep from hkind), ceilingFromStages_eq]
      exact if_neg (Nat.succ_ne_zero _)
    · simp [hstage, stageDone]

/-! ### TEST_START -/

theorem beginTest_busy {s : State} (h : testBusy s.st = true) (kind mode test : Byte) (run : TestRun) (allowed : Nat) :
    beginTest kind mode test run allowed s = .plain .busy s := if_pos h

theorem beginTest_unknown {kind : Byte} {s : State} (h : testBusy s.st = false) (hkind : 2 < kind.toNat)
    (mode test : Byte) (run : TestRun) (allowed : Nat) :
    beginTest kind mode test run allowed s = .plain .state s := by
  have hnone : testKindOf kind = none := by
    rw [testKindOf, if_neg, if_neg, if_neg] <;> rw [beq_iff_eq] <;> rintro rfl <;> simp at hkind
  rw [beginTest, if_neg (by simp [h]), hnone]

theorem beginTest_loop {test : Byte} {s : State} (h : testBusy s.st = false) (hoff : s.lc.link = .off)
    (h1 : 1 ≤ test.toNat) (h11 : test.toNat ≤ 11) (mode : Byte) (run : TestRun) (allowed : Nat) :
    beginTest 0 mode test run allowed s = .plain .accepted (startLoop test.toNat run allowed s) := by
  rw [beginTest, if_neg (by simp [h])]
  exact if_pos ⟨hoff, h1, h11⟩

theorem beginTest_noRoom {test : Byte} {s : State} (h : testBusy s.st = false) (hsite : s.lc.role = .site)
    (hup : s.lc.link = .up) (h1 : 1 ≤ test.toNat) (hroom : farRoom s < test.toNat) (mode : Byte) (run : TestRun)
    (allowed : Nat) : beginTest 1 mode test run allowed s = .plain .noRoom s := by
  rw [beginTest, if_neg (by simp [h])]
  exact (if_pos ⟨hsite, hup, h1⟩).trans (if_pos hroom)

theorem beginTest_far {test : Byte} {s : State} (h : testBusy s.st = false) (hsite : s.lc.role = .site)
    (hup : s.lc.link = .up) (h1 : 1 ≤ test.toNat) (hroom : test.toNat ≤ farRoom s) (mode : Byte) (run : TestRun)
    (allowed : Nat) : beginTest 1 mode test run allowed s =
      .plain .accepted (armTest (freshTest .far (some (testModeOf mode)) (some test.toNat) (some run) allowed) s) := by
  rw [beginTest, if_neg (by simp [h])]
  exact (if_pos ⟨hsite, hup, h1⟩).trans (if_neg (Nat.not_lt.mpr hroom))

theorem beginTest_sweep {test : Byte} {s : State} (h : testBusy s.st = false) (hsite : s.lc.role = .site)
    (hup : s.lc.link = .up) (hclosed : (s.tn.tenants.toList.all fun r => r.state == .closed) = true) (mode : Byte)
    (run : TestRun) (allowed : Nat) :
    beginTest 2 mode test run allowed s = .plain .accepted (armTest (freshSweep allowed) s) := by
  rw [beginTest, if_neg (by simp [h])]
  exact if_pos ⟨hsite, hup, hclosed⟩

/-- The record of a test that arms. -/
def testArmed (fresh : ST → ST) (s : State) : State :=
  s.modST fun st => { fresh st with state := .arming, deadline := some (frameAdd s.mp.frame 64) }

theorem armTest_eq (fresh : ST → ST) (s : State) :
    armTest fresh s = send .selfTest (testControl actionStart (testArmed fresh s).st) (testArmed fresh s) := rfl

/-- Arming sends one message beside the record. -/
theorem armTest_state (fresh : ST → ST) (s : State) :
    ∃ queue kept channel, armTest fresh s =
      { s with
        mc := { s.mc with queue := queue }, st := { (testArmed fresh s).st with kept := kept },
        cb := { s.cb with live := { s.cb.live with channel := channel } } } := by
  obtain ⟨queue, kl, ks, channel, e, -, hkl⟩ :=
    send_state .selfTest (testControl actionStart (testArmed fresh s).st) (testArmed fresh s)
  rw [armTest_eq, e, hkl rfl]
  exact ⟨_, _, _, rfl⟩

/-- A start of a test leaves the Control Port, and counts at most. -/
theorem beginTest_port (kind mode test : Byte) (run : TestRun) (allowed : Nat) (s : State) :
    (beginTest kind mode test run allowed s).state.cp = s.cp ∧
      onlyCounts s (beginTest kind mode test run allowed s).state := by
  have harm : ∀ fresh, (armTest fresh s).cp = s.cp ∧ onlyCounts s (armTest fresh s) := fun fresh => by
    obtain ⟨queue, kept, channel, e⟩ := armTest_state fresh s
    rw [e]; exact ⟨rfl, rfl⟩
  unfold beginTest
  split
  · exact ⟨rfl, rfl⟩
  · split
    · exact ⟨rfl, rfl⟩
    · split <;> exact ⟨rfl, rfl⟩
    · split
      · split
        · exact ⟨rfl, rfl⟩
        · exact harm _
      · exact ⟨rfl, rfl⟩
    · split
      · exact harm _
      · exact ⟨rfl, rfl⟩

theorem testModeOf_eq (mode : Byte) : testModeOf mode = if mode = 1 then .echo else .check := by
  simp [testModeOf]

theorem testModeCode_testModeOf (mode : Byte) : testModeCode (testModeOf mode) = if mode = 1 then 1 else 0 := by
  rw [testModeOf_eq]
  split <;> rfl

/-- Settles O46: the kinds of test, each with what it asks of the state. -/
theorem testStartIsJudged : Obligations.TestStartIsJudged := by
  intro kind mode test run frames allowed tag s h
  refine ⟨_, congrArg Host.Outcome.next (takeRequest_answered h _), fun hbusy => ?_, fun hbusy hkind => ?_,
    fun hbusy hkind hoff h1 h11 => ?_, fun hbusy hkind hsite hup h1 => ⟨fun hroom => ?_, fun hroom => ?_⟩,
    fun hbusy hkind hsite hup hclosed => ?_, ?_, ?_⟩
  · exact answered_plain (beginTest_busy (s := countControl .requestsServed s) hbusy ..)
  · exact answered_plain (beginTest_unknown (s := countControl .requestsServed s) hbusy hkind ..)
  · subst hkind
    rw [beginTest_loop (s := countControl .requestsServed s) hbusy hoff h1 h11]
    simp only [answered_frame, Answer.plain_state]
    refine ⟨rfl, rfl, rfl, rfl, rfl, rfl, rfl, rfl, fun hback => ?_, rfl, ?_⟩
    · simp [startLoop, setLoopSwitch, hback]
    · simp [unchangedBut_iff, startLoop]
  · subst hkind
    exact answered_plain (beginTest_noRoom (s := countControl .requestsServed s) hbusy hsite hup h1 hroom ..)
  · subst hkind
    rw [beginTest_far (s := countControl .requestsServed s) hbusy hsite hup h1 hroom]
    obtain ⟨queue, kept, channel, e⟩ := armTest_state
      (freshTest .far (some (testModeOf mode)) (some test.toNat) (some (runOf run frames.toNat)) allowed.toNat)
      (countControl .requestsServed s)
    simp only [answered_frame, Answer.plain_state]
    refine ⟨rfl, ?_, ?_, ?_, ?_, ?_, fun hkept hqueue => ?_, ?_⟩
    · rw [e]; rfl
    · rw [e]; rfl
    · rw [e, ← testModeOf_eq]; rfl
    · rw [e]; rfl
    · rw [e]; rfl
    · rw [armTest_eq, (send_testAck rfl (by exact hkept) (by exact hqueue)).1, ← testModeCode_testModeOf]
      rfl
    · rw [e]; simp [unchangedBut_iff]
  · subst hkind
    rw [beginTest_sweep (s := countControl .requestsServed s) hbusy hsite hup hclosed]
    obtain ⟨queue, kept, channel, e⟩ := armTest_state (freshSweep allowed.toNat) (countControl .requestsServed s)
    rw [e]
    exact ⟨rfl, rfl, rfl, rfl, rfl, rfl, by simp [unchangedBut_iff]⟩
  · exact answered_cp (beginTest_port ..).1
  · exact (beginTest_port kind mode test (runOf run frames.toNat) allowed.toNat (countControl .requestsServed s)).2

end Sys2Proof.Machine

/-! PROOF. TEST_STOP. -/

namespace Sys2Proof.Machine

set_option Elab.async false

theorem withTestTrigger_congr {f g : State → State} {s : State} (h : f s = g s) :
    withTestTrigger f s = withTestTrigger g s := by
  simp only [withTestTrigger, h]

/-- A FAR test in CHECK mode that is RUNNING awaits the stop answer (R155). -/
def awaitsAnswer (st : ST) : Bool := farCheck st && st.state == .running

/-- The verdict that TEST_STOP fixes at once: none where a FREE run awaits the stop answer (R156, R161). -/
def requestVerdict (st : ST) : Option TestOutcome :=
  if st.run = some .free then if awaitsAnswer st then none else some (judgeErrors st) else some .stopped

theorem stopByRequest_eq (s : State) : stopByRequest s = stopTest (requestVerdict s.st) true (awaitsAnswer s.st) s := by
  unfold stopByRequest requestVerdict
  by_cases hfree : s.st.run = some .free
  · rw [if_pos hfree, if_pos hfree, finishTest]
    by_cases hawait : awaitsAnswer s.st = true
    · rw [if_pos hawait, hawait]; exact if_pos hawait
    · rw [if_neg hawait, Bool.eq_false_iff.mpr hawait]; exact if_neg hawait
  · rw [if_neg hfree, if_neg hfree]; rfl

theorem endTest_idle {s : State} (h : s.st.state = .idle ∨ s.st.state = .done) : endTest s = .plain .state s := by
  rcases h with h | h <;> simp [endTest, testLive, h]

theorem endTest_stopping {s : State} (h : s.st.state = .stopping) : endTest s = .plain .busy s := if_pos h

theorem endTest_live {s : State} (hlive : testLive s.st = true) (hdue : s.mp.loopDue ≠ .now) :
    endTest s = .plain .accepted
      (withTestTrigger (stopTest (requestVerdict s.st) true (awaitsAnswer s.st)) s) := by
  have hstate : s.st.state ≠ .stopping := by
    intro h
    simp [testLive, h] at hlive
  rw [endTest, if_neg hstate, if_pos hlive, if_neg hdue]
  exact congrArg (Answer.plain .accepted) (withTestTrigger_congr (stopByRequest_eq s))

theorem endTest_frame (s : State) :
    (endTest s).state.tn.free = s.tn.free ∧ (endTest s).state.tm.time = s.tm.time ∧
      (endTest s).state.mp.frame = s.mp.frame ∧ (endTest s).state.lc.role = s.lc.role ∧
      (endTest s).state.pending = s.pending := by
  unfold endTest
  split
  · exact ⟨rfl, rfl, rfl, rfl, rfl⟩
  · split
    · dsimp only
      split <;> simp [stopByRequest_eq]
    · exact ⟨rfl, rfl, rfl, rfl, rfl⟩

/-- A test that awaits the stop answer has its deadline. -/
theorem stopTest_deadline (v : Option TestOutcome) (o : Bool) (s : State) :
    (stopTest v o true s).st.deadline = some (frameAdd s.mp.frame 64) := by
  obtain ⟨x, hx, -, -, -, ⟨kept, hst⟩, -⟩ := stopTest_eq v o true s
  rw [hx, tryDone_still (by simp [hst]), hst]
  rfl

theorem awaitsAnswer_iff (st : ST) :
    awaitsAnswer st = true ↔ st.kind = some .far ∧ st.mode = some .check ∧ st.state = .running := by
  simp [awaitsAnswer, farCheck, and_assoc]

/-- Settles O47: TEST_STOP is one end of the test, with the verdict and the wait that its run and kind bring. -/
theorem testStopEndsTheTest : Obligations.TestStopEndsTheTest := by
  intro tag s h
  refine ⟨_, congrArg Host.Outcome.next (takeRequest_answered h _), fun hidle => ?_, fun hstopping => ?_, ?_, ?_⟩
  · exact answered_plain (endTest_idle (s := countControl .requestsServed s) hidle)
  · exact answered_plain (endTest_stopping (s := countControl .requestsServed s) hstopping)
  · intro hlive hdue free awaits judged outcome
    obtain ⟨u, hu⟩ : ∃ u, u = countControl .requestsServed s := ⟨_, rfl⟩
    have hst : u.st = s.st := by rw [hu]; rfl
    have hmc : u.mc = s.mc := by rw [hu]; rfl
    have hmp : u.mp = s.mp := by rw [hu]; rfl
    have hps : u.ps = s.ps := by rw [hu]; rfl
    rw [← hu, endTest_live (by rw [hst]; exact hlive) (by rw [hmp]; exact hdue)]
    simp only [answered_frame, Answer.plain_state, hst]
    obtain ⟨hend, hport⟩ := withTestTrigger_stopTest (requestVerdict s.st) true (awaitsAnswer s.st) u
    obtain ⟨hreq, hloop, hcases⟩ := stopTest_ends (requestVerdict s.st) true (awaitsAnswer s.st) u
    obtain ⟨hcomm, hsaved, -, -⟩ := stopTest_stages (requestVerdict s.st) true (awaitsAnswer s.st) u
    rw [hst] at hcomm hsaved hloop
    rw [hps] at hcases
    rw [hend, hport]
    refine ⟨rfl, hreq, ?_, ?_, ?_, fun ha => ?_, fun ha => ?_, fun hk => ?_, fun hk hkept hroom => ?_, fun hk => ?_⟩
    · simp [hst]
    · simp [hst]
    · simp [hst]
    · have hawait : awaitsAnswer s.st = true := (awaitsAnswer_iff _).mpr ha
      have hverdict : requestVerdict s.st = if free then none else some .stopped := by
        simp only [requestVerdict, hawait, if_true, free]
      rw [hawait] at hcases ⊢
      rw [stopTest_deadline, stopTest_awaiting, hmp]
      rcases hcases with ⟨hstate, hv, -, -⟩ | ⟨-, -, hno, -⟩
      · exact ⟨hstate, rfl, hv.trans hverdict, rfl⟩
      · cases hno
    · have hawait : awaitsAnswer s.st = false := by
        rw [Bool.eq_false_iff]; exact fun h => ha ((awaitsAnswer_iff _).mp h)
      have hverdict : requestVerdict s.st = some outcome := by
        simp only [requestVerdict, hawait, judgeErrors, outcome, judged, free]
        split <;> rfl
      rw [hawait, hverdict] at hcases ⊢
      refine ⟨stopTest_awaiting .., hcases.imp (fun h => ⟨h.1, h.2.1⟩) (fun h => ⟨h.1, h.2.1⟩), fun hclear => ?_⟩
      rcases hcases with ⟨-, -, -, hno⟩ | ⟨hstate, -, -, -⟩
      · cases hno hclear
      · exact hstate
    · rw [hloop, if_pos hk]
    · rw [← hmc, ← hst]
      exact withTestTrigger_stopTest_queue (by rwa [hst]) (by rwa [hst]) (by rwa [hmc])
    · rw [hsaved, hcomm, if_pos hk, if_pos hk, ceilingFromStages_eq]
      exact ⟨rfl, rfl⟩
  · simpa only [answered_frame, countControl_frame] using endTest_frame (countControl .requestsServed s)

end Sys2Proof.Machine


/-! PROOF The sides of an event: what the operations shared by the units leave of the counter block and of the Control Port
(`Sides`). -/

namespace Sys2Proof.Machine

set_option Elab.async false

/-- An operation that only counts and reports: of the counter block the live counters change, of the Control Port the reports
queued, whose first stand; and no message is counted as received, or as not dispatched. -/
structure Sides (s t : State) : Prop where
  counts : onlyCounts s t
  port : onlyReports s t
  reports : s.cp.reports <+: t.cp.reports
  received : channelCount .messagesReceived t = channelCount .messagesReceived s
  undispatched : channelCount .notDispatched t = channelCount .notDispatched s

theorem onlyCounts_trans {s t u : State} (h1 : onlyCounts s t) (h2 : onlyCounts t u) : onlyCounts s u := by
  rw [onlyCounts] at h1 h2 ⊢
  rw [h2, h1]

theorem onlyReports_trans {s t u : State} (h1 : onlyReports s t) (h2 : onlyReports t u) : onlyReports s u := by
  rw [onlyReports] at h1 h2 ⊢
  rw [h2, h1]

theorem bumpAt_other {ns : List Nat} {i j : Nat} (h : i ≠ j) : (bumpAt ns i)[j]? = ns[j]? := by
  simp [bumpAt, h]

namespace Sides

variable {s t u : State}

/-- An operation that touches neither the counters nor the port. -/
theorem of_same (hcb : t.cb = s.cb := by rfl) (hcp : t.cp = s.cp := by rfl) : Sides s t :=
  ⟨by rw [onlyCounts, hcb], by rw [onlyReports, hcp], hcp ▸ List.prefix_rfl, by simp only [channelCount, hcb],
    by simp only [channelCount, hcb]⟩

theorem refl : Sides s s := of_same

theorem trans (h1 : Sides s t) (h2 : Sides t u) : Sides s u :=
  ⟨onlyCounts_trans h1.counts h2.counts, onlyReports_trans h1.port h2.port, h1.reports.trans h2.reports,
    h2.received.trans h1.received, h2.undispatched.trans h1.undispatched⟩

/-- The counters change, but not those of the messages taken up. -/
theorem of_counts (hcp : t.cp = s.cp) (h : onlyCounts s t)
    (hr : channelCount .messagesReceived t = channelCount .messagesReceived s)
    (hn : channelCount .notDispatched t = channelCount .notDispatched s) : Sides s t :=
  ⟨h, by rw [onlyReports, hcp], hcp ▸ List.prefix_rfl, hr, hn⟩

theorem of_ite {c : Prop} [Decidable c] {a b : State} (ha : c → Sides s a) (hb : ¬ c → Sides s b) :
    Sides s (if c then a else b) := by
  split
  · next h => exact ha h
  · next h => exact hb h

theorem mp (f : MP → MP) (s : State) : Sides s (s.modMP f) := .of_same
theorem sf (f : SF → SF) (s : State) : Sides s (s.modSF f) := .of_same
theorem ps (f : PS → PS) (s : State) : Sides s (s.modPS f) := .of_same
theorem mc (f : MC → MC) (s : State) : Sides s (s.modMC f) := .of_same
theorem lc (f : LC → LC) (s : State) : Sides s (s.modLC f) := .of_same
theorem tn (f : TN → TN) (s : State) : Sides s (s.modTN f) := .of_same
theorem ca (f : CA → CA) (s : State) : Sides s (s.modCA f) := .of_same
theorem tm (f : TM → TM) (s : State) : Sides s (s.modTM f) := .of_same
theorem st (f : ST → ST) (s : State) : Sides s (s.modST f) := .of_same

end Sides

/-! ### Counting, reporting, sending -/

theorem countTimes_sides {count : State → State} (h : ∀ s, Sides s (count s)) (n : Nat) (s : State) :
    Sides s (countTimes count n s) := by
  induction n generalizing s with
  | zero => exact .refl
  | succ n ih => exact (h s).trans (ih _)

theorem countLink_sides (c : LinkCounter) (s : State) : Sides s (countLink c s) := .of_counts rfl rfl rfl rfl
theorem countTiming_sides (c : TimingCounter) (s : State) : Sides s (countTiming c s) := .of_counts rfl rfl rfl rfl
theorem countTest_sides (c : TestCounter) (s : State) : Sides s (countTest c s) := .of_counts rfl rfl rfl rfl
theorem countControl_sides (c : ControlCounter) (s : State) : Sides s (countControl c s) := .of_counts rfl rfl rfl rfl
theorem countTenant_sides (t : Tenant) (c : TenantCounter) (s : State) : Sides s (countTenant t c s) :=
  .of_counts rfl rfl rfl rfl

theorem ctorIdx_injective : Function.Injective ChannelCounter.ctorIdx :=
  Function.LeftInverse.injective ChannelCounter.ofNat_ctorIdx

theorem countChannel_sides {c : ChannelCounter} (hr : c ≠ .messagesReceived) (hn : c ≠ .notDispatched) (s : State) :
    Sides s (countChannel c s) :=
  .of_counts rfl rfl (bumpAt_other fun e => hr (ctorIdx_injective e)) (bumpAt_other fun e => hn (ctorIdx_injective e))

theorem offerReport_sides (r : Report) (s : State) : Sides s (offerReport r s) := by
  unfold offerReport
  split
  · exact ⟨rfl, rfl, ⟨[r], rfl⟩, rfl, rfl⟩
  · exact Sides.trans (t := s.modCP fun cp => { cp with lost := true }) ⟨rfl, rfl, List.prefix_rfl, rfl, rfl⟩
      (countControl_sides _ _)

theorem report_sides (kind : ReportKind) (subject : Nat) (detail : List Byte) (s : State) :
    Sides s (report kind subject detail s) := offerReport_sides _ s

theorem offerQueue_sides (m : LinkMessage) (s : State) : Sides s (offerQueue m s).1 := by
  unfold offerQueue
  split
  · exact (Sides.mc _ s).trans (countChannel_sides (by decide) (by decide) _)
  · split
    · exact .mc (fun mc => { mc with queue := mc.queue ++ [m] }) s
    · exact countChannel_sides (by decide) (by decide) s

theorem setKept_sides (p : Producer) (ks : List KeptMessage) (s : State) : Sides s (setKept p ks s) := by
  cases p <;> exact .of_same

theorem send_sides (p : Producer) (m : LinkMessage) (s : State) : Sides s (send p m s) := by
  rw [send_eq]
  refine .of_ite (fun _ => .of_ite (fun _ => offerQueue_sides m s) fun _ => ?_) fun _ => setKept_sides _ _ s
  exact (offerQueue_sides m s).trans (setKept_sides _ _ _)

/-! ### The Self-Test Unit and the Tenant Unit -/

theorem tryDone_sides (s : State) : Sides s (tryDone s) := by
  unfold tryDone
  exact .of_ite (fun _ => (Sides.st _ s).trans (report_sides _ _ _ _)) fun _ => .refl

theorem testStopped_sides (verdict : Option TestOutcome) (await : Bool) (s : State) : Sides s (testStopped verdict await s) := by
  unfold testStopped
  exact .of_ite (fun _ => (Sides.st _ s).trans (.mp _ _)) fun _ => .st _ s

theorem stopTest_sides (verdict : Option TestOutcome) (offerStop await : Bool) (s : State) :
    Sides s (stopTest verdict offerStop await s) := by
  rw [stopTest_eq_tryDone]
  refine Sides.trans ?_ (tryDone_sides _)
  exact .of_ite (fun _ => (testStopped_sides _ _ s).trans (send_sides _ _ _)) fun _ => testStopped_sides _ _ s

theorem finishTest_sides (s : State) : Sides s (finishTest s) := by
  unfold finishTest
  split <;> exact stopTest_sides _ _ _ s

theorem abortTest_sides (o : TestOutcome) (b : Bool) (s : State) : Sides s (abortTest o b s) := stopTest_sides _ _ _ s

theorem testPlanChange_sides (old : Plan) (s : State) : Sides s (testPlanChange old s) := by
  unfold testPlanChange
  refine Sides.trans (.of_ite (fun _ => .of_ite (fun _ => abortTest_sides _ _ s) fun _ => ?_) fun _ => ?_) (tryDone_sides _)
  · exact .of_ite (fun _ => .st _ s) fun _ => .refl
  · exact .of_ite (fun _ => .st _ s) fun _ => .refl

theorem testLinkDown_sides (b : Bool) (s : State) : Sides s (testLinkDown b s) := by
  unfold testLinkDown
  exact .of_ite (fun _ => (Sides.st _ s).trans (abortTest_sides _ _ _)) fun _ => .st _ s

theorem modTenant_sides (t : Tenant) (f : TenantRec → TenantRec) (s : State) : Sides s (modTenant t f s) := .of_same

theorem refreshTenants_sides (s : State) : Sides s (refreshTenants s) := .of_same

theorem closeTenant_sides (t : Tenant) (s : State) : Sides s (closeTenant t s) := by
  unfold closeTenant
  split
  · exact (modTenant_sides t _ s).trans (report_sides _ _ _ _)
  · exact .refl

theorem closeEval_sides (s : State) : Sides s (closeEval s) :=
  ((((closeTenant_sides .t1 s).trans (closeTenant_sides .t2 _)).trans (closeTenant_sides .t3 _)).trans
    (closeTenant_sides .t4 _)).trans (refreshTenants_sides _)

theorem partnerOpenOne_sides (p : Pending) (t : Tenant) (s : State) : Sides s (partnerOpenOne p t s) := by
  unfold partnerOpenOne
  exact .of_ite (fun _ => (modTenant_sides t _ s).trans (report_sides _ _ _ _)) fun _ => .refl

theorem partnerOpen_sides (p : Pending) (s : State) : Sides s (partnerOpen p s) :=
  ((((partnerOpenOne_sides p .t1 s).trans (partnerOpenOne_sides p .t2 _)).trans (partnerOpenOne_sides p .t3 _)).trans
    (partnerOpenOne_sides p .t4 _)).trans (refreshTenants_sides _)

theorem evalSync_sides (t : Tenant) (s : State) : Sides s (evalSync t s).1 := by
  rw [evalSync_eq, apply_ite Prod.fst]
  exact .of_ite (fun _ => .refl) fun _ => (modTenant_sides t _ s).trans (report_sides _ _ _ _)

/-! ### The Plan Store and the allocations -/

theorem installPending_sides (p : Pending) (s : State) : Sides s (installPending p s) := by
  unfold installPending
  refine Sides.trans ?_ (closeEval_sides _)
  have h : Sides s ((if s.ps.pending.isSome then countLink .pendingDiscards s else s).modPS fun ps =>
      { ps with pending := some p }) :=
    Sides.trans (.of_ite (fun _ => countLink_sides _ s) fun _ => .refl) (.ps _ _)
  exact .of_ite (fun _ => h.trans (partnerOpen_sides _ _)) fun _ => h

theorem offerPlan_sides (p : Pending) (s : State) : Sides s (offerPlan p s).1 := by
  rw [offerPlan_eq]
  dsimp only
  split
  · exact installPending_sides p s
  · exact .refl

theorem dropPending_sides (s : State) : Sides s (dropPending s) := by
  unfold dropPending
  exact .of_ite (fun _ => ((Sides.ps _ s).trans (countLink_sides _ _)).trans (closeEval_sides _)) fun _ => .refl

theorem propose_sides (c : Candidate) (s : State) : Sides s (propose c s).1 := by
  rw [propose_eq]
  have hoffer := offerPlan_sides (proposalOf c s) s
  split
  · split
    · exact (((((hoffer.trans (.lc _ _)).trans (send_sides _ _ _)).trans (countLink_sides _ _)).trans (.lc _ _)).trans
        (report_sides _ _ _ _))
    · exact (hoffer.trans (.lc _ _)).trans (countLink_sides _ _)
  · exact .refl

theorem roomAbort_sides (s : State) : Sides s (roomAbort s) := by
  unfold roomAbort
  exact .of_ite (fun _ => (countLink_sides _ s).trans (abortTest_sides _ _ _)) fun _ => countLink_sides _ s

theorem allocateOnce_sides (cause : AllocCause) (target : Nat) (s : State) : Sides s (allocateOnce cause target s) := by
  rw [allocateOnce_eq]
  have hroom : Sides s (if roomFails (allocInput s) (min target (ceiling s)) s.st.reqTest then roomAbort s else s) :=
    .of_ite (fun _ => roomAbort_sides s) fun _ => .refl
  generalize (if roomFails (allocInput s) (min target (ceiling s)) s.st.reqTest then roomAbort s else s) = u at hroom ⊢
  refine .of_ite (fun _ => .of_ite (fun _ => ?_) fun _ => ?_) fun _ => ?_
  · exact ((hroom.trans (.ca _ _)).trans (countLink_sides _ _)).trans (propose_sides _ _)
  · exact (((hroom.trans (.ca _ _)).trans (countLink_sides _ _)).trans (propose_sides _ _)).trans (.ca _ _)
  · exact (hroom.trans (.ca _ _)).trans (countLink_sides _ _)

theorem deferTrigger_sides (s : State) : Sides s (deferTrigger s) := (Sides.ca _ s).trans (countLink_sides _ _)

theorem allocate_sides (cause : AllocCause) (target : Nat) (s : State) : Sides s (allocate cause target s) := by
  unfold allocate
  have h := allocateOnce_sides cause target s
  exact .of_ite (fun _ => .of_ite (fun _ => h.trans (allocateOnce_sides _ _ _)) fun _ => h.trans (deferTrigger_sides _))
    fun _ => h

theorem trigger_sides (cause : AllocCause) (s : State) : Sides s (trigger cause s) := by
  unfold trigger
  split
  · exact .refl
  · exact .of_ite (fun _ => allocate_sides _ _ s) fun _ => deferTrigger_sides s

theorem triggerIf_sides (cause : AllocCause) (flag : Bool) (s : State) : Sides s (triggerIf cause flag s) := by
  unfold triggerIf
  exact .of_ite (fun _ => trigger_sides cause s) fun _ => .refl

theorem serveWaiting_sides (s : State) : Sides s (serveWaiting s) := by
  unfold serveWaiting
  exact .of_ite (fun _ => allocate_sides _ _ s) fun _ => .refl

theorem withTestTrigger_sides {f : State → State} {s : State} (h : Sides s (f s)) : Sides s (withTestTrigger f s) := by
  unfold withTestTrigger
  exact .of_ite (fun _ => h.trans (trigger_sides _ _)) fun _ => h

theorem discardPending_sides (s : State) : Sides s (discardPending s) := by
  unfold discardPending
  exact .of_ite (fun _ => (dropPending_sides s).trans (withTestTrigger_sides (tryDone_sides _))) fun _ => .refl

theorem syncAll_sides (s : State) : Sides s (syncAll s) := by
  rw [syncAll_eq]
  exact (((((((evalSync_sides .t1 s).trans (evalSync_sides .t2 _)).trans (evalSync_sides .t3 _)).trans
    (evalSync_sides .t4 _)).trans (triggerIf_sides _ _ _)).trans (triggerIf_sides _ _ _)).trans
    (triggerIf_sides _ _ _)).trans (triggerIf_sides _ _ _)

/-! ### The Timing Unit -/

theorem setTiming_sides (new : TimingState) (cause : TimingCause) (s : State) : Sides s (setTiming new cause s) :=
  (Sides.trans (t := (s.modTM fun tm => { tm with state := new, goodRun := 0, largeRun := 0 }).modTM fun tm =>
    { tm with pps := tm.pps && pulsing tm }) .of_same (syncAll_sides _)).trans (report_sides _ _ _ _)

theorem enterHoldover_sides (cause : TimingCause) (s : State) : Sides s (enterHoldover cause s) :=
  (Sides.tm _ s).trans (setTiming_sides _ _ _)

theorem timingLinkUp_sides (s : State) : Sides s (timingLinkUp s) := by
  unfold timingLinkUp
  split
  · exact .refl
  · exact .of_ite (fun _ => (Sides.tm _ s).trans (setTiming_sides _ _ _)) fun _ => .tm _ s

theorem timingLinkDown_sides (s : State) : Sides s (timingLinkDown s) := by
  unfold timingLinkDown
  dsimp only
  split
  · exact (Sides.tm _ s).trans (setTiming_sides _ _ _)
  · exact (Sides.tm _ s).trans (enterHoldover_sides _ _)
  · exact .tm _ s

/-! ### The channel restart -/

theorem finishRestart_sides (s : State) : Sides s (finishRestart s) := by
  unfold finishRestart
  dsimp only
  split
  · exact ((Sides.mc _ s).trans (.lc _ _)).trans (report_sides _ _ _ _)
  · exact (Sides.mc _ s).trans (.lc _ _)

theorem uncountArea_sides (s : State) : Sides s (uncountArea s) := by
  unfold uncountArea
  refine .of_counts rfl ?_ ?_ ?_
  · simp only [onlyCounts, State.modCB]
    split <;> rfl
  · simp only [channelCount, State.modCB]
    split
    · exact List.getElem?_set_ne (by decide)
    · rfl
  · simp only [channelCount, State.modCB]
    split
    · exact List.getElem?_set_ne (by decide)
    · rfl

theorem withdrawArea_sides (s : State) : Sides s (withdrawArea s) :=
  (((uncountArea_sides s).trans (countTimes_sides (countChannel_sides (by decide) (by decide)) _ _)).trans (.mp _ _)).trans
    (.mc _ _)

theorem restarted_sides (hello : Option LinkMessage) (s : State) : Sides s (restarted hello s) :=
  (((countTimes_sides (countChannel_sides (by decide) (by decide)) _ s).trans (.mc _ _)).trans
    (setKept_sides .linkController [] _)).trans (setKept_sides .selfTest [] _)

theorem restartChannel_sides (hello : Option LinkMessage) (inFrame : Bool) (s : State) :
    Sides s (restartChannel hello inFrame s) := by
  have hfinish : Sides s (if s.mc.restart = .now then finishRestart s else s) :=
    .of_ite (fun _ => finishRestart_sides s) fun _ => .refl
  refine hfinish.trans ?_
  unfold restartChannel
  generalize (if s.mc.restart = .now then finishRestart s else s) = u
  change Sides u (if (restarted hello u).mp.composed = true ∧ ¬ inFrame = true then withdrawArea (restarted hello u)
    else restarted hello u)
  exact .of_ite (fun _ => (restarted_sides hello u).trans (withdrawArea_sides _)) fun _ => restarted_sides hello u

/-! ### The link's entries -/

theorem plansToIdle_sides (s : State) : Sides s (plansToIdle s) := (dropPending_sides s).trans (.ps _ _)

theorem unitsLinkDown_sides (old : LinkState) (s : State) : Sides s (unitsLinkDown old s) := by
  have hdown : Sides s (if inPair old then timingLinkDown s else s) :=
    .of_ite (fun _ => timingLinkDown_sides s) fun _ => .refl
  exact (hdown.trans (withTestTrigger_sides ((testLinkDown_sides false _).trans (tryDone_sides _)))).trans
    (closeEval_sides _)

/-- An entry of the link to SEARCH or OFF, but for the messages left behind. -/
theorem linkDownNeighbours_sides (old : LinkState) (hello : Option LinkMessage) {kind : EntryKind} (h : kind ≠ .dispatch)
    (s : State) : Sides s (linkDownNeighbours old hello kind s) := by
  rw [linkDownNeighbours_eq]
  dsimp only
  rw [if_neg h]
  exact ((((Sides.sf _ s).trans (plansToIdle_sides _)).trans (restartChannel_sides hello _ _)).trans (unitsLinkDown_sides old _))

theorem enterSearch_sides (cause : LinkCause) (extra : Byte) {kind : EntryKind} (h : kind ≠ .dispatch) (s : State) :
    Sides s (enterSearch cause extra kind s) :=
  ((Sides.lc _ s).trans (report_sides _ _ _ _)).trans (linkDownNeighbours_sides _ _ h _)

theorem enterOff_sides (reason : Byte) (s : State) : Sides s (enterOff reason s) := by
  rw [enterOff_eq]
  exact ((Sides.lc _ s).trans (linkDownNeighbours_sides _ _ (by decide) _)).trans (.lc _ _)

theorem failShift_sides (failure : ShiftFailure) (p : Proposal) (s : State) : Sides s (failShift failure p s) :=
  ((Sides.lc _ s).trans (countLink_sides .shiftsFailed _)).trans (report_sides _ _ _ _)

theorem endShift_sides (accepted : Bool) (s : State) : Sides s (endShift accepted s) := by
  unfold endShift
  exact .of_ite (fun _ => (Sides.lc _ s).trans (report_sides _ _ _ _)) fun _ => .refl

theorem proposalLost_sides (s : State) : Sides s (proposalLost s) := by
  unfold proposalLost
  split
  · exact failShift_sides _ _ s
  · exact .refl

theorem enterLost_sides (cause : LinkCause) (s : State) : Sides s (enterLost cause s) := by
  rw [enterLost_eq]
  have h1 : Sides s (linkLost cause s) :=
    ((((Sides.lc _ s).trans (.sf _ _)).trans (report_sides _ _ _ _)).trans (dropPending_sides _)).trans (.ps _ _)
  have h2 : Sides s (if inPair s.lc.link then timingLinkDown (linkLost cause s) else linkLost cause s) :=
    .of_ite (fun _ => h1.trans (timingLinkDown_sides _)) fun _ => h1
  exact (h2.trans (proposalLost_sides _)).trans (withTestTrigger_sides ((testLinkDown_sides true _).trans (tryDone_sides _)))

theorem enterUp_sides (cause : LinkCause) (s : State) : Sides s (enterUp cause s) := by
  have h : Sides s (linkUp cause s) :=
    (((((Sides.lc _ s).trans (.sf _ _)).trans (.ca _ _)).trans (report_sides _ _ _ _)).trans (timingLinkUp_sides _)).trans (closeEval_sides _)
  rw [enterUp_eq]
  exact .of_ite (fun _ => h.trans (enterLost_sides _ _)) fun _ => h.trans (serveWaiting_sides _)

/-! ### Changes of the active plan -/

theorem shiftAccepted_sides (s : State) : Sides s (shiftAccepted s) := by
  unfold shiftAccepted
  split
  · exact ((Sides.lc _ s).trans (countLink_sides .shiftsAccepted _)).trans (endShift_sides _ _)
  · exact endShift_sides _ s

theorem linkPlanChange_sides (cause : PlanCause) (s : State) : Sides s (linkPlanChange cause s) := by
  rw [linkPlanChange_eq]
  have h : Sides s (shiftAccepted (s.modLC fun lc => { lc with sinceChange := 0 })) :=
    (Sides.lc _ s).trans (shiftAccepted_sides _)
  exact .of_ite (fun _ => .of_ite (fun _ => h.trans (enterUp_sides _ _)) fun _ => h) fun _ => .lc _ s

theorem notifyPlan_sides (cause : PlanCause) (old : Plan) (s : State) : Sides s (notifyPlan cause old s) :=
  (((closeEval_sides s).trans (withTestTrigger_sides (testPlanChange_sides _ _))).trans (linkPlanChange_sides cause _)).trans
    (report_sides _ _ _ _)

/-- The counts of a pending plan that becomes active (R27, R30); `activatePending_some` ties it to the model. -/
def activationCounted (cause : PlanCause) (s : State) : State :=
  if cause = .adopted then countLink .headerAdoptions (countLink .planActivations s) else countLink .planActivations s

/-- The Plan Store once its pending plan `p` is active (R25, R32); `activatePending_some` ties it to the model. -/
def PS.activated (p : Pending) (ps : PS) : PS :=
  { ps with pending := none, fallback := fallbackPlan p.plan.number p.carried, active := p.plan, previous := some ps.active }

@[simp] theorem activationCounted_frame (cause : PlanCause) (s : State) :
    (activationCounted cause s).mp = s.mp ∧ (activationCounted cause s).sf = s.sf ∧ (activationCounted cause s).ps = s.ps ∧
    (activationCounted cause s).mc = s.mc ∧ (activationCounted cause s).lc = s.lc ∧ (activationCounted cause s).tn = s.tn ∧
    (activationCounted cause s).ca = s.ca ∧ (activationCounted cause s).tm = s.tm ∧ (activationCounted cause s).st = s.st ∧
    (activationCounted cause s).cp = s.cp ∧ (activationCounted cause s).pending = s.pending := by
  unfold activationCounted
  split <;> exact ⟨rfl, rfl, rfl, rfl, rfl, rfl, rfl, rfl, rfl, rfl, rfl⟩

theorem activatePending_some {cause : PlanCause} {p : Pending} {s : State} (h : s.ps.pending = some p) :
    activatePending cause s = notifyPlan cause s.ps.active ((activationCounted cause s).modPS (PS.activated p)) := by
  have hactive : (activationCounted cause s).ps.active = s.ps.active := by simp
  unfold activatePending
  rw [h, ← hactive]
  rfl

theorem activatePending_none {cause : PlanCause} {s : State} (h : s.ps.pending = none) : activatePending cause s = s := by
  unfold activatePending
  rw [h]

theorem activationCounted_sides (cause : PlanCause) (s : State) : Sides s (activationCounted cause s) :=
  .of_ite (fun _ => (countLink_sides _ s).trans (countLink_sides _ _)) fun _ => countLink_sides _ s

theorem activatePending_sides (cause : PlanCause) (s : State) : Sides s (activatePending cause s) := by
  cases hp : s.ps.pending with
  | none => rw [activatePending_none hp]; exact .refl
  | some p =>
    rw [activatePending_some hp]
    exact ((activationCounted_sides cause s).trans (.ps _ _)).trans (notifyPlan_sides _ _ _)

theorem makeActive_sides (new : Plan) (cause : PlanCause) (s : State) : Sides s (makeActive new cause s) :=
  (Sides.ps _ s).trans (notifyPlan_sides _ _ _)

theorem takeFallback_sides (s : State) : Sides s (takeFallback s) := by
  unfold takeFallback
  exact .of_ite (fun _ => .ps _ s) fun _ => (Sides.ps _ s).trans (makeActive_sides _ _ _)

theorem takeIdle_sides (s : State) : Sides s (takeIdle s) := by
  unfold takeIdle
  exact .of_ite (fun _ => (Sides.ps _ s).trans (closeEval_sides _)) fun _ => (Sides.ps _ s).trans (notifyPlan_sides _ _ _)

/-- The loopback switch takes effect and frame lock restarts (R18); `takeLoopSwitch_eq` ties it to the model. -/
def loopSwitched (s : State) : State :=
  (s.modMP fun mp => { mp with loopback := s.mp.loopSwitch, loopDue := .no }).modSF fun sf =>
    { sf with locked := false, goodRun := 0, missRun := 0, lockedBefore := false }

/-- The plan that a switch of the loopback brings (R35); `takeLoopSwitch_eq` ties it to the model. -/
def loopPlansTaken (s : State) : State :=
  if s.mp.loopSwitch then
    makeActive (loopPlan (s.st.test.getD 0)) .loopSet
      ((loopSwitched s).modST fun st => { st with activation := some s.mp.frame })
  else makeActive s.ps.fallback .loopEnd (loopSwitched s)

theorem takeLoopSwitch_eq (s : State) :
    takeLoopSwitch s = loopPlansTaken (if s.ps.idleDue = .now then takeIdle s else s) := rfl

theorem loopPlansTaken_sides (s : State) : Sides s (loopPlansTaken s) := by
  have hswitch : Sides s (loopSwitched s) := (Sides.mp _ s).trans (.sf _ _)
  exact .of_ite (fun _ => (hswitch.trans (.st _ _)).trans (makeActive_sides _ _ _))
    fun _ => hswitch.trans (makeActive_sides _ _ _)

theorem takeLoopSwitch_sides (s : State) : Sides s (takeLoopSwitch s) := by
  rw [takeLoopSwitch_eq]
  exact Sides.trans (.of_ite (fun _ => takeIdle_sides s) fun _ => .refl) (loopPlansTaken_sides _)

end Sys2Proof.Machine


/-! PROOF The Link Controller's waiting triggers, the end of a stop, and the shifts that fail (O25, O26, O16). -/

namespace Sys2Proof.Machine

set_option Elab.async false

/-! ### Waiting triggers -/

theorem exec_retryWaitEnd {s : State} (h : s.lc.retryEnd = some s.mp.frame) :
    exec .retryWaitEnd s = .next (serveWaiting (s.modLC fun lc => { lc with retryEnd := none })) :=
  congrArg _ (atBoundary_now (by simp [h]))

theorem exec_lcFreeNotice {s : State} (h : s.lc.freeNotice = .now) :
    exec .lcFreeNotice s = .next (serveWaiting (s.modLC fun lc => { lc with freeNotice := .no })) :=
  congrArg _ (atBoundary_now (by simp [h]))

/-- An allocation whose room does not fail leaves its candidate as the last. -/
theorem allocate_last {cause : AllocCause} {target : Nat} {s : State}
    (h : roomFails (allocInput s) (min target (ceiling s)) s.st.reqTest = false) :
    (allocate cause target s).ca.last = some (candidateFor s cause (min target (ceiling s)) s.st.reqTest) := by
  obtain ⟨w, hca⟩ := allocateOnce_ca cause target s
  rw [allocate_room h, hca]

/-- What a waiting trigger that is served does (R111). -/
theorem serveWaiting_served (s : State) :
    (s.lc.role = .hub ∨ s.ca.waiting = false ∨ lcFree s = false → serveWaiting s = s) ∧
      (s.lc.role = .site → s.ca.waiting = true → lcFree s = true →
        roomFails (allocInput s) (min (standingTarget s) (ceiling s)) s.st.reqTest = false →
        (serveWaiting s).ca.last =
          some (candidateFor s .deferred (min (standingTarget s) (ceiling s)) s.st.reqTest)) := by
  refine ⟨fun h => if_neg ?_, fun hr hw hf hroom => ?_⟩
  · rintro ⟨hr, hw, hf⟩
    rcases h with h | h | h
    · rw [hr] at h; cases h
    · rw [hw] at h; cases h
    · rw [hf] at h; cases h
  · rw [serveWaiting, if_pos ⟨hr, hw, hf⟩]
    exact allocate_last hroom

theorem exec_riseEvaluation {s : State} (hd : s.lc.riseDue = true) (ht : s.mp.rxTaken = true) :
    exec .riseEvaluation s = .next (if riseCalled s
      then allocate .profile (s.ps.active.profile + 1) (s.modLC fun lc => { lc with riseDue := false })
      else s.modLC fun lc => { lc with riseDue := false }) :=
  congrArg _ (atBoundary_now (by simp [riseOpen, hd, ht]))

/-- Settles O25: the retry wait and the free notice end in `serveWaiting`, the rise in one allocation. -/
theorem waitingTriggersAllocate : Obligations.WaitingTriggersAllocate := by
  refine ⟨?_, ?_⟩
  · rintro c s (⟨rfl, h⟩ | ⟨rfl, h⟩) s'
    · obtain ⟨hstay, hrun⟩ := serveWaiting_served s'
      exact ⟨_, exec_retryWaitEnd h, hstay, hrun, by simp⟩
    · obtain ⟨hstay, hrun⟩ := serveWaiting_served s'
      exact ⟨_, exec_lcFreeNotice h, hstay, hrun, by simp⟩
  · intro s hdue htaken s'
    refine ⟨_, exec_riseEvaluation hdue htaken, fun h => by rw [h]; rfl, fun h hroom => ?_, ?_⟩
    · rw [if_pos h]
      exact allocate_last (s := s') hroom
    · cases riseCalled s <;> simp

/-! ### The end of a stop -/

theorem exec_stopEntryOff {st : Stop} {s : State} (h : s.lc.stop = some st) (hd : st.offDue = true) :
    exec .stopEntryOff s = .next (enterOff st.reason s) := by
  have hend : endStop s = enterOff st.reason s := by unfold endStop; rw [h]
  rw [← hend]
  exact congrArg _ (atBoundary_now (by simp [stopOver, h, hd]))

theorem exec_channelRestartFinish {s : State} (h : s.mc.restart = .now) :
    exec .channelRestartFinish s = .next (finishRestart s) := congrArg _ (atBoundary_now (by simp [h]))

/-- The end of a restart without a report owed (R55). -/
theorem finishRestart_none {s : State} (h : s.lc.offReport = none) :
    (finishRestart s).cp = s.cp ∧ (finishRestart s).cb = s.cb := by
  unfold finishRestart
  rw [h]
  exact ⟨rfl, rfl⟩

theorem report_room {kind : ReportKind} {subject : Nat} {detail : List Byte} {s : State} (h : s.cp.reports.length < 32) :
    (report kind subject detail s).cp.reports = s.cp.reports ++ [⟨kind, subject, s.mp.frame, detailOf detail⟩] := by
  rw [report, offerReport, if_pos h]
  rfl

/-- The end of the restart at an entry to OFF reports the entry (R61). -/
theorem finishRestart_some {old : LinkState} {reason : Byte} {s : State} (h : s.lc.offReport = some (old, reason))
    (hroom : s.cp.reports.length < 32) :
    (finishRestart s).cp.reports = s.cp.reports ++ [⟨.linkState, 0, s.mp.frame,
      [linkStateCode .off, linkStateCode old, linkCauseCode .stop, reason, 0, 0, 0, 0]⟩] := by
  unfold finishRestart
  rw [h]
  exact report_room hroom

/-- Settles O26: the entry to OFF by what `enterOff` leaves, its report by what `finishRestart` adds. -/
theorem stopEndsInOff : Obligations.StopEndsInOff := by
  refine ⟨fun st s hstop hdue => ?_, fun s hnow => ?_⟩
  · obtain ⟨hlc, hpending, hactive, hidle, hrestart, hqueue, htime, hrepeat⟩ := enterOff_entered st.reason s
    refine ⟨_, exec_stopEntryOff hstop hdue, ?_⟩
    simp only [hlc, hpending, hactive, hrestart, hqueue, htime, hrepeat]
    simp [clearLink, hidle, (enterOff_sides st.reason s).counts]
  · obtain ⟨hlc, hmc, -⟩ := finishRestart_core s
    have hsides := finishRestart_sides s
    exact ⟨_, exec_channelRestartFinish hnow, hmc, hlc, finishRestart_none, fun _ _ => finishRestart_some, hsides.port,
      hsides.counts, by simp [unchangedBut_iff]⟩

/-! ### Shifts that fail -/

/-- A message taken up, and the settling of those behind it, bring the counters and the reports of what is done with it. -/
theorem Sides.settled {left : List RxMessage} {counted : List Nat} {s u : State} (h : Sides (upFront s) u) :
    onlyReports s (settleInbox left counted u) ∧ onlyCounts s (settleInbox left counted u) :=
  ⟨h.port, onlyCounts_settled h.counts⟩

theorem resolveFailed_sides (f : ShiftFailure) (p : Proposal) (s : State) : Sides s (resolveFailed f p s) :=
  (endShift_sides false s).trans (failShift_sides f p _)

/-- Outside UP the discard of the pending plan is the Plan Store's, the Tenant Unit's and the Self-Test Unit's (R28, R29). -/
theorem discardPending_notUp {s : State} (h : s.lc.link ≠ .up) :
    (discardPending s).mp = s.mp ∧ (discardPending s).ps = { s.ps with pending := none } ∧ (discardPending s).mc = s.mc ∧
      (discardPending s).lc = s.lc := by
  obtain ⟨-, -, hmp, hmc, hlc, hps⟩ := tryDone_st (dropPending s)
  obtain ⟨emp, -, eps, emc, elc, -⟩ := withTestTrigger_notUp tryDone (dropPending s) (by rw [hlc]; simpa using h)
  unfold discardPending
  split
  · rw [emp, eps, emc, elc, hmp, hps, hmc, hlc, dropPending_ps]
    simp
  · next hp =>
    have hnone : s.ps.pending = none := by simpa using hp
    exact ⟨rfl, by rw [← hnone], rfl, rfl⟩

/-- What a failure leaves of the Link Controller (R79). -/
theorem failShift_lc (f : ShiftFailure) (p : Proposal) (s : State) :
    (failShift f p s).lc =
      { s.lc with proposal := none, failures := min (s.lc.failures + 1) 255, lastFailure := some f,
                  retryEnd := some (frameAdd s.mp.frame 64), freeNotice := .next, resolvedHere := true } := by
  simp [failShift]

theorem endShift_shift {b : Bool} {s : State} (h : s.lc.link = .shift) (hs : s.lc.stop = none) :
    (endShift b s).lc = { s.lc with link := .up } := by
  unfold endShift
  rw [if_pos ⟨h, hs⟩]
  simp

/-- What a failure leaves of the Link Controller in SHIFT, the link in UP again (R79). -/
theorem resolveFailed_lc {f : ShiftFailure} {p : Proposal} {s : State} (h : s.lc.link = .shift) (hs : s.lc.stop = none) :
    (resolveFailed f p s).lc =
      { s.lc with link := .up, proposal := none, failures := min (s.lc.failures + 1) 255, lastFailure := some f,
                  retryEnd := some (frameAdd s.mp.frame 64), freeNotice := .next, resolvedHere := true } := by
  rw [resolveFailed, failShift_lc, endShift_shift h hs]
  simp

theorem namedProposal_some {p : Proposal} {s : State} (hr : s.lc.role = .site) (hl : s.lc.link = .shift)
    (hs : s.lc.stop = none) (hp : s.lc.proposal = some p) : namedProposal p.number s = some p := by
  rw [namedProposal, if_pos ⟨hr, hl, hs⟩, hp]
  simp

theorem takeShiftNak_named {p : Proposal} {reason : Byte} {s : State} (h : namedProposal p.number s = some p) :
    takeShiftNak p.number reason s = resolveFailed (.nak reason) p (discardPending s) := by
  unfold takeShiftNak
  rw [h]

theorem exec_shiftNak {p : Proposal} {reason : Byte} {s : State} (h : comesNext (.shiftNak p.number reason) s)
    (hn : namedProposal p.number (upFront s) = some p) :
    ∃ counted, exec (.shiftNak p.number reason) s = .next (settleInbox (nextWaiting s.mc.inbox) counted
      (resolveFailed (.nak reason) p (discardPending (upFront s)))) := by
  have htake := takeShiftNak_named (reason := reason) hn
  obtain ⟨counted, e⟩ := dispatchMessage_waiting (act := takeShiftNak p.number reason) h (by rw [htake]; simp)
  exact ⟨counted, by rw [← htake]; exact congrArg _ e⟩

/-- A discard for want of adoption, with the failure of the shift proposed (R28, R79). -/
theorem exec_pendingDiscard {p : Pending} {s : State} (hp : s.ps.pending = some p) (hr : s.lc.role = .site)
    (hc : p.confirmed = false) (hm : p.mark = .no) (ht : s.mp.rxTaken = true) (hf : s.mp.frame = frameAdd p.effective 16) :
    exec .pendingDiscard s = .next (discardUnadopted s) :=
  congrArg _ (atBoundary_now (by simp [discardDue, hp, hr, hc, hm, ht, hf]))

theorem discardUnadopted_none {s : State} (h : s.lc.proposal = none) : discardUnadopted s = discardPending s := by
  simp [discardUnadopted, h]

theorem discardUnadopted_some {q : Proposal} {s : State} (h : s.lc.proposal = some q) :
    discardUnadopted s = resolveFailed (if q.lateAck then .lateAck else .noAdoption) q (discardPending s) := by
  simp [discardUnadopted, h]

/-- Settles O16: both resolve through `discardPending` and `resolveFailed`. -/
theorem failedShiftsAreResolved : Obligations.FailedShiftsAreResolved := by
  refine ⟨fun p reason s hc hr hl hs hp => ?_, fun p s hp hr hc hm ht hf hup => ?_⟩
  · obtain ⟨counted, e⟩ := exec_shiftNak hc (namedProposal_some (s := upFront s) hr hl hs hp)
    obtain ⟨hmp, hps, -, hlc⟩ := discardPending_notUp (s := upFront s) (by simp [hl])
    have hfail := resolveFailed_lc (f := .nak reason) (p := p) (s := discardPending (upFront s)) (by rw [hlc]; exact hl)
      (by rw [hlc]; exact hs)
    obtain ⟨hport, hcounts⟩ := Sides.settled (left := nextWaiting s.mc.inbox) (counted := counted)
      ((discardPending_sides (upFront s)).trans (resolveFailed_sides (.nak reason) p _))
    refine ⟨_, e, ?_⟩
    simpa [settleInbox, hfail, hlc, hps, hmp] using And.intro hport hcounts
  · obtain ⟨hmp, hps, hmc, hlc⟩ := discardPending_notUp hup
    refine ⟨_, exec_pendingDiscard hp hr hc hm ht hf, ?_⟩
    cases hq : s.lc.proposal with
    | none =>
      have hsides := discardPending_sides s
      rw [discardUnadopted_none hq]
      simp [hps, hlc, hmp, hmc, hsides.port, hsides.counts]
    | some q =>
      have hsides := (discardPending_sides s).trans
        (resolveFailed_sides (if q.lateAck then .lateAck else .noAdoption) q _)
      rw [discardUnadopted_some hq]
      refine ⟨by simp [hps], fun q' hq' hl hs => ?_, fun h => by simp at h, ?_⟩
      · cases hq'
        rw [resolveFailed_lc (by rw [hlc]; exact hl) (by rw [hlc]; exact hs), hlc, hmp]
        simp
      · simp [hmp, hmc, hsides.port, hsides.counts]

end Sys2Proof.Machine


/-! PROOF The messages of joining and of a shift, each accepted (O14, O15). -/

namespace Sys2Proof.Machine

set_option Elab.async false

/-! ### Offers of the Link Controller and of the Plan Store -/

/-- A message of the Link Controller that finds nothing kept and room joins the queue, and nothing is kept. -/
theorem send_offered {m : LinkMessage} {s : State} (hm : isStatus m = false) (hk : s.lc.kept = [])
    (hq : s.mc.queue.length < 8) :
    (send .linkController m s).mc.queue = s.mc.queue ++ [m] ∧ (send .linkController m s).lc.kept = [] := by
  rw [send_room .linkController m s hk hq (by simp [hm])]
  exact ⟨rfl, hk⟩

/-- A plan that R23 lets pass is installed. -/
theorem offerPlan_accepted {p : Pending} {s : State} (h : judgeOffer s.ps s.mp.frame p = none) :
    offerPlan p s = (installPending p s, none) := by
  rw [offerPlan_eq, h]
  rfl

theorem installPending_ps (p : Pending) (s : State) : (installPending p s).ps = { s.ps with pending := some p } := by
  have hcount : (if s.ps.pending.isSome then countLink .pendingDiscards s else s).ps = s.ps := by split <;> rfl
  unfold installPending
  generalize (if s.ps.pending.isSome then countLink .pendingDiscards s else s) = u at hcount
  dsimp only
  split <;> simp [hcount]

theorem judgeOffer_none {ps : PS} {now : FrameNo} {p : Pending} (hwf : p.plan.wellFormed = true)
    (hc : countsWellFormed p.carried = true) (ha : isAhead p.effective now = true)
    (hn : ps.active.flagged = true ∨ p.plan.number = ps.active.number + 1) : judgeOffer ps now p = none := by
  rw [judgeOffer, if_neg (by simp [hwf, hc]), if_neg (by simp [ha]), if_pos hn]

theorem leadHolds_iff {a b : FrameNo} : leadHolds a b = true ↔ 4 ≤ framesAhead a b ∧ framesAhead a b ≤ 32767 := by
  simp [leadHolds]

theorem isAhead_of_lead {a b : FrameNo} (h : leadHolds a b = true) : isAhead a b = true := by
  rw [leadHolds_iff] at h
  simp only [isAhead, Bool.and_eq_true, decide_eq_true_eq]
  omega

/-- Counts that make a well-formed fallback plan make plan 0 well-formed (R67). -/
theorem firstPlan_wellFormed {effective : FrameNo} {counts : PerTenant Nat} (h : countsWellFormed counts = true) :
    (firstPlan effective counts).plan.wellFormed = true := by
  simp only [countsWellFormed, Bool.and_eq_true, decide_eq_true_eq] at h
  simpa [firstPlan, Plan.wellFormed, Plan.inRange, usable] using h

/-! ### Joining -/

theorem takeHello_accepted {role : Byte} {siteId peer : SiteId} {s : State} (hr : s.lc.role = .site)
    (hl : s.lc.link = .search) (hrole : roleOf role = .hub) (hi : identityPasses s.lc.identity siteId peer = true)
    (hlock : s.sf.locked = true) (hbefore : s.sf.lockedBefore = true) (hs : s.lc.stop = none) :
    takeHello role siteId peer s = acceptHello siteId s := by
  simp [takeHello, hr, hl, hrole, hi, hlock, hbefore, hs]

theorem joinOffered_sides (siteId : SiteId) (s : State) : Sides s (joinOffered siteId s) :=
  ((Sides.lc _ s).trans (.mc _ _)).trans (send_sides _ _ _)

theorem acceptHello_sides (siteId : SiteId) (s : State) : Sides s (acceptHello siteId s) := by
  rw [acceptHello_eq]
  exact ((joinOffered_sides siteId s).trans (.lc _ _)).trans (report_sides _ _ _ _)

/-- What a message of the Link Controller leaves of the three records that it may touch. -/
theorem send_linkController {m : LinkMessage} (hm : isStatus m = false) (s : State) :
    ∃ queue kept, (send .linkController m s).mc = { s.mc with queue := queue } ∧
      (send .linkController m s).lc = { s.lc with kept := kept } ∧ (send .linkController m s).st = s.st ∧
      (s.lc.kept = [] → s.mc.queue.length < 8 → queue = s.mc.queue ++ [m] ∧ kept = []) := by
  obtain ⟨hmc, hlc, -, hst, -⟩ := send_only .linkController m s
  exact ⟨_, _, hmc, hlc, hst rfl, send_offered hm⟩

/-- What an accepted HELLO leaves of the Link Controller, the Message Channel and the Self-Test Unit (R66). -/
theorem acceptHello_core (siteId : SiteId) (s : State) :
    ∃ queue kept,
      (acceptHello siteId s).lc =
        { s.lc with link := .join, partner := some siteId,
                    joinRecord := some ⟨frameAdd s.mp.frame s.lc.lead, fallbackCounts s⟩, kept := kept } ∧
      (acceptHello siteId s).mc = { s.mc with repeatHolder := none, queue := queue } ∧
      (acceptHello siteId s).st = s.st ∧
      (s.lc.kept = [] → s.mc.queue.length < 8 →
        queue = s.mc.queue ++ [.join (ownSiteId s) (frameAdd s.mp.frame s.lc.lead)
          ((fallbackCounts s).map (BitVec.ofNat 8))] ∧ kept = []) := by
  obtain ⟨queue, kept, hmc, hlc, hst, hqueue⟩ := send_linkController (m := .join (ownSiteId s)
    (frameAdd s.mp.frame s.lc.lead) ((fallbackCounts s).map (BitVec.ofNat 8))) rfl (clearRepeat (s.modLC fun lc => { lc with
      partner := some siteId, joinRecord := some ⟨frameAdd s.mp.frame s.lc.lead, fallbackCounts s⟩ }))
  have hoffer : joinOffered siteId s = send .linkController (.join (ownSiteId s) (frameAdd s.mp.frame s.lc.lead)
      ((fallbackCounts s).map (BitVec.ofNat 8))) (clearRepeat (s.modLC fun lc => { lc with
        partner := some siteId, joinRecord := some ⟨frameAdd s.mp.frame s.lc.lead, fallbackCounts s⟩ })) := rfl
  rw [acceptHello_eq, hoffer]
  refine ⟨queue, kept, ?_, ?_, ?_, hqueue⟩
  · simp only [reportLink, report_frame, State.modLC_lc, hlc]
    rfl
  · simp only [reportLink, report_frame, State.modLC_mc, hmc]
    rfl
  · refine Eq.trans ?_ hst
    simp [reportLink]

theorem exec_hello_accepted {role : Byte} {siteId peer : SiteId} {s : State} (hc : comesNext (.hello role siteId peer) s)
    (h : takeHello role siteId peer (upFront s) = acceptHello siteId (upFront s)) :
    ∃ counted, exec (.hello role siteId peer) s = .next (settleInbox (nextWaiting s.mc.inbox) counted
      (acceptHello siteId (upFront s))) := by
  obtain ⟨_, _, -, hmc, -⟩ := acceptHello_core siteId (upFront s)
  obtain ⟨counted, e⟩ := dispatchMessage_waiting (act := takeHello role siteId peer) hc (by rw [h, hmc]; rfl)
  exact ⟨counted, by rw [← h]; exact congrArg _ e⟩

/-- The plan of a JOIN installed and answered (R67). -/
def joinAnswered (siteId : SiteId) (effective : FrameNo) (counts : PerTenant Nat) (s : State) : State :=
  send .linkController (.joinAck (ownSiteId s) effective)
    (clearRepeat ((installPending (firstPlan effective counts) s).modLC fun lc => { lc with partner := some siteId }))

theorem takeJoin_accepted {siteId : SiteId} {effective : FrameNo} {counts : PerTenant Nat} {s : State}
    (hr : s.lc.role = .hub) (hl : s.lc.link = .search) (ha : joinAcceptable siteId effective counts s = true)
    (hf : s.ps.active.flagged = true) : takeJoin siteId effective counts s = joinAnswered siteId effective counts s := by
  simp only [joinAcceptable, Bool.and_eq_true] at ha
  obtain ⟨⟨⟨hpeer, hlead⟩, hcounts⟩, hstop⟩ := ha
  have hoffer := offerPlan_accepted (p := firstPlan effective counts) (s := s)
    (judgeOffer_none (firstPlan_wellFormed hcounts) hcounts (isAhead_of_lead hlead) (.inl hf))
  have hown : ownSiteId (installPending (firstPlan effective counts) s) = ownSiteId s := by simp [ownSiteId]
  simp only [takeJoin, hr, hl, if_true]
  rw [takeJoinInSearch_eq, if_pos (by simp only [joinAcceptable, hpeer, hlead, hcounts, hstop, Bool.and_self]), hoffer,
    if_pos rfl, hown]
  rfl

theorem joinAnswered_sides (siteId : SiteId) (effective : FrameNo) (counts : PerTenant Nat) (s : State) :
    Sides s (joinAnswered siteId effective counts s) :=
  (((installPending_sides _ s).trans (.lc _ _)).trans (.mc _ _)).trans (send_sides _ _ _)

/-- What an accepted JOIN leaves (R67). -/
theorem joinAnswered_core (siteId : SiteId) (effective : FrameNo) (counts : PerTenant Nat) (s : State) :
    ∃ queue kept,
      (joinAnswered siteId effective counts s).lc = { s.lc with partner := some siteId, kept := kept } ∧
      (joinAnswered siteId effective counts s).mc = { s.mc with repeatHolder := none, queue := queue } ∧
      (joinAnswered siteId effective counts s).ps = { s.ps with pending := some (firstPlan effective counts) } ∧
      (joinAnswered siteId effective counts s).st = s.st ∧
      (s.lc.kept = [] → s.mc.queue.length < 8 →
        queue = s.mc.queue ++ [.joinAck (ownSiteId s) effective] ∧ kept = []) := by
  obtain ⟨queue, kept, hmc, hlc, hst, hqueue⟩ := send_linkController (m := .joinAck (ownSiteId s) effective) rfl
    (clearRepeat ((installPending (firstPlan effective counts) s).modLC fun lc => { lc with partner := some siteId }))
  refine ⟨queue, kept, hlc.trans ?_, hmc.trans ?_, ?_, hst.trans ?_, ?_⟩
  · simp [clearRepeat]
  · simp [clearRepeat]
  · simp [clearRepeat, joinAnswered, installPending_ps]
  · simp [clearRepeat]
  · simpa [clearRepeat] using hqueue

theorem exec_join_accepted {siteId : SiteId} {effective : FrameNo} {f1 f2 f3 f4 : Byte} {s : State}
    (hc : comesNext (.join siteId effective ⟨f1, f2, f3, f4⟩) s)
    (h : takeJoin siteId effective ⟨f1.toNat, f2.toNat, f3.toNat, f4.toNat⟩ (upFront s) =
      joinAnswered siteId effective ⟨f1.toNat, f2.toNat, f3.toNat, f4.toNat⟩ (upFront s)) :
    ∃ counted, exec (.join siteId effective f1 f2 f3 f4) s = .next (settleInbox (nextWaiting s.mc.inbox) counted
      (joinAnswered siteId effective ⟨f1.toNat, f2.toNat, f3.toNat, f4.toNat⟩ (upFront s))) := by
  obtain ⟨_, _, -, hmc, -⟩ := joinAnswered_core siteId effective ⟨f1.toNat, f2.toNat, f3.toNat, f4.toNat⟩ (upFront s)
  obtain ⟨counted, e⟩ := dispatchMessage_waiting
    (act := takeJoin siteId effective ⟨f1.toNat, f2.toNat, f3.toNat, f4.toNat⟩) hc (by rw [h, hmc]; rfl)
  exact ⟨counted, by rw [← h]; exact congrArg _ e⟩

theorem takeJoinAck_accepted {siteId : SiteId} {j : JoinRecord} {s : State} (h : joinAckInTime siteId j.effective s = true)
    (hj : s.lc.joinRecord = some j) (hc : countsWellFormed j.counts = true) (hf : s.ps.active.flagged = true) :
    takeJoinAck siteId j.effective s = installPending (firstPlan j.effective j.counts) s := by
  have ha : isAhead j.effective s.mp.frame = true := by
    simp only [joinAckInTime, hj, Bool.and_eq_true, Option.any_some] at h
    exact h.2.2
  have hoffer := offerPlan_accepted (p := firstPlan j.effective j.counts) (s := s)
    (judgeOffer_none (firstPlan_wellFormed hc) hc ha (.inl hf))
  simp only [takeJoinAck, h, hj, hoffer, if_true]

theorem exec_joinAck_accepted {siteId : SiteId} {j : JoinRecord} {s : State} (hc : comesNext (.joinAck siteId j.effective) s)
    (h : takeJoinAck siteId j.effective (upFront s) = installPending (firstPlan j.effective j.counts) (upFront s)) :
    ∃ counted, exec (.joinAck siteId j.effective) s = .next (settleInbox (nextWaiting s.mc.inbox) counted
      (installPending (firstPlan j.effective j.counts) (upFront s))) := by
  obtain ⟨counted, e⟩ := dispatchMessage_waiting (act := takeJoinAck siteId j.effective) hc (by rw [h]; simp)
  exact ⟨counted, by rw [← h]; exact congrArg _ e⟩

/-- Settles O14: each message accepted is one operation on the state with the message taken up. -/
theorem joiningFollowsItsSteps : Obligations.JoiningFollowsItsSteps := by
  refine ⟨?_, ?_, ?_⟩
  · intro role siteId peer s hc hr hl hrole hi hlock hbefore hs
    obtain ⟨counted, e⟩ := exec_hello_accepted hc (takeHello_accepted (s := upFront s) hr hl hrole hi hlock hbefore hs)
    obtain ⟨queue, kept, hlc, hmc, hst, hqueue⟩ := acceptHello_core siteId (upFront s)
    obtain ⟨hport, hcounts⟩ := Sides.settled (left := nextWaiting s.mc.inbox) (counted := counted)
      (acceptHello_sides siteId (upFront s))
    refine ⟨_, e, ?_, ?_, ?_, ?_, fun hk hq => ?_, ?_, ?_, hport, hcounts, ?_⟩
    · simp [settleInbox, hlc]
    · simp [settleInbox, hlc]
    · simp [settleInbox, hlc, fallbackCounts]
    · simp [settleInbox, hmc]
    · obtain ⟨rfl, rfl⟩ := hqueue hk hq
      simp [settleInbox, hlc, hmc, fallbackCounts, ownSiteId]
    · simp [settleInbox, hmc]
    · simp [settleInbox, hlc]
    · simp [unchangedBut_iff, settleInbox, hst]
  · intro siteId effective f1 f2 f3 f4 s counts hc hr hl hp hlock hlead hlead' hall hsum hs hf
    have haccept : joinAcceptable siteId effective counts (upFront s) = true := by
      have hl4 : leadHolds effective s.mp.frame = true := leadHolds_iff.2 ⟨hlead, hlead'⟩
      have hwf : countsWellFormed counts = true := by simp only [countsWellFormed, hall, hsum, decide_true, Bool.and_self]
      simp [joinAcceptable, hl4, hwf, hp, hlock, hs]
    obtain ⟨counted, e⟩ := exec_join_accepted hc (takeJoin_accepted (s := upFront s) hr hl haccept hf)
    obtain ⟨queue, kept, hlc, hmc, hps, hst, hqueue⟩ := joinAnswered_core siteId effective ⟨f1.toNat, f2.toNat, f3.toNat, f4.toNat⟩ (upFront s)
    obtain ⟨hport, hcounts⟩ := Sides.settled (left := nextWaiting s.mc.inbox) (counted := counted)
      (joinAnswered_sides siteId effective ⟨f1.toNat, f2.toNat, f3.toNat, f4.toNat⟩ (upFront s))
    refine ⟨_, e, ?_, ?_, ?_, ?_, fun hk hq => ?_, ?_, ?_, hport, hcounts, ?_⟩
    · simpa [settleInbox, hlc] using hl
    · simp [settleInbox, hlc]
    · simp [settleInbox, hps, counts]
    · simp [settleInbox, hmc]
    · obtain ⟨rfl, -⟩ := hqueue hk hq
      simp [settleInbox, hmc, ownSiteId]
    · simp [settleInbox, hlc]
    · simp [settleInbox, joinAnswered, clearRepeat]
    · simp [unchangedBut_iff, settleInbox, hst]
      simp [joinAnswered, clearRepeat]
  · intro siteId j s hc hr hl hs hp hj ha hnone hwf hf
    obtain ⟨counted, e⟩ := exec_joinAck_accepted hc (takeJoinAck_accepted (s := upFront s)
      (by simp [joinAckInTime, hr, hl, hs, hp, hj, ha, hnone]) hj hwf hf)
    obtain ⟨hport, hcounts⟩ := Sides.settled (left := nextWaiting s.mc.inbox) (counted := counted)
      (installPending_sides (firstPlan j.effective j.counts) (upFront s))
    refine ⟨_, e, by simp [settleInbox, installPending_ps], by simp [settleInbox], by simp [settleInbox], hport, hcounts, ?_⟩
    simp [unchangedBut_iff, settleInbox]

/-! ### SHIFT and SHIFT_ACK -/

/-- The first failing check of R77, in the rule's order. -/
theorem judgeShift_some_iff {p : Pending} {s : State} {reason : Byte} :
    judgeShift p s = some reason ↔
      if ¬ (s.ps.active.flagged = true ∨ p.plan.number = s.ps.active.number + 1) then reason = nakPlanNumber
      else if ¬ (4 ≤ framesAhead p.effective s.mp.frame ∧ framesAhead p.effective s.mp.frame ≤ 32767) then reason = nakLate
      else if ¬ (p.plan.wellFormed = true ∧ countsWellFormed p.carried = true) then reason = nakMalformed
      else s.lc.hostMax < p.plan.profile ∧ reason = nakProfile := by
  unfold judgeShift
  simp only [leadHolds_iff]
  split
  · exact Option.some_inj.trans eq_comm
  split
  · exact Option.some_inj.trans eq_comm
  split
  · exact Option.some_inj.trans eq_comm
  split
  · next h => exact ⟨fun e => ⟨h, (Option.some_inj.1 e).symm⟩, fun e => congrArg some e.2.symm⟩
  · next h => exact ⟨fun e => (by cases e), fun e => absurd e.1 h⟩

/-- A SHIFT that passes the checks of R77. -/
theorem judgeShift_none_iff {p : Pending} {s : State} :
    judgeShift p s = none ↔ (s.ps.active.flagged = true ∨ p.plan.number = s.ps.active.number + 1) ∧
      (4 ≤ framesAhead p.effective s.mp.frame ∧ framesAhead p.effective s.mp.frame ≤ 32767) ∧
      (p.plan.wellFormed = true ∧ countsWellFormed p.carried = true) ∧ p.plan.profile ≤ s.lc.hostMax := by
  unfold judgeShift
  simp only [leadHolds_iff]
  split
  · next h => exact ⟨fun e => (by cases e), fun e => absurd e.1 h⟩
  next h1 =>
  split
  · next h => exact ⟨fun e => (by cases e), fun e => absurd e.2.1 h⟩
  next h2 =>
  split
  · next h => exact ⟨fun e => (by cases e), fun e => absurd e.2.2.1 h⟩
  next h3 =>
  split
  · next h => exact ⟨fun e => (by cases e), fun e => absurd h (Nat.not_lt.2 e.2.2.2)⟩
  · next h4 => exact ⟨fun _ => ⟨Classical.not_not.1 h1, Classical.not_not.1 h2, Classical.not_not.1 h3, Nat.not_lt.1 h4⟩, fun _ => rfl⟩

/-- The SHIFT installed and acknowledged, the link in SHIFT (R77); `takeShift_accepted` ties it to the model. -/
def shiftAnswered (p : Pending) (s : State) : State :=
  let t := countLink .acksSent (send .linkController (.shiftAck p.plan.number) (installPending p s))
  if t.lc.link = .up then reportLink .up .shiftBegin 0 (t.modLC fun lc => { lc with link := .shift }) else t

theorem takeShift_accepted {p : Pending} {s : State} (hr : s.lc.role = .hub) (hl : inPair s.lc.link = true)
    (hs : s.lc.stop = none) (hj : judgeShift p s = none) : takeShift p s = shiftAnswered p s := by
  obtain ⟨hnumber, htime, ⟨hwf, hcounts⟩, -⟩ := judgeShift_none_iff.1 hj
  have hoffer := offerPlan_accepted (judgeOffer_none hwf hcounts (isAhead_of_lead (leadHolds_iff.2 htime)) hnumber)
  rw [takeShift_eq, if_pos ⟨hr, hl, hs⟩, hj, hoffer]
  rfl

theorem takeShift_refused {p : Pending} {s : State} {reason : Byte} (hr : s.lc.role = .hub) (hl : inPair s.lc.link = true)
    (hs : s.lc.stop = none) (hj : judgeShift p s = some reason) : takeShift p s = sendNak p.plan.number reason s := by
  rw [takeShift_eq, if_pos ⟨hr, hl, hs⟩, hj]

theorem sendNak_sides (number reason : Byte) (s : State) : Sides s (sendNak number reason s) :=
  (send_sides _ _ s).trans (countLink_sides _ _)

theorem shiftAnswered_sides (p : Pending) (s : State) : Sides s (shiftAnswered p s) := by
  have h : Sides s (countLink .acksSent (send .linkController (.shiftAck p.plan.number) (installPending p s))) :=
    ((installPending_sides p s).trans (send_sides _ _ _)).trans (countLink_sides _ _)
  exact .of_ite (fun _ => (h.trans (.lc _ _)).trans (report_sides _ _ _ _)) fun _ => h

/-- What a refused SHIFT leaves (R77). -/
theorem sendNak_core (number reason : Byte) (s : State) :
    ∃ queue kept, (sendNak number reason s).mc = { s.mc with queue := queue } ∧
      (sendNak number reason s).lc = { s.lc with kept := kept } ∧ (sendNak number reason s).st = s.st ∧
      (s.lc.kept = [] → s.mc.queue.length < 8 → queue = s.mc.queue ++ [.shiftNak number reason] ∧ kept = []) :=
  send_linkController rfl s

/-- What an accepted SHIFT leaves (R77). -/
theorem shiftAnswered_core {p : Pending} {s : State} (hl : inPair s.lc.link = true) :
    ∃ queue kept,
      (s.lc.kept = [] → s.mc.queue.length < 8 → queue = s.mc.queue ++ [.shiftAck p.plan.number] ∧ kept = []) ∧
      (shiftAnswered p s).mc = { s.mc with queue := queue } ∧
      (shiftAnswered p s).lc = { s.lc with link := .shift, kept := kept } ∧
      (shiftAnswered p s).ps = { s.ps with pending := some p } ∧ (shiftAnswered p s).tn.free = s.tn.free ∧
      unchangedBut [.ps, .mc, .lc, .tn, .cb, .cp] s (shiftAnswered p s) := by
  obtain ⟨queue, kept, hmc, hlc, hst, hqueue⟩ :=
    send_linkController (m := .shiftAck p.plan.number) rfl (installPending p s)
  simp only [installPending_frame] at hmc hlc hst hqueue
  refine ⟨queue, kept, hqueue, ?_⟩
  unfold shiftAnswered
  dsimp only
  split
  · simp [reportLink, hmc, hlc, hst, installPending_ps, unchangedBut_iff]
  · next hup =>
    have hshift : s.lc.link = .shift := by
      simp only [countLink_frame, hlc] at hup
      cases h : s.lc.link <;> simp_all [inPair]
    simp [hmc, hlc, hst, installPending_ps, unchangedBut_iff, ← hshift]

theorem takeShiftAck_named {p : Proposal} {s : State} (h : namedProposal p.number s = some p) :
    (ackInTime p.effective s.mp.frame = true →
      takeShiftAck p.number s = if s.ps.pending.any fun q => q.mark == .no then confirmPending s else s) ∧
    (ackInTime p.effective s.mp.frame = false →
      takeShiftAck p.number s =
        countLink .lateAcks (s.modLC fun lc => { lc with proposal := some { p with lateAck := true } })) := by
  unfold takeShiftAck
  rw [h]
  exact ⟨fun ht => if_pos ht, fun ht => if_neg (by simp [ht])⟩

theorem exec_shift {number profile test n1 n2 n3 n4 f1 f2 f3 f4 : Byte} {effective : FrameNo} {s u : State} {p : Pending}
    (hc : comesNext (.shift number profile test ⟨n1, n2, n3, n4⟩ ⟨f1, f2, f3, f4⟩ effective) s)
    (hp : p =
      { plan := { number := number, profile := profile.toNat, test := test.toNat,
                  counts := ⟨n1.toNat, n2.toNat, n3.toNat, n4.toNat⟩, flagged := false },
        effective := effective, carried := ⟨f1.toNat, f2.toNat, f3.toNat, f4.toNat⟩, confirmed := true, mark := .no })
    (hu : takeShift p (upFront s) = u) (hin : u.mc.inbox = s.mc.inbox.drop 1) :
    ∃ counted, exec (.shift number profile test n1 n2 n3 n4 f1 f2 f3 f4 effective) s =
      .next (settleInbox (nextWaiting s.mc.inbox) counted u) := by
  subst hp hu
  obtain ⟨counted, e⟩ := dispatchMessage_waiting (act := takeShift _) hc hin
  exact ⟨counted, congrArg _ e⟩

theorem exec_shiftAck {p : Proposal} {s u : State} (hc : comesNext (.shiftAck p.number) s)
    (hu : takeShiftAck p.number (upFront s) = u) (hin : u.mc.inbox = s.mc.inbox.drop 1) :
    ∃ counted, exec (.shiftAck p.number) s = .next (settleInbox (nextWaiting s.mc.inbox) counted u) := by
  subst hu
  obtain ⟨counted, e⟩ := dispatchMessage_waiting (act := takeShiftAck p.number) hc hin
  exact ⟨counted, congrArg _ e⟩

/-- Settles O15: SHIFT by the outcome of `judgeShift`, SHIFT_ACK by whether it is in time. -/
theorem shiftIsAnsweredAndConfirmed : Obligations.ShiftIsAnsweredAndConfirmed := by
  refine ⟨?_, ?_⟩
  · intro number profile test n1 n2 n3 n4 f1 f2 f3 f4 effective s p numberFits inTime wellFormed hc hr hl hs
    obtain ⟨q, hq⟩ : ∃ q, q = p := ⟨_, rfl⟩
    cases hj : judgeShift q (upFront s) with
    | none =>
      obtain ⟨queue, kept, hqueue, hmc, hlc, hps, hfree, hbut⟩ := shiftAnswered_core (p := q) (s := upFront s) hl
      obtain ⟨counted, e⟩ := exec_shift hc hq (takeShift_accepted (s := upFront s) hr hl hs hj) (by rw [hmc]; rfl)
      obtain ⟨hport, hcounts⟩ := Sides.settled (left := nextWaiting s.mc.inbox) (counted := counted)
        (shiftAnswered_sides q (upFront s))
      subst hq
      refine ⟨_, e, fun _ _ _ _ => ⟨?_, ?_, fun hk hq => ?_⟩, fun reason hreason => ?_, ?_, ?_, hport, hcounts, ?_⟩
      · simp [settleInbox, hps]
      · simp [settleInbox, hlc]
      · obtain ⟨rfl, -⟩ := hqueue hk hq
        simp [settleInbox, hmc, p]
      · have hsome : judgeShift p (upFront s) = some reason := judgeShift_some_iff.2 hreason
        rw [hj] at hsome
        cases hsome
      · simp [settleInbox, hlc]
      · simp [settleInbox, hfree]
      · simpa [unchangedBut_iff, settleInbox] using hbut
    | some r =>
      obtain ⟨queue, kept, hmc, hlc, hst, hqueue⟩ := sendNak_core q.plan.number r (upFront s)
      obtain ⟨counted, e⟩ := exec_shift hc hq (takeShift_refused (s := upFront s) hr hl hs hj) (by rw [hmc]; rfl)
      obtain ⟨hport, hcounts⟩ := Sides.settled (left := nextWaiting s.mc.inbox) (counted := counted)
        (sendNak_sides q.plan.number r (upFront s))
      subst hq
      refine ⟨_, e, fun h1 h2 h3 h4 => ?_, fun reason hreason => ?_, ?_, ?_, hport, hcounts, ?_⟩
      · have hnone : judgeShift p (upFront s) = none := judgeShift_none_iff.2 ⟨h1, h2, h3, h4⟩
        rw [hnone] at hj
        cases hj
      · have hsame : judgeShift p (upFront s) = some reason := judgeShift_some_iff.2 hreason
        rw [hj] at hsame
        cases hsame
        refine ⟨?_, ?_, ?_, fun hk hq => ?_⟩
        · simp [settleInbox, sendNak]
        · simp [settleInbox, hlc]
        · simp [settleInbox, sendNak]
        · obtain ⟨rfl, -⟩ := hqueue hk hq
          simp [settleInbox, hmc, p]
      · simp [settleInbox, hlc]
      · simp [settleInbox, sendNak]
      · simp [unchangedBut_iff, settleInbox, hst]
  · intro p s hc hr hl hs hp
    obtain ⟨hin, hlate⟩ := takeShiftAck_named (namedProposal_some (s := upFront s) hr hl hs hp)
    cases ht : isAtOrAfter (p.effective - 4) s.mp.frame with
    | true =>
      obtain ⟨counted, e⟩ := exec_shiftAck hc (hin ht) (by split <;> rfl)
      refine ⟨_, e, fun q _ hq hm => ?_, fun h => (by cases h), ?_, ?_, ?_⟩
      · simp [settleInbox, hq, hm, confirmPending]
      · split <;> rfl
      · split <;> exact rfl
      · split <;> simp [unchangedBut_iff, settleInbox, confirmPending]
    | false =>
      obtain ⟨counted, e⟩ := exec_shiftAck hc (hlate ht) rfl
      exact ⟨_, e, fun q h => (by cases h), fun _ => ⟨rfl, rfl⟩, rfl, rfl, by simp [unchangedBut_iff, settleInbox]⟩

end Sys2Proof.Machine


/-! PROOF The changes of the active plan: the plans that are due, and the pending plan (O10, O23). -/

namespace Sys2Proof.Machine

set_option Elab.async false

/-! ### What an allocation leaves of the Modem Port and of the time since the change -/

/-- An allocation, the steps it takes, and the reports it brings touch neither the Modem Port nor the frames counted since the
last change of plan. -/
def AllocStands (s t : State) : Prop := t.mp = s.mp ∧ t.lc.sinceChange = s.lc.sinceChange

namespace AllocStands

variable {s t u : State}

theorem refl : AllocStands s s := ⟨rfl, rfl⟩

theorem trans (h1 : AllocStands s t) (h2 : AllocStands t u) : AllocStands s u := ⟨h2.1.trans h1.1, h2.2.trans h1.2⟩

theorem of_ite {c : Prop} [Decidable c] {a b : State} (ha : c → AllocStands s a) (hb : ¬ c → AllocStands s b) :
    AllocStands s (if c then a else b) := by
  split
  · next h => exact ha h
  · next h => exact hb h

theorem tm (f : TM → TM) (s : State) : AllocStands s (s.modTM f) := ⟨rfl, rfl⟩

theorem report (kind : ReportKind) (subject : Nat) (detail : List Byte) (s : State) :
    AllocStands s (report kind subject detail s) := ⟨by simp, by simp⟩

end AllocStands

theorem send_stands (p : Producer) (m : LinkMessage) (s : State) : AllocStands s (send p m s) := by
  obtain ⟨-, hlc, -⟩ := send_only p m s
  exact ⟨by simp, by rw [hlc]⟩

theorem tryDone_stands (s : State) : AllocStands s (tryDone s) := by
  obtain ⟨-, -, hmp, -, hlc, -⟩ := tryDone_st s
  exact ⟨hmp, by rw [hlc]⟩

/-- The end of a test without a loopback (R156). -/
theorem stopTest_stands {s : State} (h : s.st.kind ≠ some .loop) (v : Option TestOutcome) (o a : Bool) :
    AllocStands s (stopTest v o a s) := by
  have hstopped : AllocStands s (testStopped v a s) := by
    unfold testStopped
    exact .of_ite (fun e => absurd (by simpa using e) h) fun _ => ⟨rfl, rfl⟩
  rw [stopTest_eq_tryDone]
  refine AllocStands.trans ?_ (tryDone_stands _)
  exact .of_ite (fun _ => hstopped.trans (send_stands _ _ _)) fun _ => hstopped

theorem roomAbort_stands (s : State) : AllocStands s (roomAbort s) := by
  unfold roomAbort
  exact .of_ite (fun h => stopTest_stands (s := countLink .roomAborts s) h.1 _ _ _) fun _ => ⟨rfl, rfl⟩

theorem propose_stands (c : Candidate) (s : State) : AllocStands s (propose c s).1 := by
  have hoffer : ∀ f : LC → LC, (∀ lc, (f lc).sinceChange = lc.sinceChange) →
      AllocStands s ((offerPlan (proposalOf c s) s).1.modLC f) := fun f hf => ⟨by simp, by simp [hf]⟩
  rw [propose_eq]
  split
  · split
    · have hsend := (hoffer (fun lc => { lc with proposal := some (Proposal.mk (proposalOf c s).plan.number
        (proposalOf c s).effective false) }) fun _ => rfl).trans (send_stands .linkController (shiftMessage (proposalOf c s)) _)
      exact hsend.trans ⟨by simp [reportLink], by simp [reportLink]⟩
    · exact hoffer _ fun _ => rfl
  · exact .refl

theorem allocateOnce_stands (cause : AllocCause) (target : Nat) (s : State) :
    AllocStands s (allocateOnce cause target s) := by
  rw [allocateOnce_eq]
  have hroom : AllocStands s (if roomFails (allocInput s) (min target (ceiling s)) s.st.reqTest then roomAbort s else s) :=
    .of_ite (fun _ => roomAbort_stands s) fun _ => .refl
  generalize (if roomFails (allocInput s) (min target (ceiling s)) s.st.reqTest then roomAbort s else s) = u at hroom ⊢
  exact .of_ite (fun _ => .of_ite (fun _ => hroom.trans (propose_stands _ _)) fun _ => hroom.trans (propose_stands _ _))
    fun _ => hroom

theorem allocate_stands (cause : AllocCause) (target : Nat) (s : State) : AllocStands s (allocate cause target s) := by
  unfold allocate
  have h := allocateOnce_stands cause target s
  exact .of_ite (fun _ => .of_ite (fun _ => h.trans (allocateOnce_stands _ _ _)) fun _ => h) fun _ => h

theorem trigger_stands (cause : AllocCause) (s : State) : AllocStands s (trigger cause s) := by
  unfold trigger
  split
  · exact .refl
  · exact .of_ite (fun _ => allocate_stands _ _ s) fun _ => .refl

theorem serveWaiting_stands (s : State) : AllocStands s (serveWaiting s) := by
  unfold serveWaiting
  exact .of_ite (fun _ => allocate_stands _ _ s) fun _ => .refl

theorem withTestTrigger_stands {f : State → State} {s : State} (h : AllocStands s (f s)) :
    AllocStands s (withTestTrigger f s) := by
  unfold withTestTrigger
  exact .of_ite (fun _ => h.trans (trigger_stands _ _)) fun _ => h

theorem testPlanChange_stands (old : Plan) (s : State) : AllocStands s (testPlanChange old s) := by
  unfold testPlanChange
  refine AllocStands.trans (.of_ite (fun h => .of_ite (fun _ => ?_) fun _ => ?_) fun _ => ?_) (tryDone_stands _)
  · exact stopTest_stands (by rw [h.1]; decide) _ _ _
  · exact .of_ite (fun _ => ⟨rfl, rfl⟩) fun _ => .refl
  · exact .of_ite (fun _ => ⟨rfl, rfl⟩) fun _ => .refl

theorem testPlanChange_test (old : Plan) (s : State) : (testPlanChange old s).st.test = s.st.test := by
  unfold testPlanChange
  simp only [tryDone_frame_2, apply_ite State.st, apply_ite ST.test, abortTest_frame_4, State.modST_st,
    beginStage, ite_self]

/-! ### The plans that are due -/

/-- A change of the active plan that is neither the pending plan's nor an adoption leaves the link (R26). -/
theorem linkPlanChange_stays {cause : PlanCause} (h : ¬ (cause = .effective ∨ cause = .adopted)) (s : State) :
    linkPlanChange cause s = s.modLC fun lc => { lc with sinceChange := 0 } := by
  rw [linkPlanChange_eq]
  exact if_neg h

/-- What such a change leaves of the Modem Port, the Slot Framer and the test's T. -/
theorem notifyPlan_stays {cause : PlanCause} (h : ¬ (cause = .effective ∨ cause = .adopted)) (old : Plan) (s : State) :
    (notifyPlan cause old s).mp = s.mp ∧ (notifyPlan cause old s).sf = s.sf ∧
      (notifyPlan cause old s).st.test = s.st.test := by
  obtain ⟨hmp, -⟩ := withTestTrigger_stands (testPlanChange_stands old (closeEval s))
  simp [notifyPlan, linkPlanChange_stays h, hmp, testPlanChange_test]

theorem makeActive_plans (new : Plan) (cause : PlanCause) (s : State) :
    (makeActive new cause s).ps.active = new ∧ (makeActive new cause s).ps.previous = some s.ps.active := by
  simp [makeActive]

/-- The idle plan, when it is due (R22). -/
theorem takeIdle_plans (s : State) : (takeIdle s).ps.active = Plan.flaggedIdle ∧
    (takeIdle s).ps.fallback = Plan.flaggedIdle ∧ (takeIdle s).ps.idleDue = .no ∧ (takeIdle s).mp = s.mp ∧
    (takeIdle s).st.test = s.st.test := by
  obtain ⟨hmp, -, htest⟩ := notifyPlan_stays (cause := .idle) (by decide) s.ps.active (s.modPS fun ps =>
    { ps with idleDue := .no, previous := none, fallback := Plan.flaggedIdle, active := Plan.flaggedIdle })
  unfold takeIdle
  dsimp only
  split
  · simp
  · simp [hmp, htest]

theorem takeFallback_same {s : State} (h : s.ps.active = s.ps.fallback) :
    takeFallback s = s.modPS fun ps => { ps with fallbackDue := .no } := if_pos h

theorem takeFallback_other {s : State} (h : s.ps.active ≠ s.ps.fallback) :
    takeFallback s = makeActive s.ps.fallback .fallback (s.modPS fun ps => { ps with fallbackDue := .no }) := if_neg h

/-- The plan that the loopback switch brings (R35). -/
theorem loopPlansTaken_plans (s : State) :
    (loopPlansTaken s).mp.loopback = s.mp.loopSwitch ∧ (loopPlansTaken s).sf.locked = false ∧
      (loopPlansTaken s).sf.goodRun = 0 ∧ (loopPlansTaken s).sf.missRun = 0 ∧
      (s.mp.loopSwitch = true → (loopPlansTaken s).ps.active = loopPlan (s.st.test.getD 0)) ∧
      (s.mp.loopSwitch = false → (loopPlansTaken s).ps.active = s.ps.fallback) ∧
      (loopPlansTaken s).ps.fallback = s.ps.fallback ∧ (loopPlansTaken s).ps.previous = some s.ps.active := by
  have hsf : ∀ new cause (u : State), ¬ (cause = PlanCause.effective ∨ cause = .adopted) →
      (makeActive new cause u).sf = u.sf := fun new cause u h => (notifyPlan_stays h _ _).2.1
  unfold loopPlansTaken
  split
  · next hon => simp [hsf, makeActive_plans, loopSwitched, hon]
  · next hoff => simp [hsf, makeActive_plans, loopSwitched, hoff]

/-- Settles O10: each of the three steps makes its plan active by `makeActive` or `takeIdle`. -/
theorem duePlansBecomeActive : Obligations.DuePlansBecomeActive := by
  refine ⟨fun s hdue => ?_, fun s => ⟨fun hdue => ?_, fun hdue => ?_⟩⟩
  · have e : exec .loopbackSwitchEffect s = .next (takeLoopSwitch s) := congrArg _ (atBoundary_now (by simp [hdue]))
    have hsides := takeLoopSwitch_sides s
    obtain ⟨w, hw⟩ : ∃ w, w = if s.ps.idleDue = .now then takeIdle s else s := ⟨_, rfl⟩
    have hstays : w.mp = s.mp ∧ w.st.test = s.st.test ∧ (s.ps.idleDue ≠ .now → w = s) := by
      obtain ⟨-, -, -, hmp, htest⟩ := takeIdle_plans s
      rw [hw]
      split
      · next h => exact ⟨hmp, htest, fun hn => absurd h hn⟩
      · exact ⟨rfl, rfl, fun _ => rfl⟩
    obtain ⟨hmp, htest, hsame⟩ := hstays
    obtain ⟨hloop, hlocked, hgood, hmiss, hon, hoff, hfallback, hprevious⟩ := loopPlansTaken_plans w
    have heq : takeLoopSwitch s = loopPlansTaken w := by rw [takeLoopSwitch_eq, hw]
    rw [hmp] at hloop hon hoff
    rw [← heq] at hloop hlocked hgood hmiss hon hoff hfallback hprevious
    refine ⟨_, e, hloop, hlocked, hgood, hmiss, fun h => ?_, fun h => ?_, fun h => ?_, ?_⟩
    · rw [hon h, htest]
    · rw [hoff h, hfallback]
    · rw [hprevious, hfallback, hsame h]
      exact ⟨rfl, rfl⟩
    · simp [hsides.port, hsides.counts]
  · have e : exec .fallbackActivation s = .next (takeFallback s) := congrArg _ (atBoundary_now (by simp [hdue]))
    have hsides := takeFallback_sides s
    refine ⟨_, e, ?_, by simp, fun h => ?_, fun h => ?_, by simp [hsides.port, hsides.counts]⟩
    · by_cases h : s.ps.active = s.ps.fallback
      · rw [takeFallback_same h, ← h]
        rfl
      · rw [takeFallback_other h, (makeActive_plans _ _ _).1]
    · rw [takeFallback_other h, (makeActive_plans _ _ _).2]
      rfl
    · rw [takeFallback_same h]
      rfl
  · have e : exec .idleReturn s = .next (takeIdle s) := congrArg _ (atBoundary_now (by simp [hdue]))
    obtain ⟨hactive, hfallback, hidle, hmp, -⟩ := takeIdle_plans s
    exact ⟨_, e, hactive, hfallback, hidle, by simp [(takeIdle_sides s).port, (takeIdle_sides s).counts]⟩

/-! ### The pending plan -/

theorem syncAll_stands (s : State) : AllocStands s (syncAll s) := by
  have hif : ∀ cause flag (u : State), AllocStands u (triggerIf cause flag u) := fun cause flag u =>
    .of_ite (fun _ => trigger_stands cause u) fun _ => .refl
  have hsync : AllocStands s (evalSync .t4 (evalSync .t3 (evalSync .t2 (evalSync .t1 s).1).1).1).1 := ⟨by simp, by simp⟩
  rw [syncAll_eq]
  exact (((hsync.trans (hif _ _ _)).trans (hif _ _ _)).trans (hif _ _ _)).trans (hif _ _ _)

theorem setTiming_stands (new : TimingState) (cause : TimingCause) (s : State) : AllocStands s (setTiming new cause s) := by
  have h := syncAll_stands ((s.modTM fun tm => { tm with state := new, goodRun := 0, largeRun := 0 }).modTM fun tm =>
    { tm with pps := tm.pps && pulsing tm })
  exact ((AllocStands.tm _ s).trans ((AllocStands.tm _ _).trans h)).trans (.report _ _ _ _)

theorem enterHoldover_stands (cause : TimingCause) (s : State) : AllocStands s (enterHoldover cause s) :=
  (AllocStands.tm _ s).trans (setTiming_stands _ _ _)

theorem timingLinkUp_stands (s : State) : AllocStands s (timingLinkUp s) := by
  unfold timingLinkUp
  split
  · exact .refl
  · exact .of_ite (fun _ => (AllocStands.tm _ s).trans (setTiming_stands _ _ _)) fun _ => .tm _ s

theorem timingLinkDown_stands (s : State) : AllocStands s (timingLinkDown s) := by
  unfold timingLinkDown
  dsimp only
  split
  · exact (AllocStands.tm _ s).trans (setTiming_stands _ _ _)
  · exact (AllocStands.tm _ s).trans (enterHoldover_stands _ _)
  · exact .tm _ s

theorem testLinkDown_stands (b : Bool) (s : State) : AllocStands s (testLinkDown b s) := by
  unfold testLinkDown
  exact .of_ite (fun h => stopTest_stands (s := s.modST fun st => { st with responder := none }) h.1 _ _ _) fun _ => .refl

theorem enterLost_stands (cause : LinkCause) (s : State) : AllocStands s (enterLost cause s) := by
  have h1 : AllocStands s (linkLost cause s) := ⟨by simp [linkLost, reportLink], by simp [linkLost, reportLink]⟩
  have h2 : AllocStands s (if inPair s.lc.link then timingLinkDown (linkLost cause s) else linkLost cause s) :=
    .of_ite (fun _ => h1.trans (timingLinkDown_stands _)) fun _ => h1
  have h3 : ∀ u : State, AllocStands u (proposalLost u) := fun u => by
    unfold proposalLost
    split
    · exact ⟨by simp, by rw [failShift_lc]⟩
    · exact .refl
  rw [enterLost_eq]
  exact (h2.trans (h3 _)).trans (withTestTrigger_stands ((testLinkDown_stands true _).trans (tryDone_stands _)))

theorem enterUp_stands (cause : LinkCause) (s : State) : AllocStands s (enterUp cause s) := by
  have hup : AllocStands s (reportLink s.lc.link cause 0 (((s.modLC fun lc =>
      { lc with link := .up, farFast := 0, farSlow := 0, farHold := PerTenant.const false, joinRecord := none,
                lostCount := none }).modSF fun sf => { sf with regainRun := none }).modCA fun ca =>
      { ca with farDemands := PerTenant.const 0 })) := ⟨by simp [reportLink], by simp [reportLink]⟩
  have hclose : ∀ u : State, AllocStands u (closeEval u) := fun u => ⟨by simp, by simp⟩
  have h : AllocStands s (linkUp cause s) := (hup.trans (timingLinkUp_stands _)).trans (hclose _)
  rw [enterUp_eq]
  exact .of_ite (fun _ => h.trans (enterLost_stands _ _)) fun _ => h.trans (serveWaiting_stands _)

theorem shiftAccepted_stands (s : State) : AllocStands s (shiftAccepted s) := by
  have hend : ∀ u : State, AllocStands u (endShift true u) := fun u =>
    .of_ite (fun _ => ⟨by simp [reportLink], by simp [reportLink]⟩) fun _ => .refl
  unfold shiftAccepted
  split
  · exact hend (countLink .shiftsAccepted
      (s.modLC fun lc => { lc with proposal := none, failures := 0, freeNotice := .next, resolvedHere := true }))
  · exact hend s

theorem linkPlanChange_since (cause : PlanCause) (s : State) : (linkPlanChange cause s).lc.sinceChange = 0 := by
  have h := (shiftAccepted_stands (s.modLC fun lc => { lc with sinceChange := 0 })).2
  rw [linkPlanChange_eq]
  dsimp only
  split
  · split
    · exact (enterUp_stands _ _).2.trans h
    · exact h
  · rfl

/-- The shift ends with the link in UP (R79, R80). -/
theorem linkPlanChange_shift {cause : PlanCause} {s : State} (hc : cause = .effective ∨ cause = .adopted)
    (hl : s.lc.link = .shift) (hs : s.lc.stop = none) : (linkPlanChange cause s).lc.link = .up := by
  have hup : (shiftAccepted (s.modLC fun lc => { lc with sinceChange := 0 })).lc.link = .up := by
    unfold shiftAccepted
    split
    · rw [endShift_shift (by simpa using hl) (by simpa using hs)]
    · rw [endShift_shift (by simpa using hl) (by simpa using hs)]
  rw [linkPlanChange_eq]
  dsimp only
  rw [if_pos hc, if_neg, hup]
  simp only [joinsBy, hup]
  cases (shiftAccepted (s.modLC fun lc => { lc with sinceChange := 0 })).lc.role <;> simp

theorem exec_activation {p : Pending} {c : Instr} {s : State} (hp : s.ps.pending = some p)
    (hc : (c = .planActivation ∧ p.confirmed = true ∧ p.effective = s.mp.frame) ∨
      (c = .adoptedActivation ∧ p.mark = .now)) :
    ∃ cause, (cause = .effective ∨ cause = .adopted) ∧ exec c s = .next (notifyPlan cause s.ps.active
      ((activationCounted cause s).modPS (PS.activated p))) := by
  rcases hc with ⟨rfl, hconf, heff⟩ | ⟨rfl, hmark⟩
  · refine ⟨.effective, .inl rfl, ?_⟩
    rw [← activatePending_some hp]
    exact congrArg _ (atBoundary_now (by simp [activationDue, hp, hconf, heff]))
  · refine ⟨.adopted, .inr rfl, ?_⟩
    rw [← activatePending_some hp]
    exact congrArg _ (atBoundary_now (by simp [adoptionDue, hp, hmark]))

/-- Settles O23: both activations notify the change to the pending plan. -/
theorem pendingPlanBecomesActive : Obligations.PendingPlanBecomesActive := by
  intro p s hp c hc
  obtain ⟨cause, hcause, e⟩ := exec_activation hp hc
  obtain ⟨u, hu⟩ : ∃ u, u = (activationCounted cause s).modPS (PS.activated p) := ⟨_, rfl⟩
  have hsides : Sides s (notifyPlan cause s.ps.active u) := by
    rw [hu]
    exact ((activationCounted_sides cause s).trans (.ps _ _)).trans (notifyPlan_sides _ _ _)
  have hsince : (notifyPlan cause s.ps.active u).lc.sinceChange = 0 := by
    simp [notifyPlan, linkPlanChange_since]
  have hups : u.ps = PS.activated p s.ps := by rw [hu]; simp
  have hlink : s.lc.link = .shift → s.lc.stop = none → (notifyPlan cause s.ps.active u).lc.link = .up := fun hl hs => by
    have hlc : (withTestTrigger (testPlanChange s.ps.active) (closeEval u)).lc.link = .shift := by
      rw [(withTestTrigger_notUp (testPlanChange s.ps.active) (closeEval u) (by simp [hu, hl])).lc]
      simp [hu, hl]
    simp only [notifyPlan, report_frame]
    exact linkPlanChange_shift hcause hlc (by simp [hu, hs])
  rw [← hu] at e
  refine ⟨_, e, by simp [hups, PS.activated], by simp [hups, PS.activated], by simp [hups, PS.activated, fallbackPlan], hsince,
    hlink, ?_⟩
  rw [hu] at hsides ⊢
  simp [hsides.port, hsides.counts]

end Sys2Proof.Machine


/-! PROOF The entries to SEARCH: BYE, the timeouts, and a partner that restarts (O17, O24). -/

namespace Sys2Proof.Machine

set_option Elab.async false

/-! ### The messages left behind -/

/-- An entry to SEARCH on a message's dispatch is that of a boundary with the messages behind it dropped (R56). -/
theorem enterSearch_dispatch (cause : LinkCause) (extra : Byte) (s : State) :
    enterSearch cause extra .dispatch s = dropInbox (enterSearch cause extra .boundary s) := by
  have hframe : (EntryKind.dispatch == .request) = (EntryKind.boundary == .request) := rfl
  unfold enterSearch
  dsimp only
  rw [linkDownNeighbours_eq, linkDownNeighbours_eq, hframe]
  dsimp only
  rw [if_pos rfl, if_neg (by decide)]

theorem enterSearch_inbox (cause : LinkCause) (extra : Byte) (s : State) :
    (enterSearch cause extra .boundary s).mc.inbox = s.mc.inbox := by
  have hdown : ∀ old (u : State), (unitsLinkDown old u).mc.inbox = u.mc.inbox := fun old u => by
    unfold unitsLinkDown
    split <;> simp
  unfold enterSearch
  dsimp only
  rw [linkDownNeighbours_eq]
  simp [hdown, reportLink]

theorem channelCount_countChannel (c : ChannelCounter) (s : State) :
    channelCount c (countChannel c s) = (channelCount c s).map satInc := by
  simp [channelCount, countChannel, bumpAt]

/-- Counting depends on the counter alone. -/
theorem channelCount_countTimes {c : ChannelCounter} {s t : State} (h : channelCount c s = channelCount c t) (n : Nat) :
    channelCount c (countTimes (countChannel c) n s) = channelCount c (countTimes (countChannel c) n t) := by
  induction n generalizing s t with
  | zero => exact h
  | succ n ih => exact ih (by rw [channelCount_countChannel, channelCount_countChannel, h])

theorem channelCount_countTimes_other {c d : ChannelCounter} (h : c ≠ d) (n : Nat) (s : State) :
    channelCount d (countTimes (countChannel c) n s) = channelCount d s := by
  induction n generalizing s with
  | zero => rfl
  | succ n ih => exact (ih _).trans (bumpAt_other fun e => h (ctorIdx_injective e))

/-- Dropping what waits of the area of the message dispatched leaves it counted as not dispatched, and as that alone. -/
theorem dropInbox_restNotDispatched {s u : State} (h : Sides (upFront s) u) (hin : u.mc.inbox = s.mc.inbox.drop 1) :
    restNotDispatched s (dropInbox u) := by
  refine ⟨by simp [dropInbox], ?_, ?_⟩
  · exact (channelCount_countTimes_other (by decide) _ _).trans h.received
  · have hlen : u.mc.inbox.length = s.mc.inbox.length - 1 := by rw [hin]; simp
    unfold dropInbox
    rw [hlen]
    have hcount : channelCount .notDispatched (upFront s) = channelCount .notDispatched s := bumpAt_other (by decide)
    exact channelCount_countTimes (s := u.modMC fun mc => { mc with inbox := [] }) (h.undispatched.trans hcount) _

/-! ### BYE -/

theorem takeBye_entered {reason : Byte} {s : State} (hl : inService s.lc.link = true ∨ s.lc.link = .join)
    (hs : s.lc.stop = none) : takeBye reason s = dropInbox (enterSearch .partnerBye reason .boundary s) := by
  rw [← enterSearch_dispatch]
  exact if_pos ⟨hl, hs⟩

theorem takeBye_unexpected {reason : Byte} {s : State} (h : s.lc.link = .off ∨ s.lc.link = .search ∨ s.lc.stop ≠ none) :
    takeBye reason s = unexpected s := by
  refine if_neg ?_
  rintro ⟨hl, hs⟩
  rcases h with h | h | h
  · simp [h, inService, inPair] at hl
  · simp [h, inService, inPair] at hl
  · exact h hs

/-- The report of an entry to SEARCH is the first that the entry adds (log 34). -/
theorem enterSearch_report (cause : LinkCause) (extra : Byte) {s : State} (h : s.cp.reports.length < 32) :
    ∃ added, (enterSearch cause extra .boundary s).cp.reports = s.cp.reports ++ added ∧
      ⟨.linkState, 0, s.mp.frame,
        [linkStateCode .search, linkStateCode s.lc.link, linkCauseCode cause, extra, 0, 0, 0, 0]⟩ ∈ added := by
  obtain ⟨u, hu⟩ : ∃ u, u = s.modLC fun lc => { clearLink lc with link := .search, roleClash := false } := ⟨_, rfl⟩
  have hfirst := report_room (kind := .linkState) (subject := 0)
    (detail := [linkStateCode .search, linkStateCode s.lc.link, linkCauseCode cause, extra]) (s := u) (by rw [hu]; exact h)
  obtain ⟨rest, hrest⟩ := (linkDownNeighbours_sides s.lc.link (some (helloMessage s)) (kind := .boundary) (by decide)
    (reportLink s.lc.link cause extra u)).reports
  refine ⟨⟨.linkState, 0, s.mp.frame,
    [linkStateCode .search, linkStateCode s.lc.link, linkCauseCode cause, extra, 0, 0, 0, 0]⟩ :: rest, ?_, by simp⟩
  have hlink : u.lc.link = .search := by rw [hu]; rfl
  rw [reportLink, hlink, hfirst] at hrest
  have hall : enterSearch cause extra .boundary s = linkDownNeighbours s.lc.link (some (helloMessage s)) .boundary
      (reportLink s.lc.link cause extra u) := by rw [hu]; rfl
  rw [hall, reportLink, hlink, ← hrest, hu]
  simp [detailOf]

/-- An entry to SEARCH on the dispatch of a message, from the state with the message taken up and perhaps counted. -/
theorem enteredSearch_dispatched {s u : State} (cause : LinkCause) (extra : Byte) (hu : Sides (upFront s) u)
    (hmc : u.mc = (upFront s).mc) (hlc : u.lc = s.lc) (hps : u.ps = s.ps) (hmp : u.mp = s.mp) :
    enteredSearch s (dropInbox (enterSearch cause extra .boundary u)) ∧
      restNotDispatched s (dropInbox (enterSearch cause extra .boundary u)) := by
  obtain ⟨hentered, -, -⟩ := enterSearch_entered cause extra .dispatch u
  rw [enterSearch_dispatch] at hentered
  have hhello : helloMessage u = helloMessage s := by unfold helloMessage; rw [hlc]
  refine ⟨?_, dropInbox_restNotDispatched (hu.trans (enterSearch_sides cause extra (by decide) u)) ?_⟩
  · simpa only [enteredSearch, hhello, hlc, hps, hmp] using hentered
  · rw [enterSearch_inbox, hmc]
    rfl

/-- Settles O17: the entry is `enterSearch` from the state with the BYE taken up. -/
theorem byeEntersSearch : Obligations.ByeEntersSearch := by
  intro reason s hc
  refine ⟨fun hl hs => ?_, fun h => ?_⟩
  · have hservice : inService s.lc.link = true ∨ s.lc.link = .join := by
      rcases hl with h | h | h | h <;> simp [h, inService, inPair]
    have htake := takeBye_entered (reason := reason) (s := upFront s) hservice hs
    have e : exec (.bye reason) s = .next (dropInbox (enterSearch .partnerBye reason .boundary (upFront s))) := by
      rw [← htake]
      exact congrArg _ (dispatchMessage_dropped hc (by rw [htake]; simp [dropInbox]))
    obtain ⟨hentered, hrest⟩ := enteredSearch_dispatched .partnerBye reason (s := s) .refl rfl rfl rfl rfl
    have hsides := enterSearch_sides .partnerBye reason (kind := .boundary) (by decide) (upFront s)
    have hport : onlyReports s (dropInbox (enterSearch .partnerBye reason .boundary (upFront s))) := by
      have h := hsides.port
      unfold onlyReports at h ⊢
      simpa [dropInbox] using h
    refine ⟨_, e, hentered, hrest, fun hroom => ?_, hport, by simp [dropInbox]⟩
    simpa [dropInbox] using enterSearch_report .partnerBye reason (s := upFront s) hroom
  · exact ⟨_, rfl, dispatchMessage_counted hc (takeBye_unexpected (s := upFront s) h)⟩

/-! ### The timeouts and a partner that restarts -/

theorem exec_timeout {n : Nat} {j : JoinRecord} {c : Instr} {s : State} (hs : s.lc.stop = none)
    (h : (c = .joinTimeout ∧ s.lc.link = .join ∧ s.ps.pending = none ∧ s.lc.joinRecord = some j ∧
        j.effective = s.mp.frame) ∨
      (c = .lostTimeout ∧ s.lc.link = .lost ∧ s.lc.lostCount = some n ∧ 4000 ≤ n)) :
    ∃ cause, exec c s = .next (enterSearch cause 0 .boundary s) := by
  rcases h with ⟨rfl, hl, hp, hj, he⟩ | ⟨rfl, hl, hn, hle⟩
  · have e : exec .joinTimeout s = .next (atBoundary joinOver (enterSearch .joinTimeout 0 .boundary) s) := rfl
    exact ⟨_, by rw [e, atBoundary_now (by simp [joinOver, hl, hp, hj, he, hs])]⟩
  · have e : exec .lostTimeout s = .next (atBoundary lostOver (enterSearch .lostTimeout 0 .boundary) s) := rfl
    exact ⟨_, by rw [e, atBoundary_now (by simp [lostOver, hl, hn, hle, hs])]⟩

/-- A partner that restarts takes the link to SEARCH (R69). -/
theorem partnerRestart_eq (s : State) : partnerRestart s =
    dropInbox (enterSearch .partnerRestart 0 .boundary (countLink .partnerRestarts s)) := enterSearch_dispatch _ _ _

theorem partnerRestart_dispatched {m : LinkMessage} {act : State → State} {s : State} (hc : comesNext m s)
    (hact : act (upFront s) = partnerRestart (upFront s)) :
    enteredSearch s (dispatchMessage m act s) ∧ restNotDispatched s (dispatchMessage m act s) ∧
      (dispatchMessage m act s).tn.free = s.tn.free ∧ (dispatchMessage m act s).tm.time = s.tm.time := by
  have e : dispatchMessage m act s =
      dropInbox (enterSearch .partnerRestart 0 .boundary (countLink .partnerRestarts (upFront s))) := by
    rw [← partnerRestart_eq, ← hact]
    exact dispatchMessage_dropped hc (by rw [hact, partnerRestart_eq]; simp [dropInbox])
  obtain ⟨hentered, hrest⟩ := enteredSearch_dispatched .partnerRestart 0 (s := s)
    (u := countLink .partnerRestarts (upFront s)) (countLink_sides _ _) rfl rfl rfl rfl
  rw [e]
  exact ⟨hentered, hrest, by simp [dropInbox]⟩

theorem takeHello_inService {role : Byte} {siteId peer : SiteId} {s : State} (hl : inService s.lc.link = true)
    (hs : s.lc.stop = none) : takeHello role siteId peer s =
      if roleOf role = s.lc.role then countLink .roleClashes s
      else if identityPasses s.lc.identity siteId peer then partnerRestart s
      else countLink .identityMismatches s := by
  unfold takeHello
  cases h : s.lc.link <;> simp_all [inService, inPair]

theorem takeJoin_restart {siteId : SiteId} {effective : FrameNo} {counts : PerTenant Nat} {s : State}
    (hl : inService s.lc.link = true) (hs : s.lc.stop = none) (hr : s.lc.role = .hub) (hp : s.lc.partner = some siteId) :
    takeJoin siteId effective counts s = partnerRestart s := by
  have hne : s.lc.link ≠ .search := by rintro h; simp [h, inService, inPair] at hl
  simp [takeJoin, hr, hne, hl, hs, hp]

theorem takeJoin_unexpected {siteId : SiteId} {effective : FrameNo} {counts : PerTenant Nat} {s : State}
    (hl : inService s.lc.link = true) (h : ¬ (s.lc.role = .hub ∧ s.lc.partner = some siteId)) :
    takeJoin siteId effective counts s = unexpected s := by
  have hne : s.lc.link ≠ .search := by rintro h; simp [h, inService, inPair] at hl
  unfold takeJoin
  cases hr : s.lc.role with
  | site => rfl
  | hub =>
    dsimp only
    rw [if_neg hne, if_neg fun hp => h ⟨hr, hp.2.2⟩]

/-- Settles O24: every entry is `enterSearch`, a restart's from the state with the message taken up. -/
theorem timeoutsAndRestartsEnterSearch : Obligations.TimeoutsAndRestartsEnterSearch := by
  refine ⟨fun n j c s hs h => ?_, fun role siteId peer effective f1 f2 f3 f4 s hl hs => ⟨fun hc => ?_, fun hc => ?_⟩⟩
  · obtain ⟨cause, e⟩ := exec_timeout hs h
    obtain ⟨hentered, -, -⟩ := enterSearch_entered cause 0 .boundary s
    have hsides := enterSearch_sides cause 0 (kind := .boundary) (by decide) s
    exact ⟨_, e, hentered, enterSearch_inbox cause 0 s, by simpa using And.intro hsides.port hsides.counts⟩
  · have htake := takeHello_inService (role := role) (siteId := siteId) (peer := peer) (s := upFront s) hl hs
    refine ⟨fun hr hi => ⟨_, rfl, partnerRestart_dispatched hc ?_⟩, fun hr hi => ⟨_, rfl, dispatchMessage_counted hc ?_⟩,
      fun hr => ⟨_, rfl, dispatchMessage_counted hc ?_⟩⟩
    · exact (htake.trans (if_neg hr)).trans (if_pos hi)
    · exact (htake.trans (if_neg hr)).trans (if_neg (Bool.eq_false_iff.1 hi))
    · exact htake.trans (if_pos hr)
  · refine ⟨fun hr hp => ⟨_, rfl, partnerRestart_dispatched hc ?_⟩, fun h => ⟨_, rfl, dispatchMessage_counted hc ?_⟩⟩
    · exact takeJoin_restart (s := upFront s) hl hs hr hp
    · exact takeJoin_unexpected (s := upFront s) hl h

end Sys2Proof.Machine


/-! PROOF RECEIVED_FRAME: the frame taken, its quality and frame lock (O6). -/

namespace Sys2Proof.Machine

set_option Elab.async false

/-! ### Frame lock -/

theorem mismatchCounted_sf (header : Option Header) (s : State) : (mismatchCounted header s).sf = s.sf := by
  unfold mismatchCounted
  split
  · split <;> rfl
  · rfl

theorem lockFollowed_locked (change : LockChange) (header : Option Header) (s : State) :
    (lockFollowed change header s).sf.locked = s.sf.locked := by
  unfold lockFollowed
  split
  · simp
  · rfl
  · unfold lockLost
    dsimp only
    split <;> simp
  · rfl

/-- Frame lock for one received frame is that of its table, whatever the regain run brings (R14, R15). -/
theorem takeLock_locked (header : Option Header) (s : State) :
    (takeLock header s).sf.locked = (lockStep header.isSome s.sf).1.locked := by
  have hstep : (framerStepped header.isSome s).locked = (lockStep header.isSome s.sf).1.locked := by
    unfold framerStepped
    split <;> rfl
  have hadvanced : (lockAdvanced header s).sf.locked = (lockStep header.isSome s.sf).1.locked := by
    rw [lockAdvanced, lockFollowed_locked, mismatchCounted_sf]
    exact hstep
  rw [takeLock_eq]
  split
  · simp [hadvanced]
  · exact hadvanced

/-! ### The frame -/

theorem takeQuality_history (m : ModemFrame) (s : State) : (takeQuality m s).lc.history =
    (s.lc.history ++ [if m.undecodable then 0 else min m.quality 400]).drop (s.lc.history.length + 1 - 256) := by
  simp [takeQuality, apply_ite State.lc]

theorem atReception_other {s : State} (h : s.mp.loopDue ≠ .now) : atReception s = s := if_neg h

theorem atReception_history (s : State) : (atReception s).lc.history = s.lc.history := by
  unfold atReception
  split <;> simp

theorem lockTaken_history (m : ModemFrame) (s : State) : (lockTaken m s).lc.history =
    (s.lc.history ++ [if m.undecodable then 0 else min m.quality 400]).drop (s.lc.history.length + 1 - 256) := by
  simp [lockTaken, takeQuality_history, atReception_history]

theorem lockTaken_locked {m : ModemFrame} {s : State} (h : s.mp.loopDue ≠ .now) :
    (lockTaken m s).sf.locked = (lockStep (receivedHeader (passedFrame m s)).isSome s.sf).1.locked := by
  simp [lockTaken, takeLock_locked, atReception_other h]

theorem takeContents_stays (header : Option Header) (r : Received) (s : State) :
    (takeContents header r s).lc.history = s.lc.history ∧ (takeContents header r s).sf.locked = s.sf.locked := by
  cases header <;> simp [takeContents]

/-- What a received frame leaves of its quality sample, frame lock, and the boundary's flag. -/
theorem receiveFrame_taken (m : ModemFrame) (s : State) :
    (receiveFrame m s).mp.rxTaken = true ∧ (receiveFrame m s).lc.history = (lockTaken m s).lc.history ∧
      (receiveFrame m s).sf.locked = (lockTaken m s).sf.locked := by
  obtain ⟨hhistory, hlocked⟩ := takeContents_stays (receivedHeader (passedFrame m (atReception s)))
    (passedFrame m (atReception s)) (lockTaken m s)
  rw [receiveFrame_eq]
  dsimp only
  split
  · simp [hhistory, hlocked]
  · simp [hhistory, hlocked]

theorem exec_receivedFrame {m : ModemFrame} {s : State} (hwf : m.wf = true) (h : s.mp.rxTaken = false) :
    exec (.receivedFrame m) s = .next (receiveFrame m s) := by
  have e : exec (.receivedFrame m) s = execReceivedFrame m s := rfl
  rw [e, execReceivedFrame, if_pos hwf, if_pos (by simp [h])]

/-- Settles O6: a frame is taken once at a boundary, the second one at the boundary that it opens. -/
theorem receivedFrameIsTaken : Obligations.ReceivedFrameIsTaken := by
  refine fun m s => ⟨fun hwf => ?_, fun hwf hrx => ?_, fun hwf hrx hc => ?_⟩
  · exact if_neg (by simp [hwf])
  · obtain ⟨htaken, hhistory, hlocked⟩ := receiveFrame_taken m s
    refine ⟨_, exec_receivedFrame hwf hrx, htaken, by simp, by simp, ?_, fun hl => ?_, ?_⟩
    · rw [hhistory, lockTaken_history]
    · rw [hlocked, lockTaken_locked hl]
    · have hport : onlyReports s (receiveFrame m s) := by simp [onlyReports_iff]
      unfold onlyReports at hport
      simpa using hport
  · have e : exec (.receivedFrame m) s = execReceivedFrame m s := rfl
    have hopen : (openBoundary s).mp.rxTaken = false := by simp [openMP]
    rw [exec_receivedFrame hwf hopen, e, execReceivedFrame, if_pos hwf, if_neg (by simp [hrx]), if_pos hc]

end Sys2Proof.Machine


/-! PROOF The control line: the bytes of a number, and the frames received (O35). -/

namespace Sys2Proof.Machine

set_option Elab.async false

/-! ### Numbers as bytes -/

@[simp] theorem beBytes_length (n v : Nat) : (beBytes n v).length = n := by
  induction n with
  | zero => rfl
  | succ n ih => simp [beBytes, ih]

theorem beValue_foldl (n v acc : Nat) :
    (beBytes n v).foldl (fun acc b => acc * 256 + b.toNat) acc = acc * 256 ^ n + v % 256 ^ n := by
  induction n generalizing acc with
  | zero => simp [beBytes, Nat.mod_one]
  | succ n ih =>
    simp only [beBytes, List.foldl_cons, ih, BitVec.toNat_ofNat]
    rw [Nat.mod_pow_succ (b := 256), Nat.pow_succ (m := n), show (2 : Nat) ^ 8 = 256 from rfl]
    generalize v / 256 ^ n % 256 = q
    rw [Nat.add_mul, Nat.mul_assoc, Nat.mul_comm 256, Nat.mul_comm q]
    omega

/-- The bytes of a number are read back as the number, as far as they hold it. -/
theorem beValue_beBytes (n v : Nat) : beValue (beBytes n v) = v % 256 ^ n := by
  rw [beValue, beValue_foldl]
  simp

/-! ### The characters of a frame -/

theorem setReceiver_setReceiver (v w : Receiver) (s : State) : setReceiver w (setReceiver v s) = setReceiver w s := rfl

/-- What the receiver needs of what stands behind the start byte: its length field and the length it gives (R164). -/
structure LineFrame (gathered : List Byte) (n : Nat) : Prop where
  length : gathered.length = n + 6
  fits : n ≤ 250
  field : field gathered 0 2 = n

/-- A character inside a frame that is not yet complete. -/
theorem takeChar_more {gathered before rest : List Byte} {n : Nat} {c : Byte} (hg : LineFrame gathered n)
    (h : before ++ c :: rest = gathered) (s : State) :
    takeChar (setReceiver (.inside before) s) c =
      if rest = [] then completeFrame gathered (setReceiver .outside s)
      else setReceiver (.inside (before ++ [c])) s := by
  have hlen : before.length + 1 + rest.length = n + 6 := by rw [← hg.length, ← h]; simp; omega
  have hreceiver : takeChar (setReceiver (.inside before) s) c =
      if (before ++ [c]).length < 2 then setReceiver (.inside (before ++ [c])) s
      else if 250 < field (before ++ [c]) 0 2 then countControl .lengthDiscards (setReceiver .outside s)
      else if (before ++ [c]).length = field (before ++ [c]) 0 2 + 6 then
        completeFrame (before ++ [c]) (setReceiver .outside s)
      else setReceiver (.inside (before ++ [c])) s := rfl
  rw [hreceiver]
  simp only [List.length_append, List.length_singleton]
  by_cases h2 : before.length + 1 < 2
  · rw [if_pos h2, if_neg]
    intro e
    rw [e] at hlen
    simp only [List.length_nil] at hlen
    omega
  · have hfield : field (before ++ [c]) 0 2 = n := by
      have hall : gathered = (before ++ [c]) ++ rest := by rw [← h]; simp
      have hle : 2 ≤ (before ++ [c]).length := by simp only [List.length_append, List.length_singleton]; omega
      rw [← hg.field, hall, field, field, List.drop_zero, List.drop_zero, List.take_append_of_le_length hle]
    have hn := hg.fits
    rw [if_neg h2, hfield, if_neg (by omega)]
    by_cases hr : rest = []
    · subst hr
      simp only [List.length_nil] at hlen
      rw [if_pos rfl, if_pos (by omega), h]
    · have hpos := List.length_pos_iff.2 hr
      rw [if_neg hr, if_neg (by omega)]

/-- The characters of a frame complete it. -/
theorem takeChars_inside {gathered : List Byte} {n : Nat} (hg : LineFrame gathered n) {rest before : List Byte}
    (h : before ++ rest = gathered) (hr : rest ≠ []) (s : State) :
    rest.foldl takeChar (setReceiver (.inside before) s) = completeFrame gathered (setReceiver .outside s) := by
  induction rest generalizing before with
  | nil => exact absurd rfl hr
  | cons c rest ih =>
    rw [List.foldl_cons, takeChar_more hg h]
    by_cases hrest : rest = []
    · rw [if_pos hrest, hrest]
      rfl
    · rw [if_neg hrest]
      exact ih (by rw [← h]; simp) hrest

theorem lineFrame_gathered {body : List Byte} (kind tag : Byte) (h : body.length ≤ 250) :
    LineFrame ((beBytes 2 body.length ++ [kind, tag] ++ body) ++ crcBytes (beBytes 2 body.length ++ [kind, tag] ++ body))
      body.length := by
  refine ⟨by simp [crcBytes]; omega, h, ?_⟩
  rw [field, List.drop_zero, List.append_assoc, List.append_assoc, List.take_left' (by simp), beValue_beBytes]
  exact Nat.mod_eq_of_lt (by omega)

/-- A complete frame with a good check brings its request (R164). -/
theorem completeFrame_good (kind tag : Byte) (body : List Byte) (s : State) :
    completeFrame ((beBytes 2 body.length ++ [kind, tag] ++ body) ++
      crcBytes (beBytes 2 body.length ++ [kind, tag] ++ body)) s = joinBuffer ⟨kind, tag, body⟩ s := by
  obtain ⟨covered, hc⟩ : ∃ covered, covered = beBytes 2 body.length ++ [kind, tag] ++ body := ⟨_, rfl⟩
  have hlen : (covered ++ crcBytes covered).length - 2 = covered.length := by simp [crcBytes]
  have hkind : byteAt (covered ++ crcBytes covered) 2 = kind := by simp [hc, byteAt, beBytes]
  have htag : byteAt (covered ++ crcBytes covered) 3 = tag := by simp [hc, byteAt, beBytes]
  have hbody : covered.drop 4 = body := by simp [hc, beBytes]
  rw [← hc]
  unfold completeFrame
  dsimp only
  rw [hlen, List.take_left, List.drop_left, if_pos rfl, hkind, htag, hbody]

/-- A frame of the line, from outside a frame, brings its request (R164). -/
theorem exec_lineFrame {kind tag : Byte} {body : List Byte} {s : State} (ho : s.cp.receiver = .outside)
    (hd : s.cp.resetDue = false) (h : body.length ≤ 250) :
    exec (.controlFrameReceived (lineFrame kind tag body)) s = .next (joinBuffer ⟨kind, tag, body⟩ s) := by
  have hout : setReceiver .outside s = s := by
    simp only [setReceiver, State.modCP, ← ho]
  have hstart : takeChar s startByte = setReceiver (.inside []) s := by
    simp [takeChar, ho]
  have htake : takeChars (lineFrame kind tag body) s = joinBuffer ⟨kind, tag, body⟩ s := by
    rw [takeChars, if_neg (by simp [hd]), lineFrame, List.foldl_cons, hstart,
      takeChars_inside (lineFrame_gathered kind tag h) (List.nil_append _) (by simp), hout, completeFrame_good]
  exact congrArg _ htake

theorem joinBuffer_room {r : Request} {s : State} (h : s.cp.buffer.length < 2) :
    joinBuffer r s = serveNext (s.modCP fun cp => { cp with buffer := cp.buffer ++ [r] }) := if_pos h

theorem joinBuffer_full {r : Request} {s : State} (h : 2 ≤ s.cp.buffer.length) :
    joinBuffer r s = countControl .bufferOverflows s := if_neg (Nat.not_lt.2 h)

theorem takeChars_nil {s : State} (h : s.cp.resetDue = false) : takeChars [] s = s := by
  rw [takeChars, if_neg (by simp [h])]
  rfl

theorem takeChar_resetDue (chars : List Byte) (s : State) : (chars.foldl takeChar s).cp.resetDue = s.cp.resetDue := by
  induction chars generalizing s with
  | nil => rfl
  | cons c chars ih => rw [List.foldl_cons, ih]; simp

theorem discardFrame_inside {c : ControlCounter} {gathered : List Byte} {s : State} (hd : s.cp.resetDue = false)
    (h : s.cp.receiver = .inside gathered) : discardFrame c s = countControl c (setReceiver .outside s) := by
  simp only [discardFrame, hd, h]

theorem discardFrame_outside {c : ControlCounter} {s : State} (h : s.cp.receiver = .outside) : discardFrame c s = s := by
  unfold discardFrame
  rw [h]
  split
  · next e => cases e
  · rfl

/-- Settles O35: the characters of a frame complete it, an error or a gap discards the frame in progress. -/
theorem controlLineIsReceived : Obligations.ControlLineIsReceived := by
  refine ⟨fun kind tag body s ho hd hlen hroom => ?_, fun kind tag body s ho hd hlen hfull => ?_, fun chars gathered s hd => ?_⟩
  · obtain ⟨u, hu⟩ : ∃ u, u = s.modCP fun cp => { cp with buffer := cp.buffer ++ [⟨kind, tag, body⟩] } := ⟨_, rfl⟩
    obtain ⟨hcounts, hcp⟩ := serveNext_only u
    refine ⟨_, (exec_lineFrame ho hd hlen).trans (congrArg _ (joinBuffer_room hroom)), ?_⟩
    rw [← hu]
    refine ⟨?_, ?_, ?_, fun hs => ?_, fun hs hb hk => ?_, ?_, ?_⟩
    · rw [hcp, hu]
      rfl
    · rw [hcp, hu]
      exact ho
    · rw [hcp, hu]
      simp [← ho]
    · rw [serveNext_busy (by rw [hu]; exact hs), hu]
      rfl
    · rw [serveNext_handed (r := ⟨kind, tag, body⟩) (rest := []) (by rw [hu]; exact hs) (by simp [hu, hb]) hk]
      rfl
    · rw [hu] at hcounts ⊢
      exact hcounts
    · simp [unchangedBut_iff, hu]
  · rw [exec_lineFrame ho hd hlen, joinBuffer_full hfull]
  · have hline : ∀ (cs : List Byte) (u : State), exec (.controlLineError cs) u = .next (discardFrame .lineErrors (takeChars cs u)) :=
      fun _ _ => rfl
    have hgap : ∀ (cs : List Byte) (u : State), exec (.controlGapTimeout cs) u = .next (discardFrame .gapDiscards (takeChars cs u)) :=
      fun _ _ => rfl
    refine ⟨fun h => ?_, fun h => ?_, ?_⟩
    · rw [hline, hgap, takeChars_nil hd, discardFrame_inside hd h, discardFrame_inside hd h]
      exact ⟨rfl, rfl⟩
    · rw [hline, hgap, takeChars_nil hd, discardFrame_outside h, discardFrame_outside h]
      exact ⟨rfl, rfl⟩
    · have hdue : (takeChars chars s).cp.resetDue = false := by
        rw [takeChars, if_neg (by simp [hd]), takeChar_resetDue, hd]
      exact ⟨_, rfl, hdue, by rw [hline, hline, takeChars_nil hdue], by rw [hgap, hgap, takeChars_nil hdue]⟩

end Sys2Proof.Machine


/-! PROOF The counts of an allocation fit the positions there are (O44). -/

namespace Sys2Proof.Machine

set_option Elab.async false

/-! ### Ranks -/

/-- The place of a member in remainder order as a number: remainders fall, tenant numbers rise (R113). -/
def remainderKey (r w : Nat) (m : Member) : Nat := (w - r * m.weight % w) * 5 + m.tenant.number

theorem number_lt (t : Tenant) : t.number < 5 := by cases t <;> decide

theorem number_injective : Function.Injective Tenant.number := by
  have hname : ∀ t : Tenant, Tenant.ofNumber t.number = some t := fun t => by cases t <;> rfl
  intro t u h
  have e := hname t
  rw [h, hname u] at e
  exact (Option.some.inj e).symm

theorem remainderBefore_iff {r w : Nat} (hw : 0 < w) (a b : Member) :
    remainderBefore r w a b = true ↔ remainderKey r w a < remainderKey r w b := by
  have ha := Nat.mod_lt (r * a.weight) hw
  have hb := Nat.mod_lt (r * b.weight) hw
  have hna := number_lt a.tenant
  have hnb := number_lt b.tenant
  simp only [remainderBefore, remainderKey, Bool.or_eq_true, Bool.and_eq_true, decide_eq_true_eq, beq_iff_eq]
  omega

theorem remainderKey_inj {r w : Nat} {a b : Member} (h : remainderKey r w a = remainderKey r w b) : a.tenant = b.tenant := by
  have hna := number_lt a.tenant
  have hnb := number_lt b.tenant
  apply number_injective
  simp only [remainderKey] at h
  omega

theorem exists_greatest {l : List Nat} (h : l ≠ []) : ∃ m ∈ l, ∀ x ∈ l, x ≤ m := by
  cases hm : l.max? with
  | none => exact absurd (List.max?_eq_none_iff.1 hm) h
  | some m => exact ⟨m, List.max?_eq_some_iff.1 hm⟩

theorem length_le_one_of_forall_eq {l : List Nat} (h : l.Nodup) {m : Nat} (hm : ∀ x ∈ l, x = m) : l.length ≤ 1 := by
  match l, h, hm with
  | [], _, _ => exact Nat.zero_le 1
  | [_], _, _ => exact Nat.le_refl 1
  | x :: y :: rest, h, hm =>
    have hxy : x = y := (hm x (by simp)).trans (hm y (by simp)).symm
    rw [List.nodup_cons] at h
    exact absurd (hxy ▸ List.mem_cons_self) h.1

/-- In a list of different numbers, no more than `k` have fewer than `k` below them: the greatest of these does. -/
theorem length_rank_lt {l : List Nat} (h : l.Nodup) (k : Nat) :
    (l.filter fun x => (l.filter (· < x)).length < k).length ≤ k := by
  obtain ⟨low, hlow⟩ : ∃ low, low = l.filter fun x => (l.filter (· < x)).length < k := ⟨_, rfl⟩
  have hsub : low.Sublist l := by
    rw [hlow]
    exact List.filter_sublist
  rw [← hlow]
  by_cases hne : low = []
  · rw [hne]
    exact Nat.zero_le k
  obtain ⟨m, hm, hmax⟩ := exists_greatest hne
  have hrank : (l.filter (· < m)).length < k := by
    rw [hlow] at hm
    exact of_decide_eq_true (List.mem_filter.1 hm).2
  have hbelow : (low.filter (· < m)).length ≤ (l.filter (· < m)).length := (hsub.filter _).length_le
  have hrest : (low.filter fun x => decide ¬decide (x < m) = true).length ≤ 1 := by
    refine length_le_one_of_forall_eq (m := m) (List.Nodup.sublist (List.filter_sublist.trans hsub) h) fun x hx => ?_
    obtain ⟨hxl, hxm⟩ := List.mem_filter.1 hx
    have hle := hmax x hxl
    simp only [decide_eq_true_eq] at hxm
    omega
  have hsplit := List.length_eq_countP_add_countP (fun x => decide (x < m)) (l := low)
  rw [List.countP_eq_length_filter, List.countP_eq_length_filter] at hsplit
  omega

/-- No more than `k` members stand in the first `k` places of the remainder order (R113). -/
theorem length_place_lt {ms : List Member} (h : (ms.map (·.tenant)).Nodup) {r w : Nat} (hw : 0 < w) (k : Nat) :
    (ms.filter fun m => (ms.filter fun other => remainderBefore r w other m).length < k).length ≤ k := by
  have hkeys : (ms.map (remainderKey r w)).Nodup :=
    List.pairwise_map.2 ((List.pairwise_map.1 h).imp fun hne e => hne (remainderKey_inj e))
  have hplace : ∀ m, (ms.filter fun other => remainderBefore r w other m).length =
      ((ms.map (remainderKey r w)).filter (· < remainderKey r w m)).length := fun m => by
    have hbefore : (fun other => remainderBefore r w other m) =
        (fun key => decide (key < remainderKey r w m)) ∘ remainderKey r w := by
      funext other
      rw [Bool.eq_iff_iff, remainderBefore_iff hw, Function.comp_apply, decide_eq_true_eq]
    rw [List.filter_map, List.length_map, hbefore]
  have hall := length_rank_lt hkeys k
  rw [List.filter_map, List.length_map] at hall
  simpa only [hplace, Function.comp_def] using hall

/-! ### The weighted fill -/

theorem sum_map_ite {α : Type} (p : α → Prop) [DecidablePred p] (l : List α) :
    (l.map fun x => if p x then 1 else 0).sum = (l.filter fun x => p x).length := by
  induction l with
  | nil => rfl
  | cons x l ih =>
    by_cases h : p x <;> simp [h, ih, Nat.add_comm]

theorem sum_map_add_map {α : Type} (f g : α → Nat) (l : List α) :
    (l.map fun x => f x + g x).sum = (l.map f).sum + (l.map g).sum := by
  induction l with
  | nil => rfl
  | cons x l ih =>
    simp only [List.map_cons, List.sum_cons, ih]
    omega

theorem sum_map_filter_le {α : Type} (p : α → Bool) (f : α → Nat) (l : List α) :
    ((l.filter p).map f).sum ≤ (l.map f).sum := by
  induction l with
  | nil => exact Nat.le_refl 0
  | cons x l ih =>
    rw [List.filter_cons, List.map_cons, List.sum_cons]
    split
    · rw [List.map_cons, List.sum_cons]
      exact Nat.add_le_add_left ih _
    · exact Nat.le_trans ih (Nat.le_add_left _ _)

/-- Floors of shares in proportion do not pass what is shared. -/
theorem sum_floors_le (r w : Nat) (ms : List Member) (h : (ms.map (·.weight)).sum ≤ w) :
    (ms.map fun m => r * m.weight / w).sum ≤ r := by
  have hle : ∀ l : List Member, (l.map fun m => r * m.weight / w).sum ≤ r * (l.map (·.weight)).sum / w := fun l => by
    induction l with
    | nil => simp
    | cons m l ih =>
      simp only [List.map_cons, List.sum_cons, Nat.mul_add]
      exact Nat.le_trans (Nat.add_le_add_left ih _) Nat.div_add_div_le_add_div
  refine Nat.le_trans (hle ms) (Nat.le_trans (Nat.div_le_div_right (Nat.mul_le_mul_left r h)) ?_)
  exact Nat.div_le_of_le_mul (Nat.le_of_eq (Nat.mul_comm r w))

/-- What a fill hands out. -/
def totalGiven (given : List (Tenant × Nat)) : Nat := (given.map (·.2)).sum

theorem totalGiven_append (g h : List (Tenant × Nat)) : totalGiven (g ++ h) = totalGiven g + totalGiven h := by
  simp [totalGiven]

theorem shareRest_total (r : Nat) {ms : List Member} (h : (ms.map (·.tenant)).Nodup) (hw : 0 < (ms.map (·.weight)).sum) :
    totalGiven (shareRest r ms) ≤ r := by
  have hfloors := sum_floors_le r _ ms (Nat.le_refl _)
  have hplaces := length_place_lt h (r := r) hw (r - (ms.map fun m => r * m.weight / (ms.map (·.weight)).sum).sum)
  simp only [totalGiven, shareRest, List.map_map, Function.comp_def]
  rw [sum_map_add_map, sum_map_ite]
  omega

/-- Members that are satisfied take no more than is shared (R113). -/
theorem sum_satisfied_le {r w : Nat} (hw : 0 < w) {ms : List Member} (hle : (ms.map (·.weight)).sum ≤ w)
    (hs : ∀ m ∈ ms, satisfied r w m = true) : (ms.map (·.cap)).sum ≤ r := by
  have hmul : ∀ l : List Member, (∀ m ∈ l, satisfied r w m = true) →
      (l.map (·.cap)).sum * w ≤ r * (l.map (·.weight)).sum := fun l => by
    induction l with
    | nil => intro _; simp
    | cons m l ih =>
      intro hl
      have hm : m.cap * w ≤ r * m.weight := by simpa [satisfied] using hl m List.mem_cons_self
      have hrest := ih fun n hn => hl n (List.mem_cons_of_mem _ hn)
      simp only [List.map_cons, List.sum_cons, Nat.add_mul, Nat.mul_add]
      omega
  exact Nat.le_of_mul_le_mul_right (Nat.le_trans (hmul ms hs) (Nat.mul_le_mul_left r hle)) hw

theorem sum_weights_pos {ms : List Member} (h : ∀ m ∈ ms, 1 ≤ m.weight) (hne : ms ≠ []) :
    0 < (ms.map (·.weight)).sum := by
  cases ms with
  | nil => exact absurd rfl hne
  | cons m ms =>
    have hm := h m List.mem_cons_self
    simp only [List.map_cons, List.sum_cons]
    omega

/-- The rounds of a fill hand out no more than is shared (R113). -/
theorem fillRounds_total (fuel r : Nat) {ms : List Member} (h : (ms.map (·.tenant)).Nodup)
    (hpos : ∀ m ∈ ms, 1 ≤ m.weight) : totalGiven (fillRounds fuel r ms) ≤ r := by
  induction fuel generalizing r ms with
  | zero => exact Nat.zero_le r
  | succ fuel ih =>
    unfold fillRounds
    by_cases hne : ms = []
    · rw [if_pos hne]
      exact Nat.zero_le r
    have hw := sum_weights_pos hpos hne
    rw [if_neg hne]
    dsimp only
    split
    · exact shareRest_total r h hw
    · have hsub : ∀ p : Member → Bool, ((ms.filter p).map (·.weight)).sum ≤ (ms.map (·.weight)).sum := fun p =>
        sum_map_filter_le p _ ms
      have hleaving := sum_satisfied_le (r := r) hw (hsub (satisfied r (ms.map (·.weight)).sum))
        fun m hm => (List.mem_filter.1 hm).2
      have hrest := ih (r - ((ms.filter (satisfied r (ms.map (·.weight)).sum)).map (·.cap)).sum)
        (ms := ms.filter fun m => !satisfied r (ms.map (·.weight)).sum m)
        (List.Nodup.sublist (List.Sublist.map _ List.filter_sublist) h) fun m hm => hpos m (List.mem_filter.1 hm).1
      rw [totalGiven_append]
      simp only [totalGiven, List.map_map, Function.comp_def] at hrest ⊢
      omega

/-- The tenants' parts make up all that a fill hands out. -/
theorem weightedFill_sum (r : Nat) (ms : List Member) :
    (weightedFill r ms).sum = totalGiven (fillRounds (ms.length + 1) r ms) := by
  have hsum : ∀ given : List (Tenant × Nat),
      (PerTenant.ofFn fun t => ((given.filter fun g => g.1 == t).map (·.2)).sum).sum = totalGiven given := fun given => by
    induction given with
    | nil => rfl
    | cons g given ih =>
      simp only [PerTenant.ofFn, PerTenant.sum, totalGiven, List.map_cons, List.sum_cons] at ih ⊢
      cases h : g.1 <;> simp [h] <;> omega
  exact hsum _

theorem membersOf_nodup {i : AllocInput} {ts : List Tenant} (cap : Tenant → Nat) (h : ts.Nodup) :
    ((membersOf i ts cap).map (·.tenant)).Nodup := by
  simpa [membersOf, Function.comp_def] using h

theorem weightedFill_le (r : Nat) {i : AllocInput} {ts : List Tenant} (cap : Tenant → Nat) (h : ts.Nodup)
    (hpos : ∀ n : Tenant, 1 ≤ (i.configs.get n).weight) : (weightedFill r (membersOf i ts cap)).sum ≤ r := by
  rw [weightedFill_sum]
  refine fillRounds_total _ r (membersOf_nodup cap h) fun m hm => ?_
  obtain ⟨t, -, rfl⟩ := List.mem_map.1 hm
  exact hpos t

/-! ### The counts of both modes -/

theorem eligibleTenants_nodup (i : AllocInput) : (eligibleTenants i).Nodup :=
  List.Pairwise.filter _ (by decide)

/-- What AUTO mode hands out beside the guarantees (R116). -/
theorem autoCounts_parts (i : AllocInput) (a : Nat) (hpos : ∀ n : Tenant, 1 ≤ (i.configs.get n).weight) :
    ∃ y z : PerTenant Nat, autoCounts i a = PerTenant.ofFn (fun t => guarantee i t + y.get t + z.get t) ∧
      y.sum + z.sum ≤ a - guaranteeSum i := by
  obtain ⟨y, hy⟩ : ∃ y, y = weightedFill (a - guaranteeSum i) (membersOf i ((eligibleTenants i).filter fun t =>
      decide (0 < demandWithHeadroom i t - (i.configs.get t).committed)) fun t =>
    demandWithHeadroom i t - (i.configs.get t).committed) := ⟨_, rfl⟩
  obtain ⟨z, hz⟩ : ∃ z, z = if 0 < a - guaranteeSum i - y.sum then weightedFill (a - guaranteeSum i - y.sum)
      (membersOf i (eligibleTenants i) fun t => (i.configs.get t).ceiling - (i.configs.get t).committed - y.get t)
    else PerTenant.const 0 := ⟨_, rfl⟩
  have hysum : y.sum ≤ a - guaranteeSum i := by
    rw [hy]
    exact weightedFill_le _ _ (List.Pairwise.filter _ (eligibleTenants_nodup i)) hpos
  have hzsum : z.sum ≤ a - guaranteeSum i - y.sum := by
    rw [hz]
    split
    · exact weightedFill_le _ _ (eligibleTenants_nodup i) hpos
    · exact Nat.zero_le _
  exact ⟨y, z, by rw [hz, hy]; rfl, by omega⟩

/-- Cutting what passes A, in the order of the tenants, keeps the guarantees and comes to A (R117). -/
theorem cutCounts_fits (g n : PerTenant Nat) (hle : ∀ t : Tenant, g.get t ≤ n.get t) (a : Nat) (ha : g.sum ≤ a) :
    (cutCounts g.get Tenant.all.reverse (n.sum - a) n).sum ≤ a ∧
      ∀ t : Tenant, g.get t ≤ (cutCounts g.get Tenant.all.reverse (n.sum - a) n).get t := by
  have h1 := hle .t1
  have h2 := hle .t2
  have h3 := hle .t3
  have h4 := hle .t4
  obtain ⟨n1, n2, n3, n4⟩ := n
  obtain ⟨g1, g2, g3, g4⟩ := g
  simp only [PerTenant.get, PerTenant.sum] at h1 h2 h3 h4 ha
  have horder : Tenant.all.reverse = [.t4, .t3, .t2, .t1] := rfl
  simp only [horder, cutCounts, PerTenant.get, PerTenant.set, PerTenant.sum]
  refine ⟨by omega, fun t => ?_⟩
  cases t <;> simp only [] <;> omega

theorem guarantee_le_fixedFirst (i : AllocInput) (t : Tenant) : guarantee i t ≤ fixedFirst i t := by
  unfold guarantee fixedFirst
  cases h : i.classes.get t with
  | eligible => exact Nat.le_max_left _ _
  | drainingHeld => exact Nat.le_refl _
  | none => exact Nat.le_refl _

/-- Settles O44: AUTO adds two fills of what the guarantees leave, FIXED cuts what passes A. -/
theorem allocatedCountsFit : Obligations.AllocatedCountsFit := by
  intro i a hpos hg
  obtain ⟨y, z, hauto, hyz⟩ := autoCounts_parts i a hpos
  obtain ⟨hsum, hkept⟩ := cutCounts_fits (PerTenant.ofFn (guarantee i)) (PerTenant.ofFn (fixedFirst i))
    (fun t => by rw [PerTenant.get_ofFn, PerTenant.get_ofFn]; exact guarantee_le_fixedFirst i t) a hg
  have hfixed : fixedModeCounts i a = cutCounts (PerTenant.ofFn (guarantee i)).get Tenant.all.reverse
      ((PerTenant.ofFn (fixedFirst i)).sum - a) (PerTenant.ofFn (fixedFirst i)) := by
    rw [show (PerTenant.ofFn (guarantee i)).get = guarantee i from funext fun t => PerTenant.get_ofFn _ t]
    rfl
  refine ⟨?_, by rw [hfixed]; exact hsum, fun n => ⟨?_, ?_⟩, fun n hn => ⟨autoCounts_none a hn, fixedModeCounts_none a hn⟩⟩
  · have hall : (autoCounts i a).sum = guaranteeSum i + (y.sum + z.sum) := by
      rw [hauto]
      simp only [guaranteeSum, PerTenant.ofFn, PerTenant.sum, PerTenant.get]
      omega
    omega
  · rw [hauto, PerTenant.get_ofFn]
    omega
  · have hn := hkept n
    rw [PerTenant.get_ofFn] at hn
    rw [hfixed]
    exact hn

end Sys2Proof.Machine


/-! PROOF Headers and messages are read back as they were written (O11). -/

namespace Sys2Proof.Machine

set_option Elab.async false

/-! ### Messages -/

/-- A word written in as many bytes as it needs is read back. -/
theorem ofNat_beValue {w : Nat} (n : Nat) (h : 2 ^ w = 256 ^ n) (v : BitVec w) :
    BitVec.ofNat w (beValue (beBytes n v.toNat)) = v := by
  rw [beValue_beBytes, ← h, Nat.mod_eq_of_lt v.isLt, BitVec.ofNat_toNat, BitVec.setWidth_eq]

theorem ofNat16_beValue (v : BitVec 16) : BitVec.ofNat 16 (beValue (beBytes 2 v.toNat)) = v := ofNat_beValue 2 rfl v
theorem ofNat32_beValue (v : BitVec 32) : BitVec.ofNat 32 (beValue (beBytes 4 v.toNat)) = v := ofNat_beValue 4 rfl v
theorem ofNat48_beValue (v : BitVec 48) : BitVec.ofNat 48 (beValue (beBytes 6 v.toNat)) = v := ofNat_beValue 6 rfl v
theorem ofNat64_beValue (v : BitVec 64) : BitVec.ofNat 64 (beValue (beBytes 8 v.toNat)) = v := ofNat_beValue 8 rfl v

/-- The kind and body of a message are read back as the message (R41, R183): field by field. -/
theorem parseMessage_messageBody (m : LinkMessage) : parseMessage (messageKind m) (messageBody m) = some m := by
  cases m with
  | hello role siteId peer =>
    change some (LinkMessage.hello role (BitVec.ofNat 32 (beValue (beBytes 4 siteId.toNat)))
      (BitVec.ofNat 32 (beValue (beBytes 4 peer.toNat)))) = _
    rw [ofNat32_beValue, ofNat32_beValue]
  | join siteId effective counts =>
    change some (LinkMessage.join (BitVec.ofNat 32 (beValue (beBytes 4 siteId.toNat)))
      (BitVec.ofNat 16 (beValue (beBytes 2 effective.toNat))) counts) = _
    rw [ofNat32_beValue, ofNat16_beValue]
  | joinAck siteId effective =>
    change some (LinkMessage.joinAck (BitVec.ofNat 32 (beValue (beBytes 4 siteId.toNat)))
      (BitVec.ofNat 16 (beValue (beBytes 2 effective.toNat)))) = _
    rw [ofNat32_beValue, ofNat16_beValue]
  | shift number profile test counts fallback effective =>
    change some (LinkMessage.shift number profile test counts fallback
      (BitVec.ofNat 16 (beValue (beBytes 2 effective.toNat)))) = _
    rw [ofNat16_beValue]
  | shiftAck number => rfl
  | shiftNak number reason => rfl
  | status fast slow demands hold =>
    change some (LinkMessage.status (BitVec.ofNat 16 (beValue (beBytes 2 fast.toNat)))
      (BitVec.ofNat 16 (beValue (beBytes 2 slow.toNat))) demands hold) = _
    rw [ofNat16_beValue, ofNat16_beValue]
  | bye reason => rfl
  | timeReq sequence => rfl
  | timeResp sequence t2 t3 p2 p3 traceable =>
    change some (LinkMessage.timeResp sequence (BitVec.ofNat 64 (beValue (beBytes 8 t2.toNat)))
      (BitVec.ofNat 64 (beValue (beBytes 8 t3.toNat))) p2 p3 traceable) = _
    rw [ofNat64_beValue, ofNat64_beValue]
  | testCtl action kind mode test => rfl
  | testAck action accepted frames bits errored =>
    change some (LinkMessage.testAck action accepted (BitVec.ofNat 32 (beValue (beBytes 4 frames.toNat)))
      (BitVec.ofNat 48 (beValue (beBytes 6 bits.toNat))) (BitVec.ofNat 32 (beValue (beBytes 4 errored.toNat)))) = _
    rw [ofNat32_beValue, ofNat48_beValue, ofNat32_beValue]

theorem bodyLengthOf_messageKind (m : LinkMessage) :
    bodyLengthOf (messageKind m) = some (messageBody m).length := by
  cases m <;> rfl

/-! ### Headers -/

theorem upperNibble_pack (a b : Nibble) : upperNibble ((nibbleCode a <<< 4) ||| nibbleCode b) = a := by
  obtain ⟨a1, a2, a3, a4⟩ := a
  obtain ⟨b1, b2, b3, b4⟩ := b
  revert a1 a2 a3 a4 b1 b2 b3 b4
  decide

theorem lowerNibble_pack (a b : Nibble) : lowerNibble ((nibbleCode a <<< 4) ||| nibbleCode b) = b := by
  obtain ⟨a1, a2, a3, a4⟩ := a
  obtain ⟨b1, b2, b3, b4⟩ := b
  revert a1 a2 a3 a4 b1 b2 b3 b4
  decide

/-- The byte of the flag and the profile is read back (R6). -/
theorem profileByte_reads {profile : Nat} (h : profile ≤ 5) (flagged : Bool) :
    let b : Byte := (if flagged then 0x80 else 0) ||| BitVec.ofNat 8 profile
    (b &&& 0x7F).toNat = profile ∧ b.getLsbD 7 = flagged := by
  have hall : ∀ p : Fin 6, ∀ f : Bool,
      (((if f then 0x80 else 0 : Byte) ||| BitVec.ofNat 8 p.val) &&& 0x7F).toNat = p.val ∧
        ((if f then 0x80 else 0 : Byte) ||| BitVec.ofNat 8 p.val).getLsbD 7 = f := by decide
  exact hall ⟨profile, by omega⟩ flagged

theorem judgeHeader_headerBytes {h : Header} (rest : List Byte) (hp : h.profile ≤ 5) :
    judgeHeader (headerBytes h ++ rest) = .good h := by
  obtain ⟨hprofile, hflag⟩ := profileByte_reads hp h.flagged
  obtain ⟨frame, profile, flagged, number, n1, n2, n3, n4⟩ := h
  obtain ⟨fields, hfields⟩ : ∃ fields, fields = headerFields ⟨frame, profile, flagged, number, n1, n2, n3, n4⟩ := ⟨_, rfl⟩
  have hlen : fields.length = 10 := by rw [hfields]; rfl
  have hcovered : (fields ++ crcBytes fields ++ rest).take 10 = fields := by
    rw [List.append_assoc, List.take_left' hlen]
  have hcheck : ((fields ++ crcBytes fields ++ rest).drop 10).take 2 = crcBytes fields := by
    rw [List.append_assoc, List.drop_left' hlen, List.take_left' (by simp [crcBytes])]
  have hframe : field (fields ++ crcBytes fields ++ rest) 4 2 = beValue (beBytes 2 frame.toNat) := by rw [hfields]; rfl
  have hat : byteAt (fields ++ crcBytes fields ++ rest) 6 = (if flagged then 0x80 else 0) ||| BitVec.ofNat 8 profile ∧
      byteAt (fields ++ crcBytes fields ++ rest) 7 = number ∧
      byteAt (fields ++ crcBytes fields ++ rest) 8 = (nibbleCode n1 <<< 4) ||| nibbleCode n2 ∧
      byteAt (fields ++ crcBytes fields ++ rest) 9 = (nibbleCode n3 <<< 4) ||| nibbleCode n4 := by
    rw [hfields]
    exact ⟨rfl, rfl, rfl, rfl⟩
  obtain ⟨h6, h7, h8, h9⟩ := hat
  rw [headerBytes, ← hfields]
  unfold judgeHeader
  dsimp only
  rw [hcovered, hcheck, hframe, h6, h7, h8, h9, hprofile, hflag, if_pos ⟨by rw [hfields]; rfl, rfl, hp⟩, ofNat16_beValue,
    upperNibble_pack, lowerNibble_pack, upperNibble_pack, lowerNibble_pack]

/-- Settles O11: headers field by field, messages kind by kind. -/
theorem headerAndMessagesReadBack : Obligations.HeaderAndMessagesReadBack :=
  ⟨fun _ rest hp => judgeHeader_headerBytes rest hp, fun m => ⟨parseMessage_messageBody m, bodyLengthOf_messageKind m⟩⟩

end Sys2Proof.Machine


/-! PROOF The assembler finds in an area the messages placed in it (O12). -/

namespace Sys2Proof.Machine

set_option Elab.async false

/-! ### Bytes and bits -/

theorem byteOfBits_byteBits (b : Byte) : byteOfBits (byteBits b) = b := by
  have hall : ∀ n : Fin 256, byteOfBits (byteBits (BitVec.ofFin n)) = BitVec.ofFin n := by decide +kernel
  exact hall b.toFin

theorem byteBits_byteOfBits (b7 b6 b5 b4 b3 b2 b1 b0 : Bool) :
    byteBits (byteOfBits [b7, b6, b5, b4, b3, b2, b1, b0]) = [b7, b6, b5, b4, b3, b2, b1, b0] := by
  revert b7 b6 b5 b4 b3 b2 b1 b0
  decide +kernel

@[simp] theorem bitsOf_length (bs : List Byte) : (bitsOf bs).length = 8 * bs.length := by
  induction bs with
  | nil => rfl
  | cons b bs ih => rw [bitsOf] at ih ⊢; simp [ih, byteBits]; omega

theorem bytesOf_bitsOf (bs : List Byte) : bytesOf (bitsOf bs) = bs := by
  induction bs with
  | nil => rfl
  | cons b bs ih =>
    have hhead : bytesOf (bitsOf (b :: bs)) = byteOfBits (byteBits b) :: bytesOf (bitsOf bs) := rfl
    rw [hhead, ih, byteOfBits_byteBits]

theorem bitsOf_bytesOf (bits : List Bool) (h : bits.length % 8 = 0) : bitsOf (bytesOf bits) = bits := by
  fun_induction bytesOf bits with
  | case1 b7 b6 b5 b4 b3 b2 b1 b0 rest ih =>
    have hrest : bitsOf (bytesOf rest) = rest := ih (by simp only [List.length_cons] at h; omega)
    change byteBits _ ++ bitsOf (bytesOf rest) = _
    rw [byteBits_byteOfBits, hrest]
    rfl
  | case2 bits hshort =>
    have hnone : bits.length / 8 = 0 := by rw [← bytesOf_length, bytesOf.eq_2 bits hshort, List.length_nil]
    exact (List.length_eq_zero_iff.mp (by omega)).symm

/-! ### Messages as bytes -/

theorem messageBytes_length (m : LinkMessage) : (messageBytes m).length = (messageBody m).length + 3 := by
  simp [messageBytes, crcBytes]

theorem bodyLengthOf_le {kind : Byte} {n : Nat} (h : bodyLengthOf kind = some n) : n ≤ 20 := by
  unfold bodyLengthOf at h
  split at h <;> simp_all <;> omega

theorem messageBody_length_le (m : LinkMessage) : (messageBody m).length ≤ 20 :=
  bodyLengthOf_le (bodyLengthOf_messageKind m)

/-- A message's bytes are judged as the message (R50). -/
theorem judgeMessage_messageBytes (m : LinkMessage) : judgeMessage (bitsOf (messageBytes m)) = .ok m := by
  have hlen := messageBytes_length m
  have hcut : (messageBytes m).length - 2 = (messageKind m :: messageBody m).length := by simp [hlen]
  have htake : (messageBytes m).take (messageKind m :: messageBody m).length = messageKind m :: messageBody m :=
    List.take_left' rfl
  have hdrop : (messageBytes m).drop (messageKind m :: messageBody m).length =
      crcBytes (messageKind m :: messageBody m) := List.drop_left' rfl
  unfold judgeMessage
  rw [if_neg (by rw [bitsOf_length]; omega), if_neg (by rw [bitsOf_length]; omega)]
  simp only [bytesOf_bitsOf, hcut, htake, hdrop, ne_eq, not_true_eq_false, if_false, bodyLengthOf_messageKind,
    parseMessage_messageBody, reduceCtorEq]

/-! ### The assembler at work -/

theorem assembleBits_append (i : Nat) (xs ys : List Bool) (a : Assembler) :
    assembleBits i (xs ++ ys) a = assembleBits (i + xs.length) ys (assembleBits i xs a) := by
  induction xs generalizing i a with
  | nil => rfl
  | cons x xs ih =>
    rw [List.cons_append, assembleBits, ih, assembleBits, List.length_cons, Nat.add_comm xs.length 1, Nat.add_assoc]

/-- The assembler right behind a flag that ended at position `i`, nothing counted so far (R48). -/
def Assembler.atFlag (i : Nat) (messages : List (LinkMessage × Bool)) : Assembler := ⟨.message i [], 0, messages, []⟩

section
variable {start ones : Nat} {gathered : List Bool} {messages : List (LinkMessage × Bool)} {counts : List ChannelCounter}

theorem assembleBit_one (i : Nat) (hones : ones ≠ 6) (hroom : gathered.length < longestMessage + 7) :
    assembleBit i true ⟨.message start gathered, ones, messages, counts⟩ =
      ⟨.message start (true :: gathered), ones + 1, messages, counts⟩ := by
  have hshort : ¬ longestMessage + 7 < (true :: gathered).length := by rw [List.length_cons]; omega
  simp only [assembleBit, if_true, if_neg hones, if_neg hshort]

theorem assembleBit_zero (i : Nat) (hones : ones < 5) (hroom : gathered.length < longestMessage + 7) :
    assembleBit i false ⟨.message start gathered, ones, messages, counts⟩ =
      ⟨.message start (false :: gathered), 0, messages, counts⟩ := by
  have hshort : ¬ longestMessage + 7 < (false :: gathered).length := by rw [List.length_cons]; omega
  have hnotInserted : ones ≠ 5 := by omega
  have hnotFlag : ones ≠ 6 := by omega
  simp only [assembleBit, Bool.false_eq_true, if_false, if_neg hnotInserted, if_neg hnotFlag, if_neg hshort]

/-- The 0 behind five 1 bits is removed (R48). -/
theorem assembleBit_inserted (i : Nat) :
    assembleBit i false ⟨.message start gathered, 5, messages, counts⟩ =
      ⟨.message start gathered, 0, messages, counts⟩ := rfl

/-- Up to six 1 bits behind a 0 are gathered. -/
theorem assembleBits_ones (n i : Nat) (hones : ones + n ≤ 6) (hroom : gathered.length + n ≤ longestMessage + 7) :
    assembleBits i (List.replicate n true) ⟨.message start gathered, ones, messages, counts⟩ =
      ⟨.message start (List.replicate n true ++ gathered), ones + n, messages, counts⟩ := by
  induction n generalizing i ones gathered with
  | zero => rfl
  | succ n ih =>
    rw [List.replicate_succ, assembleBits, assembleBit_one i (by omega) (by omega),
      ih (i + 1) (by omega) (by rw [List.length_cons]; omega), ← List.replicate_succ, List.replicate_succ',
      List.append_assoc, List.singleton_append, Nat.add_assoc, Nat.add_comm 1]

/-- Bits sent with zero insertion are gathered as they were before it, with never five 1 bits in a row behind them (R39,
R48). -/
theorem assembleBits_insertZeros (bits : List Bool) (i : Nat) (hones : ones < 5)
    (hroom : gathered.length + bits.length ≤ longestMessage + 7) :
    ∃ ones' < 5, assembleBits i (insertZeros ones bits) ⟨.message start gathered, ones, messages, counts⟩ =
      ⟨.message start (bits.reverse ++ gathered), ones', messages, counts⟩ := by
  induction bits generalizing i ones gathered with
  | nil => exact ⟨ones, hones, rfl⟩
  | cons b bits ih =>
    rw [List.length_cons] at hroom
    have hrest (c : Bool) : (c :: gathered).length + bits.length ≤ longestMessage + 7 := by rw [List.length_cons]; omega
    rw [List.reverse_cons, List.append_assoc, List.singleton_append]
    cases b with
    | false =>
      have hsent : insertZeros ones (false :: bits) = false :: insertZeros 0 bits := rfl
      rw [hsent, assembleBits, assembleBit_zero i hones (by omega)]
      exact ih (i + 1) (by omega) (hrest _)
    | true =>
      by_cases hfive : ones + 1 = 5
      · have hsent : insertZeros ones (true :: bits) = true :: false :: insertZeros 0 bits := by
          simp only [insertZeros, if_true, if_pos hfive]
        rw [hsent, assembleBits, assembleBit_one i (by omega) (by omega), hfive, assembleBits, assembleBit_inserted]
        exact ih (i + 1 + 1) (by omega) (hrest _)
      · have hsent : insertZeros ones (true :: bits) = true :: insertZeros (ones + 1) bits := by
          simp only [insertZeros, if_true, if_neg hfive]
        rw [hsent, assembleBits, assembleBit_one i (by omega) (by omega)]
        exact ih (i + 1) (by omega) (hrest _)

/-- A flag ends the message gathered before it (R48). -/
theorem assembleBits_flag (i : Nat) (hones : ones < 5) (hroom : gathered.length ≤ longestMessage) :
    assembleBits i flagBits ⟨.message start gathered, ones, messages, counts⟩ =
      endMessage start (i + 8) (List.replicate 6 true ++ false :: gathered)
        ⟨.message start (List.replicate 6 true ++ false :: gathered), 6, messages, counts⟩ := by
  have hflag : flagBits = false :: (List.replicate 6 true ++ [false]) := rfl
  rw [hflag, assembleBits, assembleBit_zero i hones (by omega), assembleBits_append,
    assembleBits_ones 6 (i + 1) (by omega) (by rw [List.length_cons]; omega)]
  rfl

end

/-- The bits gathered before a flag's 0 are the message that it ends. -/
theorem endedBits_flag (gathered : List Bool) :
    endedBits (List.replicate 6 true ++ false :: gathered) = gathered.reverse := rfl

/-- A flag right behind a flag brings nothing (R48). -/
theorem assembleBits_nextFlag (i : Nat) (messages : List (LinkMessage × Bool)) :
    assembleBits i flagBits (.atFlag i messages) = .atFlag (i + 8) messages := by
  rw [Assembler.atFlag, assembleBits_flag i (by omega) (Nat.zero_le _), endMessage, endedBits_flag]
  rfl

/-- A message and its closing flag are found (R48, R50). -/
theorem assembleBits_sent (i : Nat) (m : LinkMessage) (messages : List (LinkMessage × Bool)) :
    assembleBits i (sentBits m ++ flagBits) (.atFlag i messages) =
      .atFlag (i + (sentBits m ++ flagBits).length) ((m, i == 8) :: messages) := by
  have hlen := messageBytes_length m
  have hbody := messageBody_length_le m
  have hbits : (bitsOf (messageBytes m)).length ≤ longestMessage := by
    rw [bitsOf_length, longestMessage]; omega
  obtain ⟨ones, hones, hread⟩ := assembleBits_insertZeros (start := i) (ones := 0) (gathered := []) (messages := messages)
    (counts := []) (bitsOf (messageBytes m)) i (by omega) (by rw [List.length_nil]; omega)
  have hsome : bitsOf (messageBytes m) ≠ [] := List.ne_nil_of_length_pos (by rw [bitsOf_length]; omega)
  rw [assembleBits_append, Assembler.atFlag, sentBits, hread, List.append_nil,
    assembleBits_flag _ hones (by rwa [List.length_reverse]), endMessage, endedBits_flag, List.reverse_reverse,
    if_neg hsome, if_neg (by omega), judgeMessage_messageBytes, List.length_append, ← Nat.add_assoc]
  rfl

@[simp] theorem flags_length (n : Nat) : (flags n).length = 8 * n := by
  simp [flags, flagBits, Nat.mul_comm]

theorem flags_succ (n : Nat) : flags (n + 1) = flagBits ++ flags n := by
  rw [flags, List.replicate_succ, List.flatten_cons, ← flags]

/-- Flags in a row behind a flag bring nothing (R48). -/
theorem assembleBits_flags (n i : Nat) (messages : List (LinkMessage × Bool)) :
    assembleBits i (flags n) (.atFlag i messages) = .atFlag (i + 8 * n) messages := by
  induction n generalizing i with
  | zero => rfl
  | succ n ih =>
    rw [flags_succ, assembleBits_append, assembleBits_nextFlag]
    change assembleBits (i + 8) _ _ = _
    rw [ih, Nat.mul_succ, Nat.add_assoc, Nat.add_comm 8]

/-- Fewer than eight 0 bits behind a flag leave nothing to count (R38, R50). -/
theorem assembleBits_zeros (n i start : Nat) (gathered : List Bool) (messages : List (LinkMessage × Bool))
    (hroom : gathered.length + n < 8) :
    assembleBits i (List.replicate n false) ⟨.message start gathered, 0, messages, []⟩ =
      ⟨.message start (List.replicate n false ++ gathered), 0, messages, []⟩ := by
  induction n generalizing i gathered with
  | zero => rfl
  | succ n ih =>
    rw [List.replicate_succ, assembleBits, assembleBit_zero i (by omega) (by rw [longestMessage]; omega),
      ih (i + 1) _ (by rw [List.length_cons]; omega), ← List.replicate_succ, List.replicate_succ', List.append_assoc,
      List.singleton_append]

/-! ### The draft of an area -/

/-- The entries that the assembler makes of messages placed in a row, the first of them at bit 8 or not. -/
def foundEntries (placed : List LinkMessage) : List (LinkMessage × Bool) :=
  placed.mapIdx fun k m => (m, k == 0)

theorem foundEntries_concat (placed : List LinkMessage) (m : LinkMessage) :
    foundEntries (placed ++ [m]) = foundEntries placed ++ [(m, placed.length == 0)] := by
  simp [foundEntries, List.mapIdx_append]

theorem foundEntries_fst (placed : List LinkMessage) : (foundEntries placed).map (·.1) = placed := by
  apply List.ext_getElem <;> simp [foundEntries]

theorem foundEntries_snd (placed : List LinkMessage) :
    (foundEntries placed).map (·.2) = (List.range placed.length).map (· == 0) := by
  apply List.ext_getElem <;> simp [foundEntries]

/-- What a draft holds of an area: the assembler finds the messages placed in it and stands behind a flag. -/
structure Drafted (d : AreaDraft) (placed : List LinkMessage) : Prop where
  count : d.placed = placed.length
  fits : d.bits.length ≤ areaBits
  opened : 8 ≤ d.bits.length
  first : d.bits.length = 8 ↔ placed = []
  reads : assembleBits 0 d.bits Assembler.start = .atFlag d.bits.length (foundEntries placed).reverse

/-- Flags behind what a draft holds bring nothing. -/
theorem Drafted.reads_flags {d : AreaDraft} {placed : List LinkMessage} (hd : Drafted d placed) (n : Nat) :
    assembleBits 0 (d.bits ++ flags n) Assembler.start =
      .atFlag (d.bits.length + 8 * n) (foundEntries placed).reverse := by
  rw [assembleBits_append, hd.reads, Nat.zero_add, assembleBits_flags]

theorem drafted_opening : Drafted .opening [] := ⟨rfl, by decide, by decide, ⟨fun _ => rfl, fun _ => rfl⟩, rfl⟩

/-- A message that fits stands behind the flags before it (R42), with its closing flag behind it. -/
theorem placeMessage_some {f : Nat} {m : LinkMessage} {d d' : AreaDraft} (h : placeMessage f m d = some d') :
    ∃ n, (d.placed = 0 → n = 0) ∧ d'.bits = (d.bits ++ flags n) ++ (sentBits m ++ flagBits) ∧
      d'.bits.length ≤ areaBits ∧ d'.placed = d.placed + 1 := by
  obtain ⟨n, hn⟩ : ∃ n, n = if d.placed = 0 then 0 else f - 1 := ⟨_, rfl⟩
  have hflags : (if d.placed = 0 then [] else flags (f - 1)) = flags n := by
    rw [hn]
    split <;> rfl
  have hplace : placeMessage f m d =
      if (d.bits ++ flags n).length + (sentBits m).length + 8 ≤ areaBits then
        some ⟨(d.bits ++ flags n) ++ sentBits m ++ flagBits, d.placed + 1⟩ else none := by
    rw [← hflags]
    rfl
  rw [hplace, Option.ite_none_right_eq_some] at h
  obtain ⟨hfits, heq⟩ := h
  cases heq
  refine ⟨n, fun hzero => by rw [hn, if_pos hzero], List.append_assoc .., ?_, rfl⟩
  rwa [List.length_append, List.length_append]

/-- Placing a message keeps what the draft holds and adds the message. -/
theorem placeMessage_drafted {f : Nat} {m : LinkMessage} {d d' : AreaDraft} {placed : List LinkMessage}
    (hd : Drafted d placed) (h : placeMessage f m d = some d') : Drafted d' (placed ++ [m]) := by
  obtain ⟨n, hn, hbits, hfits, hplaced⟩ := placeMessage_some h
  have ⟨hcount, _, hopened, hfirst, _⟩ := hd
  have hstart : (d.bits.length + 8 * n == 8) = (placed.length == 0) := by
    by_cases hnone : placed = []
    · rw [hn (by rw [hcount, hnone]; rfl), hfirst.mpr hnone, hnone]; rfl
    · have hmore : d.bits.length ≠ 8 := fun h8 => hnone (hfirst.mp h8)
      have hsome : placed.length ≠ 0 := fun h0 => hnone (List.length_eq_zero_iff.mp h0)
      rw [beq_false_of_ne hsome, beq_false_of_ne (by omega)]
  have hlong : d.bits.length + 8 ≤ d'.bits.length := by
    have hflag : flagBits.length = 8 := rfl
    rw [hbits]
    simp only [List.length_append, hflag]
    omega
  refine ⟨by rw [hplaced, hcount, List.length_append]; rfl, hfits, by omega, ?_, ?_⟩
  · exact ⟨fun h8 => absurd h8 (by omega), fun hnone => absurd hnone (by simp)⟩
  · rw [hbits, assembleBits_append 0 (d.bits ++ flags n), hd.reads_flags, List.length_append (as := d.bits), flags_length,
      Nat.zero_add, assembleBits_sent, hstart, foundEntries_concat, List.reverse_concat, List.length_append (as := _ ++ _),
      List.length_append (as := d.bits), flags_length]

theorem placeQueue_drafted (f : Nat) (ms : List LinkMessage) {d : AreaDraft} {placed : List LinkMessage}
    (hd : Drafted d placed) :
    ∃ more, ms = more ++ (placeQueue f ms d).2 ∧ Drafted (placeQueue f ms d).1 (placed ++ more) := by
  induction ms generalizing d placed with
  | nil => exact ⟨[], rfl, by rwa [List.append_nil]⟩
  | cons m ms ih =>
    cases hm : placeMessage f m d with
    | none =>
      rw [placeQueue, hm]
      exact ⟨[], rfl, by rwa [List.append_nil]⟩
    | some d' =>
      obtain ⟨more, hms, hmore⟩ := ih (placeMessage_drafted hd hm)
      rw [placeQueue, hm]
      exact ⟨m :: more, congrArg (m :: ·) hms, by rwa [List.append_assoc] at hmore⟩

/-! ### The area -/

/-- The bits of an area that is finished (R38). -/
def areaStream (d : AreaDraft) : List Bool :=
  d.bits ++ flags ((areaBits - d.bits.length) / 8) ++ List.replicate ((areaBits - d.bits.length) % 8) false

theorem finishArea_areaStream (d : AreaDraft) : finishArea d = bytesOf (areaStream d) := rfl

theorem areaStream_length {d : AreaDraft} (h : d.bits.length ≤ areaBits) : (areaStream d).length = areaBits := by
  simp [areaStream]; omega

/-- A finished draft is read back: its messages, and nothing counted. -/
theorem assembleArea_finishArea {d : AreaDraft} {placed : List LinkMessage} (hd : Drafted d placed) :
    assembleArea (finishArea d) = ⟨foundEntries placed, []⟩ := by
  have hfits := hd.fits
  have hwhole : (areaStream d).length % 8 = 0 := by rw [areaStream_length hfits]; rfl
  obtain ⟨zeros, hzeros, hshort⟩ : ∃ zeros, zeros = (areaBits - d.bits.length) % 8 ∧ zeros < 8 :=
    ⟨_, rfl, Nat.mod_lt _ (by omega)⟩
  have hopen : openMessage (List.replicate zeros false ++ []) = [] := by
    have hnotLong : ¬ longestMessage < zeros := by rw [longestMessage]; omega
    rw [List.append_nil, openMessage, List.length_replicate, if_neg hnotLong, if_neg (by omega)]
  have hread : assembleBits 0 (areaStream d) Assembler.start =
      ⟨.message (d.bits.length + 8 * ((areaBits - d.bits.length) / 8)) (List.replicate zeros false ++ []), 0,
        (foundEntries placed).reverse, []⟩ := by
    rw [areaStream, ← hzeros, assembleBits_append, hd.reads_flags, Assembler.atFlag,
      assembleBits_zeros zeros _ _ _ _ (by rw [List.length_nil]; omega)]
  unfold assembleArea
  rw [finishArea_areaStream, bitsOf_bytesOf _ hwhole, hread]
  dsimp only
  rw [hopen, List.reverse_reverse]
  rfl

/-- Settles O12: the draft keeps that the assembler has found what was placed, and the end of the area brings nothing. -/
theorem areaReadsBack : Obligations.AreaReadsBack := by
  intro f ms _ _
  obtain ⟨placed, hms, hdraft⟩ := placeQueue_drafted f ms drafted_opening
  rw [List.nil_append] at hdraft
  have hfound := assembleArea_finishArea hdraft
  refine ⟨⟨placed, hms, ?_, ?_, ?_⟩, ?_⟩
  · rw [hfound]; exact foundEntries_fst placed
  · rw [hfound]
  · rw [hfound]; exact foundEntries_snd placed
  · rw [finishArea_areaStream, bytesOf_length, areaStream_length hdraft.fits]; rfl

end Sys2Proof.Machine


/-! PROOF What the changes of plan, link and allocation leave of the frame's business: the tenants' queues and reassembly
contexts, the messages held and received, and the counters of what is sent and received (`FrameStands`). -/

namespace Sys2Proof.Machine

set_option Elab.async false

/-- A tenant's record stands in its queue and far nibble; its reassembly context is at a gap when the tenant is closed, and
stands otherwise; and no CLOSED tenant opens. -/
structure TenantStands (a b : TenantRec) : Prop where
  queue : b.queue = a.queue
  far : b.far = a.far
  reassembly : b.reassembly = a.reassembly ∨ (a.state ≠ .closed ∧ b.state = .closed ∧ b.reassembly = .hunt)
  closed : a.state = .closed → b.state = .closed

namespace TenantStands

variable {a b c : TenantRec}

theorem of_same (hqueue : b.queue = a.queue := by rfl) (hfar : b.far = a.far := by rfl)
    (hreassembly : b.reassembly = a.reassembly := by rfl) (hstate : b.state = a.state := by rfl) : TenantStands a b :=
  ⟨hqueue, hfar, .inl hreassembly, fun h => hstate.trans h⟩

theorem trans (h1 : TenantStands a b) (h2 : TenantStands b c) : TenantStands a c := by
  refine ⟨h2.queue.trans h1.queue, h2.far.trans h1.far, ?_, fun h => h2.closed (h1.closed h)⟩
  rcases h1.reassembly with heq | ⟨hopen, hclosed, hhunt⟩
  · rcases h2.reassembly with heq2 | ⟨hopen, hend⟩
    · exact .inl (heq2.trans heq)
    · exact .inr ⟨fun h => hopen (h1.closed h), hend⟩
  · rcases h2.reassembly with heq2 | ⟨hopen2, _⟩
    · exact .inr ⟨hopen, h2.closed hclosed, heq2.trans hhunt⟩
    · exact absurd hclosed hopen2

/-- A context at a gap stays there. -/
theorem hunt (h : TenantStands a b) (ha : a.reassembly = .hunt) : b.reassembly = .hunt := by
  rcases h.reassembly with heq | ⟨_, _, hhunt⟩
  · exact heq.trans ha
  · exact hhunt

/-- The context of a tenant that was CLOSED, or that is not, stands. -/
theorem assembly (h : TenantStands a b) (hs : a.state = .closed ∨ b.state ≠ .closed) : b.reassembly = a.reassembly := by
  rcases h.reassembly with heq | ⟨hopen, hclosed, _⟩
  · exact heq
  · rcases hs with hs | hs
    · exact absurd hs hopen
    · exact absurd hclosed hs

end TenantStands

/-- A live counter of the link group. -/
def linkCount (c : LinkCounter) (s : State) : Option Nat := s.cb.live.link[c.ctorIdx]?

theorem linkCtorIdx_injective : Function.Injective LinkCounter.ctorIdx :=
  Function.LeftInverse.injective LinkCounter.ofNat_ctorIdx

/-- The counters of the link group that count a frame composed or received. -/
def frameLinkCounters : List LinkCounter :=
  [.mutedFrames, .goodHeaders, .headerErrors, .undecodableFrames, .planUnknownFrames]

/-- The counters of the channel group that count messages sent and taken up. -/
def frameChannelCounters : List ChannelCounter := [.messagesSent, .messagesReceived, .misplacedTime]

/-- The counters of what is sent and received stand. -/
structure CountsStand (s t : State) : Prop where
  channel : ∀ c ∈ frameChannelCounters, channelCount c t = channelCount c s
  link : ∀ c ∈ frameLinkCounters, linkCount c t = linkCount c s
  timing : t.cb.live.timing = s.cb.live.timing
  tenants : t.cb.live.tenants = s.cb.live.tenants

namespace CountsStand

variable {s t u : State}

theorem of_live (h : t.cb.live = s.cb.live := by rfl) : CountsStand s t :=
  ⟨fun c _ => by rw [channelCount, channelCount, h], fun c _ => by rw [linkCount, linkCount, h], by rw [h], by rw [h]⟩

theorem trans (h1 : CountsStand s t) (h2 : CountsStand t u) : CountsStand s u :=
  ⟨fun c hc => (h2.channel c hc).trans (h1.channel c hc), fun c hc => (h2.link c hc).trans (h1.link c hc),
    h2.timing.trans h1.timing, h2.tenants.trans h1.tenants⟩

theorem countLink {c : LinkCounter} (s : State) (h : c ∉ frameLinkCounters := by decide) :
    CountsStand s (Machine.countLink c s) where
  channel _ _ := rfl
  link d hd := bumpAt_other fun e : c.ctorIdx = d.ctorIdx => h (linkCtorIdx_injective e ▸ hd)
  timing := rfl
  tenants := rfl

theorem countChannel {c : ChannelCounter} (s : State) (h : c ∉ frameChannelCounters := by decide) :
    CountsStand s (Machine.countChannel c s) where
  channel d hd := bumpAt_other fun e : c.ctorIdx = d.ctorIdx => h (ctorIdx_injective e ▸ hd)
  link _ _ := rfl
  timing := rfl
  tenants := rfl

theorem countControl (c : ControlCounter) (s : State) : CountsStand s (Machine.countControl c s) :=
  ⟨fun _ _ => rfl, fun _ _ => rfl, rfl, rfl⟩

end CountsStand

/-- What a change of plan, link or allocation leaves alone of the frame's business. -/
structure FrameStands (s t : State) : Prop where
  tenants : ∀ n, TenantStands (tenantRec s n) (tenantRec t n)
  out : t.tn.out = s.tn.out
  holder : t.mc.timeHolder = s.mc.timeHolder
  released : t.mc.released = s.mc.released
  inbox : t.mc.inbox = s.mc.inbox
  taken : t.st.taken = s.st.taken
  takenBefore : t.st.takenBefore = s.st.takenBefore
  off : t.lc.link = .off ↔ s.lc.link = .off
  counts : CountsStand s t

namespace FrameStands

variable {s t u : State}

theorem of_same (htn : t.tn = s.tn := by rfl) (hmc : t.mc = s.mc := by rfl) (htaken : t.st.taken = s.st.taken := by rfl)
    (hbefore : t.st.takenBefore = s.st.takenBefore := by rfl) (hlink : t.lc.link = s.lc.link := by rfl)
    (hcb : t.cb = s.cb := by rfl) : FrameStands s t := by
  refine ⟨fun n => ?_, by rw [htn], by rw [hmc], by rw [hmc], by rw [hmc], htaken, hbefore, by rw [hlink],
    .of_live (by rw [hcb])⟩
  rw [tenantRec, tenantRec, htn]
  exact .of_same

theorem refl : FrameStands s s := of_same

theorem trans (h1 : FrameStands s t) (h2 : FrameStands t u) : FrameStands s u where
  tenants n := (h1.tenants n).trans (h2.tenants n)
  out := h2.out.trans h1.out
  holder := h2.holder.trans h1.holder
  released := h2.released.trans h1.released
  inbox := h2.inbox.trans h1.inbox
  taken := h2.taken.trans h1.taken
  takenBefore := h2.takenBefore.trans h1.takenBefore
  off := h2.off.trans h1.off
  counts := h1.counts.trans h2.counts

theorem of_ite {c : Prop} [Decidable c] {a b : State} (ha : c → FrameStands s a) (hb : ¬ c → FrameStands s b) :
    FrameStands s (if c then a else b) := by
  split
  · next h => exact ha h
  · next h => exact hb h

/-- A step that is taken under a condition. -/
theorem when {c : Prop} [Decidable c] (h : FrameStands s t) (hu : FrameStands t u) : FrameStands s (if c then u else t) :=
  of_ite (fun _ => h.trans hu) fun _ => h

theorem mp (f : MP → MP) (s : State) : FrameStands s (s.modMP f) := of_same
theorem sf (f : SF → SF) (s : State) : FrameStands s (s.modSF f) := of_same
theorem ps (f : PS → PS) (s : State) : FrameStands s (s.modPS f) := of_same
theorem ca (f : CA → CA) (s : State) : FrameStands s (s.modCA f) := of_same
theorem tm (f : TM → TM) (s : State) : FrameStands s (s.modTM f) := of_same

theorem lc (f : LC → LC) (s : State) (h : (f s.lc).link = s.lc.link := by rfl) : FrameStands s (s.modLC f) :=
  of_same (hlink := h)

/-- The link goes from one state that is not OFF to another. -/
theorem moved (f : LC → LC) (s : State) (hold : s.lc.link ≠ .off) (h : (f s.lc).link ≠ .off) :
    FrameStands s (s.modLC f) :=
  { refl (s := s) with off := ⟨fun e => absurd e h, fun e => absurd e hold⟩, counts := .of_live }

theorem st (f : ST → ST) (s : State) (h : (f s.st).taken = s.st.taken := by rfl)
    (hbefore : (f s.st).takenBefore = s.st.takenBefore := by rfl) : FrameStands s (s.modST f) :=
  of_same (htaken := h) (hbefore := hbefore)

/-- The transmit queue changes. -/
theorem queue (f : MC → MC) (s : State) (hholder : (f s.mc).timeHolder = s.mc.timeHolder := by rfl)
    (hreleased : (f s.mc).released = s.mc.released := by rfl) (hinbox : (f s.mc).inbox = s.mc.inbox := by rfl) :
    FrameStands s (s.modMC f) :=
  { refl (s := s) with holder := hholder, released := hreleased, inbox := hinbox, counts := .of_live }

theorem tenant (n : Tenant) (f : TenantRec → TenantRec) (s : State)
    (h : TenantStands (tenantRec s n) (f (tenantRec s n))) : FrameStands s (modTenant n f s) := by
  refine { refl (s := s) with tenants := fun m => ?_, counts := .of_live }
  rw [tenantRec_modTenant]
  split
  · next e => rw [e]; exact h
  · exact .of_same

end FrameStands

/-! ### Counting, reporting, sending -/

theorem countLink_frameStands {c : LinkCounter} (s : State) (h : c ∉ frameLinkCounters := by decide) :
    FrameStands s (countLink c s) :=
  { FrameStands.refl (s := s) with counts := .countLink s h }

theorem countChannel_frameStands {c : ChannelCounter} (s : State) (h : c ∉ frameChannelCounters := by decide) :
    FrameStands s (countChannel c s) :=
  { FrameStands.refl (s := s) with counts := .countChannel s h }

theorem countControl_frameStands (c : ControlCounter) (s : State) : FrameStands s (countControl c s) :=
  { FrameStands.refl (s := s) with counts := .countControl c s }

theorem offerReport_frameStands (r : Report) (s : State) : FrameStands s (offerReport r s) := by
  unfold offerReport
  split
  · exact .of_same
  · exact FrameStands.trans (t := s.modCP fun cp => { cp with lost := true }) .of_same (countControl_frameStands _ _)

theorem report_frameStands (kind : ReportKind) (subject : Nat) (detail : List Byte) (s : State) :
    FrameStands s (report kind subject detail s) := offerReport_frameStands _ s

theorem offerQueue_frameStands (m : LinkMessage) (s : State) : FrameStands s (offerQueue m s).1 := by
  unfold offerQueue
  split
  · exact (FrameStands.queue _ s).trans (countChannel_frameStands _)
  · split
    · exact .queue (fun mc => { mc with queue := mc.queue ++ [m] }) s
    · exact countChannel_frameStands s

theorem setKept_frameStands (p : Producer) (ks : List KeptMessage) (s : State) : FrameStands s (setKept p ks s) := by
  cases p <;> exact .of_same

theorem send_frameStands (p : Producer) (m : LinkMessage) (s : State) : FrameStands s (send p m s) := by
  rw [send_eq]
  refine .of_ite (fun _ => .of_ite (fun _ => offerQueue_frameStands m s) fun _ => ?_) fun _ => setKept_frameStands _ _ s
  exact (offerQueue_frameStands m s).trans (setKept_frameStands _ _ _)

/-! ### The Self-Test Unit and the Tenant Unit -/

theorem tryDone_frameStands (s : State) : FrameStands s (tryDone s) := by
  unfold tryDone
  exact .of_ite (fun _ => (FrameStands.st _ s).trans (report_frameStands _ _ _ _)) fun _ => .refl

theorem testStopped_frameStands (verdict : Option TestOutcome) (await : Bool) (s : State) :
    FrameStands s (testStopped verdict await s) := by
  unfold testStopped
  exact .of_ite (fun _ => (FrameStands.st _ s).trans (.mp _ _)) fun _ => .st _ s

theorem stopTest_frameStands (verdict : Option TestOutcome) (offerStop await : Bool) (s : State) :
    FrameStands s (stopTest verdict offerStop await s) := by
  rw [stopTest_eq_tryDone]
  refine FrameStands.trans ?_ (tryDone_frameStands _)
  exact .of_ite (fun _ => (testStopped_frameStands _ _ s).trans (send_frameStands _ _ _)) fun _ => testStopped_frameStands _ _ s

theorem finishTest_frameStands (s : State) : FrameStands s (finishTest s) := by
  unfold finishTest
  split <;> exact stopTest_frameStands _ _ _ s

theorem abortTest_frameStands (o : TestOutcome) (b : Bool) (s : State) : FrameStands s (abortTest o b s) :=
  stopTest_frameStands _ _ _ s

theorem testPlanChange_frameStands (old : Plan) (s : State) : FrameStands s (testPlanChange old s) := by
  unfold testPlanChange
  refine FrameStands.trans (.of_ite (fun _ => .of_ite (fun _ => abortTest_frameStands _ _ s) fun _ => ?_) fun _ => ?_)
    (tryDone_frameStands _)
  · exact .of_ite (fun _ => .st _ s) fun _ => .refl
  · exact .of_ite (fun _ => .st _ s) fun _ => .refl

theorem testLinkDown_frameStands (b : Bool) (s : State) : FrameStands s (testLinkDown b s) := by
  unfold testLinkDown
  exact .of_ite (fun _ => (FrameStands.st _ s).trans (abortTest_frameStands _ _ _)) fun _ => .st _ s

theorem refreshTenants_frameStands (s : State) : FrameStands s (refreshTenants s) := by
  refine { FrameStands.refl (s := s) with tenants := fun n => ?_, out := by simp [refreshTenants], counts := .of_live }
  obtain ⟨hstate, _, _, hfar, hqueue, hreassembly, _⟩ := refreshTenants_record s n
  exact .of_same hqueue hfar hreassembly hstate

/-- Only a DRAINING tenant is closed (R90). -/
theorem closeCondition_draining {s : State} {t : Tenant} (h : closeCondition s t = true) :
    (tenantRec s t).state = .draining := by
  refine Classical.byContradiction fun hother => ?_
  have hstate : ((s.tn.tenants.get t).state == .draining) = false := by rwa [beq_eq_false_iff_ne]
  rw [closeCondition] at h
  simp [hstate] at h

theorem closeTenant_frameStands (t : Tenant) (s : State) : FrameStands s (closeTenant t s) := by
  unfold closeTenant
  split
  case isTrue hclose =>
    have hdraining : (tenantRec s t).state = .draining := closeCondition_draining hclose
    refine (FrameStands.tenant t _ s ⟨rfl, rfl, .inr ⟨?_, rfl, rfl⟩, fun _ => rfl⟩).trans (report_frameStands _ _ _ _)
    rw [hdraining]
    decide
  case isFalse => exact .refl

theorem closeEval_frameStands (s : State) : FrameStands s (closeEval s) :=
  ((((closeTenant_frameStands .t1 s).trans (closeTenant_frameStands .t2 _)).trans (closeTenant_frameStands .t3 _)).trans
    (closeTenant_frameStands .t4 _)).trans (refreshTenants_frameStands _)

theorem evalSync_frameStands (t : Tenant) (s : State) : FrameStands s (evalSync t s).1 := by
  rw [evalSync_eq, apply_ite Prod.fst]
  exact .of_ite (fun _ => .refl) fun _ => (FrameStands.tenant t _ s .of_same).trans (report_frameStands _ _ _ _)

/-! ### The Plan Store and the allocations -/

theorem installPending_frameStands (p : Pending) {s : State} (h : s.lc.role = .site) :
    FrameStands s (installPending p s) := by
  have hcounted : FrameStands s (if s.ps.pending.isSome then countLink .pendingDiscards s else s) :=
    .of_ite (fun _ => countLink_frameStands s) fun _ => .refl
  have hrole : ((if s.ps.pending.isSome then countLink .pendingDiscards s else s).modPS fun ps =>
      { ps with pending := some p }).lc.role ≠ .hub := by
    simp [apply_ite State.lc, h]
  unfold installPending
  dsimp only
  rw [if_neg hrole]
  exact (hcounted.trans (.ps _ _)).trans (closeEval_frameStands _)

theorem offerPlan_frameStands (p : Pending) {s : State} (h : s.lc.role = .site) : FrameStands s (offerPlan p s).1 := by
  rw [offerPlan_eq]
  dsimp only
  split
  · exact installPending_frameStands p h
  · exact .refl

theorem dropPending_frameStands (s : State) : FrameStands s (dropPending s) := by
  unfold dropPending
  exact .of_ite (fun _ => ((FrameStands.ps _ s).trans (countLink_frameStands _)).trans (closeEval_frameStands _)) fun _ => .refl

theorem propose_frameStands (c : Candidate) (s : State) : FrameStands s (propose c s).1 := by
  rw [propose_eq]
  split
  case isTrue hfree =>
    obtain ⟨hrole, hlc⟩ := hfree
    have hup : s.lc.link ≠ .off := by
      have hlink : s.lc.link = .up := by
        simp only [lcFree, Bool.and_eq_true, beq_iff_eq] at hlc
        exact hlc.1.1.1
      simp [hlink]
    have hoffer := offerPlan_frameStands (proposalOf c s) hrole
    split
    · have hsent := (((hoffer.trans (.lc (fun lc =>
          { lc with proposal := some ⟨(proposalOf c s).plan.number, (proposalOf c s).effective, false⟩ }) _)).trans
        (send_frameStands .linkController (shiftMessage (proposalOf c s)) _)).trans
        (countLink_frameStands (c := .shiftsProposed) _))
      refine (hsent.trans (.moved (fun lc => { lc with link := .shift }) _ ?_ ?_)).trans (report_frameStands _ _ _ _)
      · exact fun e => hup (hsent.off.mp e)
      · exact LinkState.noConfusion
    · exact (hoffer.trans (.lc _ _)).trans (countLink_frameStands _)
  case isFalse => exact .refl

theorem roomAbort_frameStands (s : State) : FrameStands s (roomAbort s) := by
  unfold roomAbort
  exact .of_ite (fun _ => (countLink_frameStands s).trans (abortTest_frameStands _ _ _)) fun _ => countLink_frameStands s

theorem allocateOnce_frameStands (cause : AllocCause) (target : Nat) (s : State) :
    FrameStands s (allocateOnce cause target s) := by
  rw [allocateOnce_eq]
  have hroom : FrameStands s (if roomFails (allocInput s) (min target (ceiling s)) s.st.reqTest then roomAbort s else s) :=
    .of_ite (fun _ => roomAbort_frameStands s) fun _ => .refl
  generalize (if roomFails (allocInput s) (min target (ceiling s)) s.st.reqTest then roomAbort s else s) = u at hroom ⊢
  refine .of_ite (fun _ => .of_ite (fun _ => ?_) fun _ => ?_) fun _ => ?_
  · exact ((hroom.trans (.ca _ _)).trans (countLink_frameStands _)).trans (propose_frameStands _ _)
  · exact (((hroom.trans (.ca _ _)).trans (countLink_frameStands _)).trans (propose_frameStands _ _)).trans (.ca _ _)
  · exact (hroom.trans (.ca _ _)).trans (countLink_frameStands _)

theorem deferTrigger_frameStands (s : State) : FrameStands s (deferTrigger s) :=
  (FrameStands.ca _ s).trans (countLink_frameStands _)

theorem allocate_frameStands (cause : AllocCause) (target : Nat) (s : State) : FrameStands s (allocate cause target s) := by
  unfold allocate
  have h := allocateOnce_frameStands cause target s
  exact .of_ite (fun _ => .of_ite (fun _ => h.trans (allocateOnce_frameStands _ _ _)) fun _ =>
    h.trans (deferTrigger_frameStands _))
    fun _ => h

theorem trigger_frameStands (cause : AllocCause) (s : State) : FrameStands s (trigger cause s) := by
  unfold trigger
  split
  · exact .refl
  · exact .of_ite (fun _ => allocate_frameStands _ _ s) fun _ => deferTrigger_frameStands s

theorem triggerIf_frameStands (cause : AllocCause) (flag : Bool) (s : State) : FrameStands s (triggerIf cause flag s) := by
  unfold triggerIf
  exact .of_ite (fun _ => trigger_frameStands cause s) fun _ => .refl

theorem serveWaiting_frameStands (s : State) : FrameStands s (serveWaiting s) := by
  unfold serveWaiting
  exact .of_ite (fun _ => allocate_frameStands _ _ s) fun _ => .refl

theorem withTestTrigger_frameStands {f : State → State} {s : State} (h : FrameStands s (f s)) :
    FrameStands s (withTestTrigger f s) := by
  unfold withTestTrigger
  exact .of_ite (fun _ => h.trans (trigger_frameStands _ _)) fun _ => h

theorem syncAll_frameStands (s : State) : FrameStands s (syncAll s) := by
  rw [syncAll_eq]
  exact (((((((evalSync_frameStands .t1 s).trans (evalSync_frameStands .t2 _)).trans (evalSync_frameStands .t3 _)).trans
    (evalSync_frameStands .t4 _)).trans (triggerIf_frameStands _ _ _)).trans (triggerIf_frameStands _ _ _)).trans
    (triggerIf_frameStands _ _ _)).trans (triggerIf_frameStands _ _ _)

/-! ### The Timing Unit -/

theorem setTiming_frameStands (new : TimingState) (cause : TimingCause) (s : State) : FrameStands s (setTiming new cause s) :=
  (FrameStands.trans (t := (s.modTM fun tm => { tm with state := new, goodRun := 0, largeRun := 0 }).modTM fun tm =>
    { tm with pps := tm.pps && pulsing tm }) .of_same (syncAll_frameStands _)).trans (report_frameStands _ _ _ _)

theorem enterHoldover_frameStands (cause : TimingCause) (s : State) : FrameStands s (enterHoldover cause s) :=
  (FrameStands.tm _ s).trans (setTiming_frameStands _ _ _)

theorem timingLinkUp_frameStands (s : State) : FrameStands s (timingLinkUp s) := by
  unfold timingLinkUp
  split
  · exact .refl
  · exact .of_ite (fun _ => (FrameStands.tm _ s).trans (setTiming_frameStands _ _ _)) fun _ => .tm _ s

theorem timingLinkDown_frameStands (s : State) : FrameStands s (timingLinkDown s) := by
  unfold timingLinkDown
  dsimp only
  split
  · exact (FrameStands.tm _ s).trans (setTiming_frameStands _ _ _)
  · exact (FrameStands.tm _ s).trans (enterHoldover_frameStands _ _)
  · exact .tm _ s

/-! ### The link's entries -/

theorem failShift_frameStands (failure : ShiftFailure) (p : Proposal) (s : State) : FrameStands s (failShift failure p s) :=
  ((FrameStands.lc _ s).trans (countLink_frameStands _)).trans (report_frameStands _ _ _ _)

theorem endShift_frameStands (accepted : Bool) (s : State) : FrameStands s (endShift accepted s) := by
  unfold endShift
  refine .of_ite (fun hshift => ?_) fun _ => .refl
  obtain ⟨hlink, _⟩ := hshift
  exact (FrameStands.moved (fun lc => { lc with link := .up }) s (by rw [hlink]; exact LinkState.noConfusion)
    LinkState.noConfusion).trans (report_frameStands _ _ _ _)

theorem proposalLost_frameStands (s : State) : FrameStands s (proposalLost s) := by
  unfold proposalLost
  split
  · exact failShift_frameStands _ _ s
  · exact .refl

theorem linkLost_frameStands (cause : LinkCause) {s : State} (h : s.lc.link ≠ .off) : FrameStands s (linkLost cause s) :=
  ((((FrameStands.moved (fun lc => { lc with link := .lost, lostCount := some 0 }) s h LinkState.noConfusion).trans
    (.sf _ _)).trans (report_frameStands _ _ _ _)).trans (dropPending_frameStands _)).trans (.ps _ _)

theorem enterLost_frameStands (cause : LinkCause) {s : State} (h : s.lc.link ≠ .off) : FrameStands s (enterLost cause s) := by
  have hlost := linkLost_frameStands cause h
  have hdown : FrameStands s (if inPair s.lc.link then timingLinkDown (linkLost cause s) else linkLost cause s) :=
    .of_ite (fun _ => hlost.trans (timingLinkDown_frameStands _)) fun _ => hlost
  rw [enterLost_eq]
  exact (hdown.trans (proposalLost_frameStands _)).trans
    (withTestTrigger_frameStands ((testLinkDown_frameStands true _).trans (tryDone_frameStands _)))

theorem linkUp_frameStands (cause : LinkCause) {s : State} (h : s.lc.link ≠ .off) : FrameStands s (linkUp cause s) :=
  (((((FrameStands.moved (fun lc =>
    { lc with link := .up, farFast := 0, farSlow := 0, farHold := PerTenant.const false, joinRecord := none,
              lostCount := none }) s h LinkState.noConfusion).trans (.sf _ _)).trans (.ca _ _)).trans
    (report_frameStands _ _ _ _)).trans (timingLinkUp_frameStands _)).trans (closeEval_frameStands _)

theorem enterUp_frameStands (cause : LinkCause) {s : State} (h : s.lc.link ≠ .off) : FrameStands s (enterUp cause s) := by
  have hup := linkUp_frameStands cause h
  rw [enterUp_eq]
  exact .of_ite (fun _ => hup.trans (enterLost_frameStands _ (linkUp_not_off cause s))) fun _ =>
    hup.trans (serveWaiting_frameStands _)

/-! ### Changes of the active plan -/

theorem shiftAccepted_frameStands (s : State) : FrameStands s (shiftAccepted s) := by
  unfold shiftAccepted
  split
  · exact ((FrameStands.lc _ s).trans (countLink_frameStands _)).trans (endShift_frameStands _ _)
  · exact endShift_frameStands _ s

theorem linkPlanChange_frameStands (cause : PlanCause) (s : State) : FrameStands s (linkPlanChange cause s) := by
  rw [linkPlanChange_eq]
  have h : FrameStands s (shiftAccepted (s.modLC fun lc => { lc with sinceChange := 0 })) :=
    (FrameStands.lc _ s).trans (shiftAccepted_frameStands _)
  refine .of_ite (fun _ => .of_ite (fun hjoins => ?_) fun _ => h) fun _ => .lc _ s
  exact h.trans (enterUp_frameStands _ (joinsBy_not_off hjoins))

theorem notifyPlan_frameStands (cause : PlanCause) (old : Plan) (s : State) : FrameStands s (notifyPlan cause old s) :=
  (((closeEval_frameStands s).trans (withTestTrigger_frameStands (testPlanChange_frameStands _ _))).trans
    (linkPlanChange_frameStands cause _)).trans (report_frameStands _ _ _ _)

theorem activationCounted_frameStands (cause : PlanCause) (s : State) : FrameStands s (activationCounted cause s) :=
  .of_ite (fun _ => (countLink_frameStands s).trans (countLink_frameStands _)) fun _ => countLink_frameStands s

theorem activatePending_frameStands (cause : PlanCause) (s : State) : FrameStands s (activatePending cause s) := by
  cases hp : s.ps.pending with
  | none => rw [activatePending_none hp]; exact .refl
  | some p =>
    rw [activatePending_some hp]
    exact ((activationCounted_frameStands cause s).trans (.ps _ _)).trans (notifyPlan_frameStands _ _ _)

theorem makeActive_frameStands (new : Plan) (cause : PlanCause) (s : State) : FrameStands s (makeActive new cause s) :=
  (FrameStands.ps _ s).trans (notifyPlan_frameStands _ _ _)

theorem takeFallback_frameStands (s : State) : FrameStands s (takeFallback s) := by
  unfold takeFallback
  exact .of_ite (fun _ => .ps _ s) fun _ => (FrameStands.ps _ s).trans (makeActive_frameStands _ _ _)

theorem takeIdle_frameStands (s : State) : FrameStands s (takeIdle s) := by
  unfold takeIdle
  exact .of_ite (fun _ => (FrameStands.ps _ s).trans (closeEval_frameStands _)) fun _ =>
    (FrameStands.ps _ s).trans (notifyPlan_frameStands _ _ _)

theorem loopPlansTaken_frameStands (s : State) : FrameStands s (loopPlansTaken s) := by
  have hswitch : FrameStands s (loopSwitched s) := (FrameStands.mp _ s).trans (.sf _ _)
  exact .of_ite (fun _ => (hswitch.trans (.st _ _)).trans (makeActive_frameStands _ _ _))
    fun _ => hswitch.trans (makeActive_frameStands _ _ _)

theorem takeLoopSwitch_frameStands (s : State) : FrameStands s (takeLoopSwitch s) := by
  rw [takeLoopSwitch_eq]
  exact FrameStands.trans (.of_ite (fun _ => takeIdle_frameStands s) fun _ => .refl) (loopPlansTaken_frameStands _)

theorem takeDueChanges_frameStands (s : State) : FrameStands s (takeDueChanges s) := by
  unfold takeDueChanges
  exact ((((FrameStands.refl.when (takeLoopSwitch_frameStands _)).when (takeFallback_frameStands _)).when
    (takeIdle_frameStands _)).when (activatePending_frameStands _ _)).when (activatePending_frameStands _ _)

theorem evaluateFall_frameStands (s : State) : FrameStands s (evaluateFall s) :=
  .of_ite (fun _ => allocate_frameStands _ _ s) fun _ => .refl

theorem testComposed_frameStands (plan : Plan) (s : State) : FrameStands s (testComposed plan s) := by
  have hcounted : FrameStands s (s.modST countFrame) :=
    .st _ s (by unfold countFrame; split <;> rfl) (by unfold countFrame; split <;> rfl)
  exact .of_ite (fun _ => .of_ite (fun _ => hcounted.trans (finishTest_frameStands _)) fun _ => hcounted) fun _ => .refl

theorem afterSending_frameStands (before : PerTenant TenantRec) (s : State) : FrameStands s (afterSending before s) :=
  ((((closeEval_frameStands s).trans (triggerIf_frameStands _ _ _)).trans (triggerIf_frameStands _ _ _)).trans
    (triggerIf_frameStands _ _ _)).trans (triggerIf_frameStands _ _ _)

end Sys2Proof.Machine


/-! PROOF FRAME_BOUNDARY composes the frame (O5). -/

namespace Sys2Proof.Machine

set_option Elab.async false

/-! ### Counting depends on the counter alone -/

theorem countTimes_congr {α : Type} {g : State → α} {count : State → State}
    (hstep : ∀ s t, g s = g t → g (count s) = g (count t)) {s t : State} (h : g s = g t) (n : Nat) :
    g (countTimes count n s) = g (countTimes count n t) := by
  induction n generalizing s t with
  | zero => exact h
  | succ n ih => exact ih (hstep s t h)

theorem countIf_congr {α : Type} {g : State → α} {count : State → State}
    (hstep : ∀ s t, g s = g t → g (count s) = g (count t)) {s t : State} (h : g s = g t) (b : Bool) :
    g (countIf b count s) = g (countIf b count t) := by
  cases b
  · exact h
  · exact hstep s t h

theorem linkCount_countLink_congr (c : LinkCounter) (s t : State) (h : linkCount c s = linkCount c t) :
    linkCount c (countLink c s) = linkCount c (countLink c t) := by
  simp only [linkCount, countLink, State.modCB, bumpAt] at h ⊢
  simp [h]

/-- A live counter of the timing group. -/
def timingCount (c : TimingCounter) (s : State) : Option Nat := s.cb.live.timing[c.ctorIdx]?

theorem timingCount_countTiming_congr (c : TimingCounter) (s t : State) (h : timingCount c s = timingCount c t) :
    timingCount c (countTiming c s) = timingCount c (countTiming c t) := by
  simp only [timingCount, countTiming, State.modCB, bumpAt] at h ⊢
  simp [h]

theorem timingCount_countIf_other {c d : TimingCounter} (h : c.ctorIdx ≠ d.ctorIdx) (b : Bool) (s : State) :
    timingCount d (countIf b (countTiming c) s) = timingCount d s := by
  cases b
  · rfl
  · exact bumpAt_other h

/-- The live counters of a tenant. -/
def tenantCounts (n : Tenant) (s : State) : List Nat := s.cb.live.tenants.get n

theorem tenantCounts_countTenant_congr (n : Tenant) (c : TenantCounter) (s t : State)
    (h : tenantCounts n s = tenantCounts n t) : tenantCounts n (countTenant n c s) = tenantCounts n (countTenant n c t) := by
  simp only [tenantCounts, countTenant, State.modCB] at h ⊢
  simp [h]

theorem tenantCounts_countTimes_other {n m : Tenant} (h : n ≠ m) (c : TenantCounter) (k : Nat) (s : State) :
    tenantCounts n (countTimes (countTenant m c) k s) = tenantCounts n s :=
  countTimes_frame (tenantCounts n) (countTenant m c) (fun _ => PerTenant.get_set_ne _ h _) k s

theorem countTimes_countTenant_live (m : Tenant) (c : TenantCounter) (k : Nat) (s : State) :
    (countTimes (countTenant m c) k s).cb.live.channel = s.cb.live.channel ∧
      (countTimes (countTenant m c) k s).cb.live.link = s.cb.live.link :=
  ⟨countTimes_frame (·.cb.live.channel) (countTenant m c) (fun _ => rfl) k s,
    countTimes_frame (·.cb.live.link) (countTenant m c) (fun _ => rfl) k s⟩

/-! ### The positions of the tenants -/

/-- The stream that a tenant sends in a frame (R98). -/
def streamOf (n : Tenant) (s : State) : Stream :=
  fillPositions (tenantRec s n).config.fill (s.ps.active.counts.get n) (tenantRec s n).queue

theorem composeTenant_snd (n : Tenant) (s : State) : (composeTenant n s).2 = (streamOf n s).positions := rfl

theorem composeTenant_rec (n m : Tenant) (s : State) : tenantRec (composeTenant m s).1 n =
    if n = m then { tenantRec s n with queue := (streamOf n s).queue } else tenantRec s n := by
  have htn : (composeTenant m s).1.tn =
      (modTenant m (fun r => { r with queue := (streamOf m s).queue })
        (s.modTN fun tn => { tn with free := tn.free + (streamOf m s).freed })).tn := by
    rw [composeTenant_fst]
    exact (countTimes_countTenant_frame m .packetsSent _ _).2.2.2.2.2.1
  rw [tenantRec, htn, ← tenantRec, tenantRec_modTenant]
  split
  · next h => rw [h]; rfl
  · rfl

theorem composeTenant_free (m : Tenant) (s : State) :
    (composeTenant m s).1.tn.free = s.tn.free + (streamOf m s).freed := by
  rw [composeTenant_fst]
  simp [streamOf]

theorem streamOf_composeTenant {n m : Tenant} (h : n ≠ m) (s : State) :
    streamOf n (composeTenant m s).1 = streamOf n s := by
  have hps : (composeTenant m s).1.ps = s.ps := by simp
  rw [streamOf, composeTenant_rec, if_neg h, hps, ← streamOf]

/-- A tenant's packets sent are counted by what its queue and its counters were, whatever was composed before. -/
theorem composeTenant_counts {n : Tenant} {s u : State} (hstream : streamOf n s = streamOf n u)
    (hcounts : tenantCounts n s = tenantCounts n u) : tenantCounts n (composeTenant n s).1 =
      tenantCounts n (countTimes (countTenant n .packetsSent) (streamOf n u).sent u) := by
  rw [composeTenant_fst, ← streamOf, hstream]
  refine countTimes_congr (tenantCounts_countTenant_congr n .packetsSent) ?_ _
  exact hcounts

theorem composeTenant_counts_other {n m : Tenant} (h : n ≠ m) (s : State) :
    tenantCounts n (composeTenant m s).1 = tenantCounts n s := by
  rw [composeTenant_fst]
  exact tenantCounts_countTimes_other h _ _ _

theorem composeTenant_live (m : Tenant) (s : State) :
    (composeTenant m s).1.cb.live.channel = s.cb.live.channel ∧ (composeTenant m s).1.cb.live.link = s.cb.live.link := by
  rw [composeTenant_fst]
  exact countTimes_countTenant_live m _ _ _

/-- The four tenants' positions composed, in order (R17). -/
def tenantsComposed (s : State) : State :=
  (composeTenant .t4 (composeTenant .t3 (composeTenant .t2 (composeTenant .t1 s).1).1).1).1

@[simp] theorem tenantsComposed_frame (s : State) :
    (tenantsComposed s).mp = s.mp ∧ (tenantsComposed s).ps = s.ps ∧ (tenantsComposed s).mc = s.mc ∧
      (tenantsComposed s).lc = s.lc ∧ (tenantsComposed s).tm = s.tm ∧ (tenantsComposed s).st = s.st ∧
      (tenantsComposed s).cb.live.timing = s.cb.live.timing ∧ (tenantsComposed s).cb.live.channel = s.cb.live.channel ∧
      (tenantsComposed s).cb.live.link = s.cb.live.link := by
  refine ⟨?_, ?_, ?_, ?_, ?_, ?_, ?_, ?_, ?_⟩ <;>
    simp [tenantsComposed, composeTenant_live]

theorem tenantsComposed_queue (n : Tenant) (s : State) : (tenantRec (tenantsComposed s) n).queue = (streamOf n s).queue := by
  cases n <;> simp [tenantsComposed, composeTenant_rec, streamOf_composeTenant]

theorem tenantsComposed_free (s : State) : (tenantsComposed s).tn.free = s.tn.free +
    ((streamOf .t1 s).freed + (streamOf .t2 s).freed + (streamOf .t3 s).freed + (streamOf .t4 s).freed) := by
  simp only [tenantsComposed, composeTenant_free, streamOf_composeTenant, ne_eq, reduceCtorEq, not_false_eq_true]
  omega

theorem tenantsComposed_counts (n : Tenant) (s : State) : tenantCounts n (tenantsComposed s) =
    tenantCounts n (countTimes (countTenant n .packetsSent) (streamOf n s).sent s) := by
  cases n <;> simp only [tenantsComposed, composeTenant_counts_other, ne_eq, reduceCtorEq, not_false_eq_true] <;>
    exact composeTenant_counts (by simp only [streamOf_composeTenant, ne_eq, reduceCtorEq, not_false_eq_true])
      (by simp only [composeTenant_counts_other, ne_eq, reduceCtorEq, not_false_eq_true])

/-! ### The frame placed -/

/-- The positions between position 0 and the spare ones: TEST, then the tenants' (R17). -/
def ownedPositions (s : State) : List (List Byte) :=
  testPositions s ++ (streamOf .t1 s).positions ++ (streamOf .t2 s).positions ++ (streamOf .t3 s).positions ++
    (streamOf .t4 s).positions

theorem streamOf_takeArea (n : Tenant) (s : State) : streamOf n (takeArea s).1 = streamOf n s := by
  simp [streamOf, tenantRec]

theorem placeFrame_eq (s : State) : placeFrame s =
    holdFrame (headerBytes (headerOf s) ++ (takeArea s).2) (ownedPositions s) (tenantsComposed (takeArea s).1) := by
  have howned : testPositions s ++ (composeTenant .t1 (takeArea s).1).2 ++
      (composeTenant .t2 (composeTenant .t1 (takeArea s).1).1).2 ++
      (composeTenant .t3 (composeTenant .t2 (composeTenant .t1 (takeArea s).1).1).1).2 ++
      (composeTenant .t4 (composeTenant .t3 (composeTenant .t2 (composeTenant .t1 (takeArea s).1).1).1).1).2 =
      ownedPositions s := by
    simp [ownedPositions, composeTenant_snd, streamOf_composeTenant, streamOf_takeArea]
  rw [← howned]
  rfl

theorem holdFrame_mp (p : List Byte) (owned : List (List Byte)) (s : State) : (holdFrame p owned s).mp =
    { s.mp with
      txBefore := s.mp.tx,
      tx := ⟨s.mp.frame, s.ps.active.profile, muted s,
        p :: (owned ++ List.replicate (usable s.ps.active.profile - 1 - owned.length) onesPosition)⟩,
      composed := true } := by
  unfold holdFrame
  dsimp only
  split <;> rfl

theorem holdFrame_channel (p : List Byte) (owned : List (List Byte)) (s : State) :
    (holdFrame p owned s).cb.live.channel = s.cb.live.channel := by
  unfold holdFrame
  dsimp only
  split <;> rfl

/-- A muted frame is counted (R11). -/
theorem holdFrame_link (p : List Byte) (owned : List (List Byte)) (s : State) :
    (holdFrame p owned s).cb.live.link = (countIf (muted s) (countLink .mutedFrames) s).cb.live.link := by
  unfold holdFrame countIf
  dsimp only
  split <;> rfl

@[simp] theorem fillPositions_length (fill : Byte) (n : Nat) (q : List QPacket) :
    (fillPositions fill n q).positions.length = n := by
  induction n generalizing q with
  | zero => rfl
  | succ n ih => rw [fillPositions, List.length_cons, ih]

theorem ownedPositions_length (s : State) : (ownedPositions s).length = s.ps.active.test + s.ps.active.counts.sum := by
  simp [ownedPositions, testPositions, streamOf, PerTenant.sum, PerTenant.get]
  omega

theorem muted_tenantsComposed (s : State) : muted (tenantsComposed (takeArea s).1) = muted s := by
  simp [muted]

theorem placeFrame_mp (s : State) : (placeFrame s).mp =
    { s.mp with
      txBefore := s.mp.tx,
      tx := ⟨s.mp.frame, s.ps.active.profile, muted s, (headerBytes (headerOf s) ++ (takeArea s).2) ::
        (ownedPositions s ++ List.replicate
          (usable s.ps.active.profile - 1 - (s.ps.active.test + s.ps.active.counts.sum)) onesPosition)⟩,
      composed := true } := by
  rw [placeFrame_eq, holdFrame_mp, ownedPositions_length, muted_tenantsComposed]
  simp

theorem placeFrame_tenants (n : Tenant) (s : State) : (tenantRec (placeFrame s) n).queue = (streamOf n s).queue := by
  have htn : (placeFrame s).tn = (tenantsComposed (takeArea s).1).tn := by rw [placeFrame_eq]; simp
  rw [tenantRec, htn, ← tenantRec, tenantsComposed_queue, streamOf_takeArea]

theorem placeFrame_free (s : State) : (placeFrame s).tn.free = s.tn.free +
    ((streamOf .t1 s).freed + (streamOf .t2 s).freed + (streamOf .t3 s).freed + (streamOf .t4 s).freed) := by
  have htn : (placeFrame s).tn = (tenantsComposed (takeArea s).1).tn := by rw [placeFrame_eq]; simp
  simp only [htn, tenantsComposed_free, streamOf_takeArea, takeArea_frame]

theorem placeFrame_tenantCounts (n : Tenant) (s : State) : tenantCounts n (placeFrame s) =
    tenantCounts n (countTimes (countTenant n .packetsSent) (streamOf n s).sent s) := by
  have hlive : tenantCounts n (placeFrame s) = tenantCounts n (tenantsComposed (takeArea s).1) := by
    rw [placeFrame_eq, tenantCounts, tenantCounts]
    simp
  rw [hlive, tenantsComposed_counts, streamOf_takeArea]
  exact countTimes_congr (tenantCounts_countTenant_congr n _) (by simp [tenantCounts]) _

theorem placeFrame_muted (s : State) : linkCount .mutedFrames (placeFrame s) =
    linkCount .mutedFrames (countIf (muted s) (countLink .mutedFrames) s) := by
  rw [placeFrame_eq, linkCount, holdFrame_link, muted_tenantsComposed]
  exact countIf_congr (linkCount_countLink_congr .mutedFrames) (by simp [linkCount]) _

theorem placeFrame_live (s : State) : (placeFrame s).cb.live.channel = (takeArea s).1.cb.live.channel ∧
    (placeFrame s).cb.live.timing = (takeArea s).1.cb.live.timing ∧ (placeFrame s).mc = (takeArea s).1.mc := by
  rw [placeFrame_eq]
  exact ⟨by simp [holdFrame_channel], by simp, by simp⟩

/-! ### The area taken -/

theorem takeArea_aborted {s : State} (h : s.mc.abortArea = true) : takeArea s = (s, abortAreaBytes) := if_pos h

theorem takeArea_bytes (s : State) : (takeArea s).2 =
    if s.mc.abortArea then abortAreaBytes else (composeArea s.mc s.tm.current).bytes := by
  unfold takeArea
  split <;> rfl

theorem areaTimed_frame (a : AreaDone) (r : FrameStart) (s : State) :
    (areaTimed a r s).mc = s.mc ∧ (areaTimed a r s).cb = s.cb := by
  unfold areaTimed
  split
  · simp
  · exact ⟨rfl, rfl⟩

theorem takeArea_sent {s : State} (h : s.mc.abortArea = false) :
    let a := composeArea s.mc s.tm.current
    (takeArea s).1.mc = areaLeft a s.mc ∧
      channelCount .messagesSent (takeArea s).1 =
        channelCount .messagesSent (countTimes (countChannel .messagesSent) a.placed s) ∧
      timingCount .requestsSent (takeArea s).1 =
        timingCount .requestsSent (countIf (a.timePlaced.any (startsExchange s.tm)) (countTiming .requestsSent) s) ∧
      timingCount .responsesSent (takeArea s).1 =
        timingCount .responsesSent (countIf (a.timePlaced.any isResponse) (countTiming .responsesSent) s) := by
  intro a
  obtain ⟨hchannel, htiming, _⟩ := countArea_counts a.placed (a.timePlaced.any (startsExchange s.tm))
    (a.timePlaced.any isResponse) s
  obtain ⟨hmc, hcb⟩ := areaTimed_frame a s.tm.current (countArea a.placed (a.timePlaced.any (startsExchange s.tm))
    (a.timePlaced.any isResponse) s)
  rw [takeArea_composed h]
  refine ⟨?_, ?_, ?_, ?_⟩
  · rw [State.modMC_mc, hmc]
    simp [areaLeft, a]
  · rw [channelCount, State.modMC_cb, hcb, hchannel]
    rfl
  · rw [timingCount, State.modMC_cb, hcb, htiming]
    exact timingCount_countIf_other (by decide) _ _
  · rw [timingCount, State.modMC_cb, hcb, htiming]
    exact countIf_congr (timingCount_countTiming_congr .responsesSent) (timingCount_countIf_other (by decide) _ _) _

/-! ### Before and after the frame is placed -/

/-- What FRAME_BOUNDARY does behind the frame it places (R74, R90, R155); `exec_frameBoundary` ties it to the model. -/
def frameFinished (before : PerTenant TenantRec) (s : State) : State :=
  let s := afterSending before (countStop s)
  let s := withTestTrigger (testComposed s.ps.active) s
  if s.mp.rxTaken then evaluateFall s else s

theorem exec_frameBoundary (elapsed : Nat) (s : State) : exec (.frameBoundary elapsed) s =
    .next (frameFinished (atComposition elapsed s).tn.tenants (placeFrame (atComposition elapsed s))) := rfl

theorem frameFinished_stands (before : PerTenant TenantRec) (s : State) : FrameStands s (frameFinished before s) := by
  have hstop : FrameStands s (countStop s) := .lc _ s
  exact ((hstop.trans (afterSending_frameStands before _)).trans
    (withTestTrigger_frameStands (testComposed_frameStands _ _))).when (evaluateFall_frameStands _)

theorem frameFinished_frame (before : PerTenant TenantRec) (s : State) :
    (frameFinished before s).mp.tx = s.mp.tx ∧ (frameFinished before s).mp.txBefore = s.mp.txBefore ∧
      (frameFinished before s).mp.loopback = s.mp.loopback ∧ (frameFinished before s).mp.composed = s.mp.composed ∧
      (frameFinished before s).ps.active = s.ps.active ∧ (frameFinished before s).tn.free = s.tn.free ∧
      (frameFinished before s).tm = s.tm ∧ (frameFinished before s).mp.frame = s.mp.frame := by
  refine ⟨?_, ?_, ?_, ?_, ?_, ?_, ?_, ?_⟩
  · simp [frameFinished, apply_ite State.mp, apply_ite MP.tx]
  · simp [frameFinished, apply_ite State.mp, apply_ite MP.txBefore]
  · simp [frameFinished, apply_ite State.mp, apply_ite MP.loopback]
  · simp [frameFinished, apply_ite State.mp, apply_ite MP.composed]
  · simp [frameFinished, apply_ite State.ps, apply_ite PS.active]
  · simp [frameFinished, apply_ite State.tn, apply_ite TN.free]
  · simp [frameFinished, apply_ite State.tm]
  · simp [frameFinished, apply_ite State.mp, apply_ite MP.frame]

theorem openBoundary_counts (s : State) : CountsStand s (openBoundary s) := by
  unfold openBoundary
  dsimp only
  split
  · exact (CountsStand.countLink (c := .renumberings) s).trans .of_live
  · exact .of_live

/-- What stands until the frame is placed: the counters of what is sent and received, and whether the link is OFF. -/
theorem atComposition_stands (elapsed : Nat) (s : State) :
    CountsStand s (atComposition elapsed s) ∧ ((atComposition elapsed s).lc.link = .off ↔ s.lc.link = .off) := by
  obtain ⟨b, hb⟩ : ∃ b, b = if s.mp.composed then openBoundary s else s := ⟨_, rfl⟩
  have hopen : CountsStand s b ∧ (b.lc.link = .off ↔ s.lc.link = .off) := by
    rw [hb]
    split
    · exact ⟨openBoundary_counts s, by simp [openLC]⟩
    · exact ⟨.of_live, .rfl⟩
  have hstands : FrameStands b (takeDueChanges (advanceCounter elapsed b)) :=
    (FrameStands.tm _ b).trans (takeDueChanges_frameStands _)
  rw [atComposition, ← hb]
  exact ⟨(hopen.1.trans hstands.counts).trans .of_live, Iff.trans (by simp) (hstands.off.trans hopen.2)⟩

theorem atComposition_frame (elapsed : Nat) (s : State) :
    (atComposition elapsed s).mp.frame =
        (if s.mp.composed then s.mp.renumber.getD (s.mp.frame + 1) else s.mp.frame) ∧
      (atComposition elapsed s).mp.rxTaken = (if s.mp.composed then false else s.mp.rxTaken) ∧
      (atComposition elapsed s).mp.tx = s.mp.tx ∧ (atComposition elapsed s).tn.free = s.tn.free ∧
      (atComposition elapsed s).tm.before = s.tm.current ∧
      (atComposition elapsed s).tm.current =
        ⟨(atComposition elapsed s).mp.frame, advanceTime elapsed s.tm.time,
          (atComposition elapsed s).ps.active.number⟩ := by
  have htime : ∀ b : State, (advanceCounter elapsed b).tm.time = advanceTime elapsed b.tm.time := fun _ => rfl
  have hcurrent : ∀ b : State, (recordStart b).tm.before = b.tm.current ∧
      (recordStart b).tm.current = ⟨b.mp.frame, b.tm.time, b.ps.active.number⟩ := fun _ => ⟨rfl, rfl⟩
  unfold atComposition
  split
  · simp [hcurrent, htime, openMP, openTM]
  · simp [hcurrent, htime]

/-- Settles O5: the frame is placed by the plan active there, and what comes behind it leaves it alone. -/
theorem frameBoundaryComposesTheFrame : Obligations.FrameBoundaryComposesTheFrame := by
  intro elapsed s u plan stream area
  obtain ⟨hframe, hrx, htx, hfree, hbefore, hcurrent⟩ := atComposition_frame elapsed s
  obtain ⟨hcounts, hoff⟩ : CountsStand s u ∧ (u.lc.link = .off ↔ s.lc.link = .off) := atComposition_stands elapsed s
  obtain ⟨t, ht⟩ : ∃ t, t = frameFinished u.tn.tenants (placeFrame u) := ⟨_, rfl⟩
  have hstands : FrameStands (placeFrame u) t := ht ▸ frameFinished_stands _ _
  have hfinished := frameFinished_frame u.tn.tenants (placeFrame u)
  rw [← ht] at hfinished
  obtain ⟨ftx, ftxBefore, floop, fcomposed, factive, ffree, ftm, fframe⟩ := hfinished
  obtain ⟨lchannel, ltiming, lmc⟩ := placeFrame_live u
  rw [placeFrame_mp] at ftx ftxBefore floop fcomposed fframe
  have hwhole : t = composeFrame elapsed (if s.mp.composed then openBoundary s else s) := ht
  have hmuted : (s.lc.link == .off || t.mp.loopback) = muted u := by
    have hlink : (u.lc.link == .off) = (s.lc.link == .off) := by
      rw [Bool.eq_iff_iff, beq_iff_eq, beq_iff_eq]
      exact hoff
    rw [floop, ← hlink]
    rfl
  have hsent := hstands.counts
  refine ⟨t, ht ▸ exec_frameBoundary elapsed s, fframe.trans hframe, fcomposed, ?_, ?_, ?_, ?_, ftxBefore.trans htx,
    ?_, ?_, ?_, ?_, ?_, ?_, ?_, ?_⟩
  · rw [hwhole, (composeFrame_frame _ _).2.2.1]
    split <;> simp [openMP]
  · rw [factive, (placeFrame_frame u).2.1]
  · rw [ftm, fframe, (placeFrame_frame_3 u).2.2.2.2.1]
    exact hcurrent
  · rw [ftm, (placeFrame_frame_3 u).2.2.2.2.2.1]
    exact hbefore
  · rw [hmuted, ftx, fframe, takeArea_bytes]
    rfl
  · intro hwf
    have hfits : 1 + plan.test + plan.counts.sum ≤ usable plan.profile := by
      simp only [Plan.wellFormed, Bool.and_eq_true, decide_eq_true_eq] at hwf
      exact hwf.2
    rw [ftx]
    simp only [List.length_cons, List.length_append, ownedPositions_length, List.length_replicate]
    change plan.test + plan.counts.sum + (usable plan.profile - 1 - (plan.test + plan.counts.sum)) + 1 = _
    omega
  · have hcount := hsent.link .mutedFrames (by decide)
    rw [placeFrame_muted] at hcount
    have hmute : muted u = t.mp.tx.mute := by rw [ftx]
    rw [hmute] at hcount
    exact hcount.trans (countIf_congr (linkCount_countLink_congr .mutedFrames) (hcounts.link .mutedFrames (by decide)) _)
  · intro habort
    have hsame : (takeArea u).1 = u := by rw [takeArea_aborted habort]
    rw [hsame] at lchannel ltiming
    refine ⟨?_, fun c _ => ?_⟩
    · rw [hsent.channel .messagesSent (by decide), channelCount, lchannel]
      exact hcounts.channel .messagesSent (by decide)
    · rw [hsent.timing, ltiming, hcounts.timing]
  · intro habort
    obtain ⟨amc, asent, arequests, aresponses⟩ := takeArea_sent habort
    rw [amc] at lmc
    refine ⟨?_, ?_, ?_, ?_, ?_⟩
    · rw [hstands.holder, lmc]
      rfl
    · rw [hstands.released, lmc]
      rfl
    · rw [hsent.channel .messagesSent (by decide), channelCount, lchannel]
      exact asent.trans (channelCount_countTimes (hcounts.channel .messagesSent (by decide)) _)
    · rw [hsent.timing, ltiming]
      exact arequests.trans (countIf_congr (timingCount_countTiming_congr .requestsSent)
        (by simp only [timingCount, hcounts.timing]) _)
    · rw [hsent.timing, ltiming]
      exact aresponses.trans (countIf_congr (timingCount_countTiming_congr .responsesSent)
        (by simp only [timingCount, hcounts.timing]) _)
  · refine fun n => ⟨(hstands.tenants n).queue.trans (placeFrame_tenants n u), ?_⟩
    rw [hsent.tenants]
    exact (placeFrame_tenantCounts n u).trans (countTimes_congr (tenantCounts_countTenant_congr n .packetsSent)
      (by simp only [tenantCounts, hcounts.tenants]) _)
  · rw [ffree, placeFrame_free]
    exact congrArg (· + _) hfree
  · have hport : onlyReports s t := by
      rw [hwhole, onlyReports_iff]
      split <;> simp
    unfold onlyReports at hport
    refine ⟨?_, ?_, ?_, ?_, ?_, hport, ?_⟩ <;>
      rw [hwhole] <;> split <;> simp [openLC, openTM]

end Sys2Proof.Machine


/-! PROOF What RECEIVED_FRAME hands to the owners of a frame's parts (for O7). -/

namespace Sys2Proof.Machine

set_option Elab.async false

/-! ### Frame lock -/

theorem mismatchCounted_frameStands (header : Option Header) (s : State) : FrameStands s (mismatchCounted header s) := by
  unfold mismatchCounted
  split
  · exact FrameStands.refl.when (countLink_frameStands s)
  · exact .refl

theorem lockLost_frameStands (s : State) : FrameStands s (lockLost s) := by
  have hcounted : FrameStands s (countLink .lockLosses s) := countLink_frameStands s
  exact .of_ite (fun hpair => hcounted.trans (enterLost_frameStands _ (inPair_not_off hpair.1))) fun _ => hcounted

theorem lockFollowed_frameStands (change : LockChange) (header : Option Header) (s : State) :
    FrameStands s (lockFollowed change header s) := by
  unfold lockFollowed
  split
  · exact (countLink_frameStands s).trans (FrameStands.refl.when (.mp _ _))
  · exact countLink_frameStands s
  · exact lockLost_frameStands s
  · exact .refl

theorem lockAdvanced_frameStands (header : Option Header) (s : State) : FrameStands s (lockAdvanced header s) :=
  ((FrameStands.sf _ s).trans (mismatchCounted_frameStands header _)).trans (lockFollowed_frameStands _ header _)

theorem takeLock_frameStands (header : Option Header) (s : State) : FrameStands s (takeLock header s) := by
  have hadvanced := lockAdvanced_frameStands header s
  rw [takeLock_eq]
  refine .of_ite (fun hregained => hadvanced.trans (enterUp_frameStands _ fun hoff => ?_)) fun _ => hadvanced
  rw [hadvanced.off] at hoff
  simp [hoff] at hregained

theorem takeQuality_frameStands (m : ModemFrame) (s : State) : FrameStands s (takeQuality m s) := by
  have hclamped : FrameStands s (if !m.undecodable && decide (400 < m.quality) then countLink .qualityClamps s else s) :=
    FrameStands.refl.when (countLink_frameStands s)
  unfold takeQuality
  exact hclamped.trans (.lc _ _)

/-- The header of a received frame is counted by its case (R8). -/
theorem linkCount_countHeader (r : Received) (s : State) (c : LinkCounter) :
    linkCount c (countHeader r s) = linkCount c (countIf (c == headerCase r) (countLink c) s) := by
  have hcase : countHeader r s = countLink (headerCase r) s := by
    unfold countHeader headerCase
    split
    · rfl
    · split <;> rfl
  rw [hcase]
  by_cases heq : c = headerCase r
  · rw [heq, beq_self_eq_true]
    rfl
  · rw [beq_false_of_ne heq]
    exact bumpAt_other fun e => heq (linkCtorIdx_injective e).symm

/-- The messages that wait, and the counters of those sent and taken up, stand. -/
structure MessagesStand (s t : State) : Prop where
  inbox : t.mc.inbox = s.mc.inbox
  channel : ∀ c ∈ frameChannelCounters, channelCount c t = channelCount c s

theorem MessagesStand.trans {s t u : State} (h1 : MessagesStand s t) (h2 : MessagesStand t u) : MessagesStand s u :=
  ⟨h2.inbox.trans h1.inbox, fun c hc => (h2.channel c hc).trans (h1.channel c hc)⟩

theorem MessagesStand.of_same {s t : State} (hinbox : t.mc.inbox = s.mc.inbox := by rfl)
    (hchannel : t.cb.live.channel = s.cb.live.channel := by rfl) : MessagesStand s t :=
  ⟨hinbox, fun c _ => by rw [channelCount, channelCount, hchannel]⟩

theorem FrameStands.messages {s t : State} (h : FrameStands s t) : MessagesStand s t := ⟨h.inbox, h.counts.channel⟩

/-- What the owners of the positions keep of a frame stands, but for what closing a tenant does to its context. -/
structure PositionsStand (s t : State) : Prop where
  tenants : ∀ n, TenantStands (tenantRec s n) (tenantRec t n)
  out : t.tn.out = s.tn.out
  taken : t.st.taken = s.st.taken
  takenBefore : t.st.takenBefore = s.st.takenBefore
  link : ∀ c ∈ frameLinkCounters, linkCount c t = linkCount c s
  counts : t.cb.live.tenants = s.cb.live.tenants

theorem PositionsStand.trans {s t u : State} (h1 : PositionsStand s t) (h2 : PositionsStand t u) : PositionsStand s u :=
  ⟨fun n => (h1.tenants n).trans (h2.tenants n), h2.out.trans h1.out, h2.taken.trans h1.taken,
    h2.takenBefore.trans h1.takenBefore, fun c hc => (h2.link c hc).trans (h1.link c hc), h2.counts.trans h1.counts⟩

theorem FrameStands.positions {s t : State} (h : FrameStands s t) : PositionsStand s t :=
  ⟨h.tenants, h.out, h.taken, h.takenBefore, h.counts.link, h.counts.tenants⟩

/-- The packets delivered of the frame before are gone; `lockTaken_eq` ties it to the model. -/
def outCleared (s : State) : State := s.modTN fun tn => { tn with out := PerTenant.const [] }

theorem lockTaken_eq (m : ModemFrame) (s : State) : lockTaken m s =
    takeLock (receivedHeader (passedFrame m (atReception s))) (countHeader (passedFrame m (atReception s))
      (takeQuality m (outCleared (atReception s)))) := rfl

theorem atReception_frameStands (s : State) : FrameStands s (atReception s) :=
  FrameStands.refl.when (takeLoopSwitch_frameStands s)

theorem countHeader_live (r : Received) (s : State) : (countHeader r s).cb.live.channel = s.cb.live.channel ∧
    (countHeader r s).cb.live.tenants = s.cb.live.tenants := by
  unfold countHeader
  split
  · exact ⟨rfl, rfl⟩
  · split <;> exact ⟨rfl, rfl⟩

/-- What frame lock leaves of the frame's business. -/
theorem lockTaken_stands (m : ModemFrame) (s : State) :
    (∀ n, TenantStands (tenantRec s n) (tenantRec (lockTaken m s) n)) ∧ (lockTaken m s).tn.out = PerTenant.const [] ∧
      (lockTaken m s).st.taken = s.st.taken ∧ (lockTaken m s).cb.live.tenants = s.cb.live.tenants ∧
      MessagesStand s (lockTaken m s) := by
  have ha := atReception_frameStands s
  rw [lockTaken_eq]
  generalize passedFrame m (atReception s) = r
  generalize atReception s = a at ha ⊢
  have hq := takeQuality_frameStands m (outCleared a)
  generalize takeQuality m (outCleared a) = q at hq ⊢
  have hl := takeLock_frameStands (receivedHeader r) (countHeader r q)
  obtain ⟨hchannel, hcounts⟩ := countHeader_live r q
  have hcleared : MessagesStand a (outCleared a) := .of_same
  have hcounted : MessagesStand q (countHeader r q) := .of_same (by simp) hchannel
  refine ⟨fun n => ?_, ?_, ?_, ?_, ?_⟩
  · have hrec : tenantRec (countHeader r q) n = tenantRec q n := by simp [tenantRec]
    exact ((ha.tenants n).trans (hq.tenants n)).trans (hrec ▸ hl.tenants n)
  · have htn : (countHeader r q).tn = q.tn := by simp
    rw [hl.out, htn, hq.out]
    rfl
  · have hst : (countHeader r q).st = q.st := by simp
    rw [hl.taken, hst, hq.taken]
    exact ha.taken
  · rw [hl.counts.tenants, hcounts, hq.counts.tenants]
    exact ha.counts.tenants
  · exact (((ha.messages.trans hcleared).trans hq.messages).trans hcounted).trans hl.messages

theorem lockTaken_linkCount (m : ModemFrame) (s : State) {c : LinkCounter} (hc : c ∈ frameLinkCounters) :
    linkCount c (lockTaken m s) =
      linkCount c (countIf (c == headerCase (passedFrame m (atReception s))) (countLink c) s) := by
  have ha := (atReception_frameStands s).counts.link c hc
  have hq := (takeQuality_frameStands m (outCleared (atReception s))).counts.link c hc
  rw [lockTaken_eq, (takeLock_frameStands _ _).counts.link c hc, linkCount_countHeader]
  exact countIf_congr (linkCount_countLink_congr c) (hq.trans ha) _

/-! ### The far nibbles -/

theorem takeFarNibble_rec (n m : Tenant) (v : Nibble) (s : State) : tenantRec (takeFarNibble m v s) n =
    if n = m then { tenantRec s n with far := v } else tenantRec s n := by
  unfold takeFarNibble
  dsimp only
  split
  case isTrue hsame =>
    split
    · next h => rw [h, hsame]
    · rfl
  case isFalse =>
    have hreport (u : State) : tenantRec (report .farTenant m.number [nibbleCode (tenantRec s m).far, nibbleCode v] u) n =
        tenantRec u n := by simp [tenantRec]
    rw [hreport, tenantRec_modTenant]

theorem takeFarNibble_live (m : Tenant) (v : Nibble) (s : State) :
    CountsStand s (takeFarNibble m v s) ∧ (takeFarNibble m v s).tn.out = s.tn.out := by
  unfold takeFarNibble
  dsimp only
  split
  · exact ⟨.of_live, rfl⟩
  · have hreport := report_frameStands .farTenant m.number [nibbleCode (tenantRec s m).far, nibbleCode v]
      (modTenant m (fun t => { t with far := v }) s)
    exact ⟨CountsStand.trans .of_live hreport.counts, hreport.out⟩

theorem takeFarNibbles_rec (n : Tenant) (v : PerTenant Nibble) (s : State) :
    tenantRec (takeFarNibbles v s) n = { tenantRec s n with far := v.get n } := by
  cases n <;> simp [takeFarNibbles, takeFarNibble_rec, PerTenant.get]

theorem takeFarNibbles_live (v : PerTenant Nibble) (s : State) :
    CountsStand s (takeFarNibbles v s) ∧ (takeFarNibbles v s).tn.out = s.tn.out := by
  have h (m : Tenant) (w : Nibble) (u : State) := takeFarNibble_live m w u
  exact ⟨(((h .t1 v.t1 s).1.trans (h .t2 v.t2 _).1).trans (h .t3 v.t3 _).1).trans (h .t4 v.t4 _).1,
    (((h .t4 v.t4 _).2.trans (h .t3 v.t3 _).2).trans (h .t2 v.t2 _).2).trans (h .t1 v.t1 s).2⟩

/-- The frame's nibbles and its mark, taken before its positions; `takeGoodFrame_eq` ties it to the model. -/
def headTaken (h : Header) (r : Received) (s : State) : State := markBy h r (takeNibbles h r s)

theorem takeGoodFrame_eq (h : Header) (r : Received) (s : State) : takeGoodFrame h r s =
    takeMessages h r (fallBy h r (takePositions h r (decodingPlan s.ps h) (headTaken h r s))) := rfl

theorem headTaken_rec (n : Tenant) (h : Header) (r : Received) (s : State) : tenantRec (headTaken h r s) n =
    { tenantRec s n with far := if r.looped then (tenantRec s n).far else h.nibbles.get n } := by
  have hmark : tenantRec (headTaken h r s) n = tenantRec (takeNibbles h r s) n := by simp [headTaken, tenantRec]
  rw [hmark, takeNibbles]
  split
  · rfl
  · exact takeFarNibbles_rec n h.nibbles s

theorem headTaken_live (h : Header) (r : Received) (s : State) :
    CountsStand s (headTaken h r s) ∧ (headTaken h r s).tn.out = s.tn.out := by
  have hmark : (headTaken h r s).cb = (takeNibbles h r s).cb ∧ (headTaken h r s).tn = (takeNibbles h r s).tn := by
    simp [headTaken]
  have hnibbles : CountsStand s (takeNibbles h r s) ∧ (takeNibbles h r s).tn.out = s.tn.out := by
    unfold takeNibbles
    split
    · exact ⟨.of_live, rfl⟩
    · exact takeFarNibbles_live h.nibbles s
  exact ⟨hnibbles.1.trans (.of_live (by rw [hmark.1])), by rw [hmark.2, hnibbles.2]⟩

theorem headTaken_messages (h : Header) (r : Received) (s : State) : MessagesStand s (headTaken h r s) :=
  ⟨by simp [headTaken], (headTaken_live h r s).1.channel⟩

/-! ### The tenants' positions -/

/-- What a tenant's reassembly context makes of its positions (R100 to R102). -/
def rebuilt (n : Tenant) (ps : List (List Byte)) (s : State) : Rebuild :=
  rebuildPositions (tenantRec s n).config.fill ps (tenantRec s n).reassembly

/-- A tenant's counters once its positions are taken (R105); `takeTenantPositions_counts` ties it to the model. -/
def rebuiltCounted (n : Tenant) (ps : List (List Byte)) (s : State) : State :=
  countTimes (countTenant n (if (tenantRec s n).state = .closed then .receiveDrops else .packetsDelivered))
    (rebuilt n ps s).packets.length (countTimes (countTenant n .reassemblyErrors) (rebuilt n ps s).errors s)

theorem takeTenantPositions_rec (n m : Tenant) (ps : List (List Byte)) (s : State) :
    tenantRec (takeTenantPositions m ps s) n =
      if n = m then { tenantRec s n with reassembly := (rebuilt n ps s).mode } else tenantRec s n := by
  have hmod : tenantRec (takeTenantPositions m ps s) n =
      tenantRec (modTenant m (fun t => { t with reassembly := (rebuilt m ps s).mode }) s) n := by
    unfold takeTenantPositions
    dsimp only
    split <;> simp [tenantRec, rebuilt]
  rw [hmod, tenantRec_modTenant]
  split
  · next h => rw [h]
  · rfl

theorem takeTenantPositions_out (n m : Tenant) (ps : List (List Byte)) (s : State) :
    (takeTenantPositions m ps s).tn.out.get n =
      if n = m ∧ (tenantRec s m).state ≠ .closed then (rebuilt m ps s).packets else s.tn.out.get n := by
  unfold takeTenantPositions
  dsimp only
  split
  · next h => simp [h, modTenant]
  · next h => simp [h, PerTenant.get_set, rebuilt, modTenant]

theorem takeTenantPositions_live (m : Tenant) (ps : List (List Byte)) (s : State) :
    (takeTenantPositions m ps s).cb.live.channel = s.cb.live.channel ∧
      (takeTenantPositions m ps s).cb.live.link = s.cb.live.link := by
  unfold takeTenantPositions
  dsimp only
  split <;> exact ⟨by simp [countTimes_countTenant_live], by simp [countTimes_countTenant_live]⟩

theorem takeTenantPositions_counts_other {n m : Tenant} (h : n ≠ m) (ps : List (List Byte)) (s : State) :
    tenantCounts n (takeTenantPositions m ps s) = tenantCounts n s := by
  unfold takeTenantPositions
  dsimp only
  split
  · rw [tenantCounts_countTimes_other h, tenantCounts_countTimes_other h]; rfl
  · rw [tenantCounts_countTimes_other h]
    exact tenantCounts_countTimes_other h _ _ _

theorem rebuiltCounted_congr {n : Tenant} {ps : List (List Byte)} {s u : State} (hrec : tenantRec s n = tenantRec u n)
    (hcounts : tenantCounts n s = tenantCounts n u) :
    tenantCounts n (rebuiltCounted n ps s) = tenantCounts n (rebuiltCounted n ps u) := by
  unfold rebuiltCounted rebuilt
  rw [hrec]
  exact countTimes_congr (tenantCounts_countTenant_congr n _)
    (countTimes_congr (tenantCounts_countTenant_congr n _) hcounts _) _

theorem takeTenantPositions_counts (n : Tenant) (ps : List (List Byte)) (s : State) :
    tenantCounts n (takeTenantPositions n ps s) = tenantCounts n (rebuiltCounted n ps s) := by
  have herrors (k : Nat) : tenantCounts n (countTimes (countTenant n .reassemblyErrors) k
      (modTenant n (fun t => { t with reassembly := (rebuilt n ps s).mode }) s)) =
        tenantCounts n (countTimes (countTenant n .reassemblyErrors) k s) := by
    refine countTimes_congr (tenantCounts_countTenant_congr n .reassemblyErrors) ?_ k
    rfl
  unfold takeTenantPositions rebuiltCounted
  dsimp only
  split
  · exact countTimes_congr (tenantCounts_countTenant_congr n _) (herrors _) _
  · refine countTimes_congr (tenantCounts_countTenant_congr n .packetsDelivered) ?_ _
    exact herrors _

/-- The four tenants' positions taken, in order (R13); `distribute_eq` ties it to the model. -/
def tenantsTaken (plan : Plan) (r : Received) (s : State) : State :=
  takeTenantPositions .t4 (tenantPositions plan r.positions .t4) (takeTenantPositions .t3 (tenantPositions plan r.positions .t3)
    (takeTenantPositions .t2 (tenantPositions plan r.positions .t2)
      (takeTenantPositions .t1 (tenantPositions plan r.positions .t1) s)))

theorem distribute_eq (h : Header) (plan : Plan) (r : Received) (s : State) : distribute h plan r s =
    withTestTrigger (takeTestPositions h.frame plan r.looped (testTaken plan r.positions))
      (keepTaken s.mp.frame (testTaken plan r.positions) (tenantsTaken plan r s)) := by
  have hmp : (tenantsTaken plan r s).mp = s.mp := by simp [tenantsTaken]
  rw [← hmp]
  rfl

theorem tenantsTaken_rec (n : Tenant) (plan : Plan) (r : Received) (s : State) : tenantRec (tenantsTaken plan r s) n =
    { tenantRec s n with reassembly := (rebuilt n (tenantPositions plan r.positions n) s).mode } := by
  cases n <;> simp [tenantsTaken, takeTenantPositions_rec, rebuilt]

theorem tenantsTaken_out (n : Tenant) (plan : Plan) (r : Received) (s : State) : (tenantsTaken plan r s).tn.out.get n =
    if (tenantRec s n).state = .closed then s.tn.out.get n
    else (rebuilt n (tenantPositions plan r.positions n) s).packets := by
  cases n <;> simp [tenantsTaken, takeTenantPositions_rec, takeTenantPositions_out, rebuilt, ite_not]

theorem tenantsTaken_counts (n : Tenant) (plan : Plan) (r : Received) (s : State) :
    tenantCounts n (tenantsTaken plan r s) =
      tenantCounts n (rebuiltCounted n (tenantPositions plan r.positions n) s) := by
  cases n <;> simp only [tenantsTaken, takeTenantPositions_counts_other, ne_eq, reduceCtorEq, not_false_eq_true] <;>
    exact (takeTenantPositions_counts _ _ _).trans (rebuiltCounted_congr (by simp [takeTenantPositions_rec])
      (by simp only [takeTenantPositions_counts_other, ne_eq, reduceCtorEq, not_false_eq_true]))

theorem tenantsTaken_live (plan : Plan) (r : Received) (s : State) :
    (tenantsTaken plan r s).cb.live.channel = s.cb.live.channel ∧
      (tenantsTaken plan r s).cb.live.link = s.cb.live.link := by
  simp [tenantsTaken, takeTenantPositions_live]

/-! ### A gap -/

theorem gapTenant_rec (n m : Tenant) (s : State) : tenantRec (gapTenant m s) n =
    if n = m then { tenantRec s n with reassembly := .hunt } else tenantRec s n := by
  have hmod : tenantRec (gapTenant m s) n = tenantRec (modTenant m (fun t => { t with reassembly := .hunt }) s) n := by
    unfold gapTenant
    split <;> simp [tenantRec]
  rw [hmod, tenantRec_modTenant]

theorem gapTenant_live (m : Tenant) (s : State) : (gapTenant m s).cb.live.channel = s.cb.live.channel ∧
    (gapTenant m s).cb.live.link = s.cb.live.link ∧ (gapTenant m s).tn.out = s.tn.out := by
  unfold gapTenant
  split <;> exact ⟨rfl, rfl, rfl⟩

theorem gapTenant_counts_other {n m : Tenant} (h : n ≠ m) (s : State) :
    tenantCounts n (gapTenant m s) = tenantCounts n s := by
  unfold gapTenant
  split
  · exact PerTenant.get_set_ne _ h _
  · exact PerTenant.get_set_ne _ h _
  · rfl

theorem gapTenant_counts_congr {n : Tenant} {s u : State} (hrec : (tenantRec s n).reassembly = (tenantRec u n).reassembly)
    (hcounts : tenantCounts n s = tenantCounts n u) : tenantCounts n (gapTenant n s) = tenantCounts n (gapTenant n u) := by
  unfold gapTenant
  dsimp only
  rw [hrec]
  split
  · exact tenantCounts_countTenant_congr n _ _ _ hcounts
  · exact tenantCounts_countTenant_congr n _ _ _ hcounts
  · exact hcounts

theorem gapAll_rec (n : Tenant) (s : State) : tenantRec (gapAll s) n = { tenantRec s n with reassembly := .hunt } := by
  cases n <;> simp [gapAll, gapTenant_rec]

theorem gapAll_counts (n : Tenant) (s : State) : tenantCounts n (gapAll s) = tenantCounts n (gapTenant n s) := by
  cases n <;> simp only [gapAll, gapTenant_counts_other, ne_eq, reduceCtorEq, not_false_eq_true] <;>
    exact gapTenant_counts_congr (by simp [gapTenant_rec])
      (by simp only [gapTenant_counts_other, ne_eq, reduceCtorEq, not_false_eq_true])

theorem gapAll_live (s : State) : (gapAll s).cb.live.channel = s.cb.live.channel ∧
    (gapAll s).cb.live.link = s.cb.live.link ∧ (gapAll s).tn.out = s.tn.out := by
  simp [gapAll, gapTenant_live]

theorem keepTaken_rec (f : FrameNo) (l : List (Nat × List Byte)) (n : Tenant) (s : State) :
    tenantRec (keepTaken f l s) n = tenantRec s n := rfl

theorem noPositions_rec (n : Tenant) (s : State) : tenantRec (noPositions s) n = { tenantRec s n with reassembly := .hunt } :=
  gapAll_rec n s

theorem noPositions_messages (s : State) : MessagesStand s (noPositions s) :=
  .of_same (by simp) (gapAll_live s).1

/-! ### The test's positions -/

theorem addChecks_taken (n errs : Nat) (st : ST) :
    (addChecks n errs st).taken = st.taken ∧ (addChecks n errs st).takenBefore = st.takenBefore := by
  unfold addChecks countFrame
  split <;> exact ⟨rfl, rfl⟩

theorem addStageFrame_taken (origin : FrameNo) (errs : Nat) (st : ST) :
    (addStageFrame origin errs st).taken = st.taken ∧ (addStageFrame origin errs st).takenBefore = st.takenBefore := by
  unfold addStageFrame
  split
  · split <;> exact ⟨rfl, rfl⟩
  · exact ⟨rfl, rfl⟩

theorem checkFrame_frameStands (origin : FrameNo) (positions : List (Nat × List Byte)) (s : State) :
    FrameStands s (checkFrame origin positions s) := by
  unfold checkFrame
  have hadded : FrameStands s (s.modST fun st =>
      addStageFrame origin (erroredBits origin positions) (addChecks positions.length (erroredBits origin positions) st)) :=
    .st _ s ((addStageFrame_taken _ _ _).1.trans (addChecks_taken _ _ _).1)
      ((addStageFrame_taken _ _ _).2.trans (addChecks_taken _ _ _).2)
  exact hadded.when (finishTest_frameStands _)

theorem nearCheck_frameStands (h : FrameNo) (plan : Plan) (looped : Bool) (positions : List (Nat × List Byte)) (s : State) :
    FrameStands s (nearCheck h plan looped positions s) := by
  unfold nearCheck
  refine .of_ite (fun _ => .refl) fun _ => ?_
  split
  · exact FrameStands.refl.when (checkFrame_frameStands _ _ s)
  · exact FrameStands.refl.when (checkFrame_frameStands _ _ s)
  · exact FrameStands.refl.when (checkFrame_frameStands _ _ s)
  · exact .refl

theorem takeTestPositions_frameStands (h : FrameNo) (plan : Plan) (looped : Bool) (positions : List (Nat × List Byte))
    (s : State) : FrameStands s (takeTestPositions h plan looped positions s) :=
  .of_ite (fun _ => .refl) fun _ => (nearCheck_frameStands h plan looped positions s).trans (.st _ _)

theorem distribute_frameStands (h : Header) (plan : Plan) (r : Received) (s : State) :
    FrameStands (keepTaken s.mp.frame (testTaken plan r.positions) (tenantsTaken plan r s)) (distribute h plan r s) := by
  rw [distribute_eq]
  exact withTestTrigger_frameStands (takeTestPositions_frameStands _ _ _ _ _)

theorem takePositions_messages (h : Header) (r : Received) (decoded : Option Plan) (s : State) :
    MessagesStand s (takePositions h r decoded s) := by
  unfold takePositions
  split
  · next plan =>
    have htaken : MessagesStand s (keepTaken s.mp.frame (testTaken plan r.positions) (tenantsTaken plan r s)) :=
      .of_same (by simp [tenantsTaken]) (tenantsTaken_live plan r s).1
    exact htaken.trans (distribute_frameStands h plan r s).messages
  · exact MessagesStand.trans .of_same (noPositions_messages _)

theorem fallBy_frameStands (h : Header) (r : Received) (s : State) : FrameStands s (fallBy h r s) := by
  refine .of_ite (fun hfell => ?_) fun _ => .refl
  obtain ⟨_, hpartner⟩ := hfell
  have hoff : s.lc.link ≠ .off := by
    simp only [partnerFell, Bool.and_eq_true] at hpartner
    exact inPair_not_off hpartner.1.1.1.1
  exact (countLink_frameStands (c := .partnerFallbacks) s).trans (enterLost_frameStands _ hoff)

/-! ### The messages of the area -/

/-- The assembler counts nothing as sent, received or misplaced (R50). -/
def AreaCounted (a : Assembler) : Prop := ∀ c ∈ a.counts, c ∉ frameChannelCounters

theorem judgeMessage_error {bits : List Bool} {c : ChannelCounter} (h : judgeMessage bits = .error c) :
    c ∉ frameChannelCounters := by
  unfold judgeMessage at h
  dsimp only at h
  split at h
  · cases h; decide
  · split at h
    · cases h; decide
    · split at h
      · cases h; decide
      · split at h
        · cases h; decide
        · split at h
          · cases h; decide
          · split at h
            · cases h
            · cases h; decide

theorem areaCounted_cons {a b : Assembler} (ha : AreaCounted a) {c : ChannelCounter} (hc : c ∉ frameChannelCounters)
    (hb : b.counts = c :: a.counts) : AreaCounted b := by
  intro d hd
  rw [hb, List.mem_cons] at hd
  rcases hd with rfl | hd
  · exact hc
  · exact ha d hd

theorem endMessage_counted {a : Assembler} (ha : AreaCounted a) (start next : Nat) (gathered : List Bool) :
    AreaCounted (endMessage start next gathered a) := by
  unfold endMessage
  dsimp only
  split
  · exact ha
  · split
    · exact areaCounted_cons ha (c := .oversize) (by decide) rfl
    · split
      · exact ha
      · next hc => exact areaCounted_cons ha (judgeMessage_error hc) rfl

theorem assembleBit_counted {a : Assembler} (ha : AreaCounted a) (i : Nat) (bit : Bool) :
    AreaCounted (assembleBit i bit a) := by
  have habort (g : List Bool) : abortOrOversize g ∉ frameChannelCounters := by
    unfold abortOrOversize
    split <;> decide
  unfold assembleBit
  split
  · split
    · exact ha
    · split <;> exact ha
  · dsimp only
    split
    · split
      · exact areaCounted_cons ha (habort _) rfl
      · split
        · exact areaCounted_cons ha (c := .oversize) (by decide) rfl
        · exact ha
    · split
      · exact ha
      · split
        · exact endMessage_counted ha _ _ _
        · split
          · exact areaCounted_cons ha (c := .oversize) (by decide) rfl
          · exact ha

theorem assembleBits_counted (bits : List Bool) (i : Nat) {a : Assembler} (ha : AreaCounted a) :
    AreaCounted (assembleBits i bits a) := by
  induction bits generalizing i a with
  | nil => exact ha
  | cons b bits ih => exact ih (i + 1) (assembleBit_counted ha i b)

theorem openMessage_counted (gathered : List Bool) : ∀ c ∈ openMessage gathered, c ∉ frameChannelCounters := by
  unfold openMessage
  split
  · decide
  · split <;> decide

theorem assembleArea_counts (area : List Byte) : ∀ c ∈ (assembleArea area).counts, c ∉ frameChannelCounters := by
  have hbits : AreaCounted (assembleBits 0 (bitsOf area) Assembler.start) :=
    assembleBits_counted _ 0 (by simp [AreaCounted, Assembler.start])
  intro c hc
  unfold assembleArea at hc
  dsimp only at hc
  rw [List.mem_reverse] at hc
  split at hc
  · exact hbits c hc
  · rcases List.mem_append.mp hc with hopen | hcounted
    · exact openMessage_counted _ c hopen
    · exact hbits c hcounted

theorem countChannels_stand {cs : List ChannelCounter} (hcs : ∀ c ∈ cs, c ∉ frameChannelCounters) (s : State) :
    CountsStand s (cs.foldl (fun s c => countChannel c s) s) := by
  induction cs generalizing s with
  | nil => exact .of_live
  | cons c cs ih =>
    exact (CountsStand.countChannel s (hcs c List.mem_cons_self)).trans
      (ih (fun d hd => hcs d (List.mem_cons_of_mem c hd)) _)

theorem takeAreaMessages_counts (h : Header) (position0 : List Byte) (s : State) :
    CountsStand s (takeAreaMessages h position0 s) :=
  (countChannels_stand (assembleArea_counts _) s).trans .of_live

theorem takeAreaMessages_inbox (h : Header) (r : Received) (s : State) :
    (takeAreaMessages h (r.positions.headD []) s).mc.inbox = s.mc.inbox ++ messagesOf h r s.mp.frame := by
  have hframe (cs : List ChannelCounter) : (cs.foldl (fun s c => countChannel c s) s).mp = s.mp ∧
      (cs.foldl (fun s c => countChannel c s) s).mc = s.mc :=
    ⟨countChannels_frame (·.mp) (fun _ _ => rfl) cs s, countChannels_frame (·.mc) (fun _ _ => rfl) cs s⟩
  unfold takeAreaMessages messagesOf
  simp [hframe]

theorem skipMisplaced_live (ms : List RxMessage) (s : State) :
    (skipMisplaced ms s).cb.live.link = s.cb.live.link ∧ (skipMisplaced ms s).cb.live.tenants = s.cb.live.tenants := by
  induction ms generalizing s with
  | nil => exact ⟨rfl, rfl⟩
  | cons m ms ih =>
    rw [skipMisplaced_cons]
    split
    · exact ih _
    · exact ⟨rfl, rfl⟩

/-- Each misplaced time message at the head counts once as received and once as misplaced (R52). -/
theorem skipMisplaced_count (ms : List RxMessage) (s : State) {c : ChannelCounter}
    (hc : c = .messagesReceived ∨ c = .misplacedTime) : channelCount c (skipMisplaced ms s) =
      channelCount c (countTimes (countChannel c) (ms.takeWhile misplaced).length s) := by
  induction ms generalizing s with
  | nil => rfl
  | cons m ms ih =>
    rw [skipMisplaced_cons]
    by_cases hm : misplaced m = true
    · have hboth : channelCount c (countChannel .misplacedTime (countChannel .messagesReceived s)) =
          channelCount c (countChannel c s) := by
        rcases hc with rfl | rfl
        · exact bumpAt_other (by decide)
        · rw [channelCount_countChannel, channelCount_countChannel]
          exact congrArg (Option.map satInc) (bumpAt_other (by decide))
      rw [if_pos hm, ih, List.takeWhile_cons_of_pos hm, List.length_cons, countTimes]
      exact channelCount_countTimes hboth _
    · rw [if_neg hm, List.takeWhile_cons_of_neg hm]
      rfl

theorem takeMessages_positions (h : Header) (r : Received) (s : State) : PositionsStand s (takeMessages h r s) := by
  unfold takeMessages
  split
  · exact FrameStands.refl.positions
  · obtain ⟨u, hu⟩ : ∃ u, u = takeAreaMessages h (r.positions.headD []) s := ⟨_, rfl⟩
    have hcounts : CountsStand s u := hu ▸ takeAreaMessages_counts h _ s
    obtain ⟨hlink, htenants⟩ := skipMisplaced_live u.mc.inbox u
    rw [← hu]
    refine ⟨fun n => ?_, by simp [hu], by simp [hu], by simp [hu], fun c hc => ?_, htenants.trans hcounts.tenants⟩
    · have hrec : tenantRec (skipMisplaced u.mc.inbox u) n = tenantRec s n := by simp [tenantRec, hu]
      rw [hrec]
      exact .of_same
    · rw [linkCount, hlink]
      exact hcounts.link c hc

theorem takeMessages_inbox (h : Header) (r : Received) (s : State) : (takeMessages h r s).mc.inbox =
    if r.looped then s.mc.inbox else (s.mc.inbox ++ messagesOf h r s.mp.frame).dropWhile misplaced := by
  unfold takeMessages
  split
  · rfl
  · dsimp only
    rw [skipMisplaced_inbox, takeAreaMessages_inbox]

theorem takeMessages_count {h : Header} {r : Received} (s : State) (hr : r.looped = false) {c : ChannelCounter}
    (hc : c = .messagesReceived ∨ c = .misplacedTime) : channelCount c (takeMessages h r s) =
      channelCount c (countTimes (countChannel c)
        ((s.mc.inbox ++ messagesOf h r s.mp.frame).takeWhile misplaced).length s) := by
  have hmem : c ∈ frameChannelCounters := by rcases hc with rfl | rfl <;> decide
  have hcounted := (takeAreaMessages_counts h (r.positions.headD []) s).channel c hmem
  unfold takeMessages
  rw [if_neg (by simp [hr])]
  dsimp only
  rw [skipMisplaced_count _ _ hc, takeAreaMessages_inbox]
  exact channelCount_countTimes hcounted _

/-! ### The mark -/

/-- With a plan pending the Link Controller is not free, so a TEST trigger leaves the Plan Store alone (R111). -/
theorem trigger_ps_of_pending {s : State} (cause : AllocCause) (h : s.ps.pending.isSome = true) :
    (trigger cause s).ps = s.ps := by
  have hbusy : lcFree s = false := by
    rw [lcFree, Option.isNone_eq_false_iff.mpr h]
    simp
  unfold trigger
  split
  · rfl
  · rw [if_neg (by simp [hbusy])]
    rfl

theorem distribute_ps_of_pending {s : State} (h : Header) (plan : Plan) (r : Received)
    (hp : s.ps.pending.isSome = true) : (distribute h plan r s).ps = s.ps := by
  have htested : (takeTestPositions h.frame plan r.looped (testTaken plan r.positions)
      (keepTaken s.mp.frame (testTaken plan r.positions) (tenantsTaken plan r s))).ps = s.ps := by
    simp [tenantsTaken]
  rw [distribute_eq, withTestTrigger]
  split
  · rw [trigger_ps_of_pending _ (by rw [htested]; exact hp), htested]
  · exact htested

theorem takePositions_ps_of_pending {s : State} (h : Header) (r : Received) (decoded : Option Plan)
    (hp : s.ps.pending.isSome = true) : (takePositions h r decoded s).ps = s.ps := by
  unfold takePositions
  split
  · exact distribute_ps_of_pending h _ r hp
  · simp [noPositions]

theorem evaluateFall_ps_of_pending {s : State} (h : s.ps.pending.isSome = true) : evaluateFall s = s := by
  have hbusy : lcFree s = false := by
    rw [lcFree, Option.isNone_eq_false_iff.mpr h]
    simp
  rw [evaluateFall, if_neg (by simp [fallCalled, decisionsOpen, hbusy])]

theorem takeContents_ps_of_adopted {h : Header} {r : Received} {s : State} (hr : r.looped = false)
    (hadopts : adopts s.lc.role s.ps h = true) : (takeGoodFrame h r s).ps.pending.isSome = true ∧
      (takeGoodFrame h r s).ps.pending = s.ps.pending.map fun p => { p with mark := .next } := by
  obtain ⟨p, hp⟩ : ∃ p, s.ps.pending = some p := by
    unfold adopts at hadopts
    split at hadopts
    · cases hadopts
    · next p hp => exact ⟨p, hp⟩
  have hflag : h.flagged = false := by
    simp only [adopts, hp, Bool.and_eq_true, Bool.not_eq_true'] at hadopts
    exact hadopts.1.1.2
  have hhead : (headTaken h r s).ps = (markPending s).ps := by
    unfold headTaken markBy
    rw [if_pos (by simp [hr, hadopts])]
    simp [markPending]
  have hmarked : (markPending s).ps.pending = s.ps.pending.map fun p => { p with mark := .next } := rfl
  have hsome : (headTaken h r s).ps.pending.isSome = true := by rw [hhead, hmarked, hp]; rfl
  have hpositions := takePositions_ps_of_pending h r (decodingPlan s.ps h) hsome
  have hgood : (takeGoodFrame h r s).ps = (markPending s).ps := by
    rw [takeGoodFrame_eq, fallBy, if_neg (by simp [partnerFell, hflag]), ← hhead, ← hpositions]
    unfold takeMessages
    rw [if_neg (by simp [hr])]
    simp
  rw [hgood]
  exact ⟨by rw [hmarked, hp]; rfl, hmarked⟩

/-! ### The frame -/

theorem lockTaken_frame (m : ModemFrame) (s : State) : (lockTaken m s).mp.frame = s.mp.frame ∧
    (lockTaken m s).lc.role = s.lc.role := by
  have hreception : (atReception s).mp.frame = s.mp.frame ∧ (atReception s).lc.role = s.lc.role := by
    unfold atReception
    split <;> simp
  rw [lockTaken_eq]
  generalize passedFrame m (atReception s) = r
  generalize atReception s = a at hreception ⊢
  simpa [outCleared] using hreception

/-- What comes behind a frame's contents. -/
theorem receiveFrame_stands (m : ModemFrame) (s : State) :
    FrameStands (takeContents (receivedHeader (passedFrame m (atReception s))) (passedFrame m (atReception s))
      (lockTaken m s)) (receiveFrame m s) := by
  rw [receiveFrame_eq]
  exact (FrameStands.mp _ _).when (evaluateFall_frameStands _)

/-- A frame of which no position is handed over (R102). -/
structure Gapped (frame : FrameNo) (u t : State) : Prop where
  taken : t.st.taken = ⟨frame, []⟩
  tenants : ∀ n, (tenantRec t n).reassembly = .hunt ∧ t.tn.out.get n = [] ∧
    tenantCounts n t = tenantCounts n (gapTenant n u)

theorem noPositions_gapped {u w t : State}
    (hrec : ∀ n, (tenantRec w n).reassembly = (tenantRec u n).reassembly)
    (hcounts : w.cb.live.tenants = u.cb.live.tenants) (hout : w.tn.out = PerTenant.const [])
    (h : PositionsStand (noPositions w) t) : Gapped w.mp.frame u t := by
  have hlive : (noPositions w).tn.out = PerTenant.const [] := (gapAll_live w).2.2.trans hout
  refine ⟨h.taken, fun n => ⟨(h.tenants n).hunt (by rw [noPositions_rec]), ?_, ?_⟩⟩
  · rw [h.out, hlive]
    cases n <;> rfl
  · rw [tenantCounts, h.counts]
    exact (gapAll_counts n w).trans (gapTenant_counts_congr (hrec n) (congrArg (·.get n) hcounts))

/-- What stands of a good frame's positions until the next. -/
theorem takeGoodFrame_positions (h : Header) (r : Received) (s : State) :
    PositionsStand (takePositions h r (decodingPlan s.ps h) (headTaken h r s)) (takeGoodFrame h r s) := by
  rw [takeGoodFrame_eq]
  exact (fallBy_frameStands h r _).positions.trans (takeMessages_positions h r _)

theorem takePositions_far (n : Tenant) (h : Header) (r : Received) (decoded : Option Plan) (s : State) :
    (tenantRec (takePositions h r decoded s) n).far = (tenantRec s n).far := by
  unfold takePositions
  split
  · next plan =>
    rw [((distribute_frameStands h plan r s).tenants n).far, keepTaken_rec, tenantsTaken_rec]
  · rw [noPositions_rec]
    rfl

theorem takePositions_takenBefore (h : Header) (r : Received) (decoded : Option Plan) (s : State) :
    (takePositions h r decoded s).st.takenBefore = s.st.taken := by
  unfold takePositions
  split
  · next plan =>
    have hst : (tenantsTaken plan r s).st = s.st := by simp [tenantsTaken]
    rw [(distribute_frameStands h plan r s).takenBefore]
    exact congrArg ST.taken hst
  · have hst : (gapAll (countLink .planUnknownFrames s)).st = s.st := by simp
    exact congrArg ST.taken hst

theorem takePositions_linkCount (h : Header) (r : Received) {decoded : Option Plan} (s : State) {c : LinkCounter}
    (hc : c ∈ frameLinkCounters) : linkCount c (takePositions h r decoded s) =
      linkCount c (if decoded = none then countLink .planUnknownFrames s else s) := by
  unfold takePositions
  split
  · next plan =>
    rw [if_neg (by simp), (distribute_frameStands h plan r s).counts.link c hc]
    exact congrArg (·[c.ctorIdx]?) (tenantsTaken_live plan r s).2
  · exact congrArg (·[c.ctorIdx]?) (gapAll_live _).2.1

end Sys2Proof.Machine


/-! PROOF The contents of a received frame, assembled (O7). -/

namespace Sys2Proof.Machine

set_option Elab.async false

/-- What a tenant's positions count is what they count from any state with the same counters. -/
theorem rebuiltCounted_of (n : Tenant) (ps : List (List Byte)) {s u : State} (h : u.cb.live.tenants = s.cb.live.tenants) :
    tenantCounts n (rebuiltCounted n ps u) = tenantCounts n
      (countTimes (countTenant n (if (tenantRec u n).state = .closed then .receiveDrops else .packetsDelivered))
        (rebuilt n ps u).packets.length (countTimes (countTenant n .reassemblyErrors) (rebuilt n ps u).errors s)) :=
  countTimes_congr (tenantCounts_countTenant_congr n _)
    (countTimes_congr (tenantCounts_countTenant_congr n _) (congrArg (·.get n) h) _) _

/-- A frame whose positions are handed over by a plan (R20, R100 to R102). -/
structure HandedOver (frame : FrameNo) (plan : Plan) (r : Received) (u t : State) : Prop where
  taken : t.st.taken = ⟨frame, testTaken plan r.positions⟩
  reassembly : ∀ n, (tenantRec u n).state = .closed ∨ (tenantRec t n).state ≠ .closed →
    (tenantRec t n).reassembly = (rebuilt n (tenantPositions plan r.positions n) u).mode
  out : ∀ n, t.tn.out.get n = if (tenantRec u n).state = .closed then []
    else (rebuilt n (tenantPositions plan r.positions n) u).packets
  counts : ∀ n, tenantCounts n t = tenantCounts n (rebuiltCounted n (tenantPositions plan r.positions n) u)

theorem distribute_handedOver {h : Header} {plan : Plan} {r : Received} {u t : State}
    (hout : u.tn.out = PerTenant.const [])
    (ht : PositionsStand (distribute h plan r (headTaken h r u)) t) : HandedOver u.mp.frame plan r u t := by
  obtain ⟨w, hw⟩ : ∃ w, w = headTaken h r u := ⟨_, rfl⟩
  have hrec (n : Tenant) : tenantRec w n =
      { tenantRec u n with far := if r.looped then (tenantRec u n).far else h.nibbles.get n } := hw ▸ headTaken_rec n h r u
  have hlive : CountsStand u w ∧ w.tn.out = u.tn.out := hw ▸ headTaken_live h r u
  have hmp : w.mp = u.mp := by rw [hw, headTaken]; simp
  rw [← hw] at ht
  have hstand := (distribute_frameStands h plan r w).positions.trans ht
  have hrebuilt (n : Tenant) (ps : List (List Byte)) : rebuilt n ps w = rebuilt n ps u := by
    rw [rebuilt, hrec]
    rfl
  refine ⟨?_, fun n hn => ?_, fun n => ?_, fun n => ?_⟩
  · rw [hstand.taken, hmp]
    rfl
  · have hn' := (hstand.tenants n).assembly
    rw [keepTaken_rec, tenantsTaken_rec, hrec, hrebuilt] at hn'
    exact hn' hn
  · have hout' : (keepTaken w.mp.frame (testTaken plan r.positions) (tenantsTaken plan r w)).tn.out.get n =
        (tenantsTaken plan r w).tn.out.get n := rfl
    rw [hstand.out, hout', tenantsTaken_out, hrec, hrebuilt, hlive.2, hout]
    cases n <;> rfl
  · rw [tenantCounts, hstand.counts]
    refine (tenantsTaken_counts n plan r w).trans ?_
    unfold rebuiltCounted
    rw [hrebuilt, hrec]
    exact (rebuiltCounted_of n _ hlive.1.tenants.symm).symm

/-- The messages that wait behind a good frame, and the counts of those dropped (R51, R52). -/
theorem takeGoodFrame_messages (h : Header) (r : Received) (s : State) :
    (takeGoodFrame h r s).mc.inbox =
        (if r.looped then s.mc.inbox else (s.mc.inbox ++ messagesOf h r s.mp.frame).dropWhile misplaced) ∧
      (r.looped = false → ∀ c ∈ [ChannelCounter.messagesReceived, .misplacedTime],
        channelCount c (takeGoodFrame h r s) = channelCount c (countTimes (countChannel c)
          ((s.mc.inbox ++ messagesOf h r s.mp.frame).takeWhile misplaced).length s)) := by
  obtain ⟨v, hv⟩ : ∃ v, v = fallBy h r (takePositions h r (decodingPlan s.ps h) (headTaken h r s)) := ⟨_, rfl⟩
  have hstand : MessagesStand s v := by
    rw [hv]
    exact ((headTaken_messages h r s).trans (takePositions_messages h r _ _)).trans (fallBy_frameStands h r _).messages
  have hmp : v.mp.frame = s.mp.frame := by
    rw [hv]
    simp [headTaken]
  rw [takeGoodFrame_eq, ← hv, takeMessages_inbox, hstand.inbox, hmp]
  refine ⟨rfl, fun hr c hc => ?_⟩
  have hc' : c = .messagesReceived ∨ c = .misplacedTime := by simpa using hc
  have hmem : c ∈ frameChannelCounters := by rcases hc' with rfl | rfl <;> decide
  rw [takeMessages_count v hr hc', hstand.inbox, hmp]
  exact channelCount_countTimes (hstand.channel c hmem) _

theorem headTaken_st (h : Header) (r : Received) (s : State) : (headTaken h r s).st = s.st := by
  simp [headTaken]

theorem planUnknown_ne_headerCase (r : Received) : (LinkCounter.planUnknownFrames == headerCase r) = false := by
  unfold headerCase
  split
  · rfl
  · split <;> rfl

/-- With a plan pending no fall is called for behind the frame (R74). -/
theorem receiveFrame_ps_of_pending {m : ModemFrame} {s : State} {h : Header}
    (hheader : receivedHeader (passedFrame m (atReception s)) = some h)
    (hp : (takeGoodFrame h (passedFrame m (atReception s)) (lockTaken m s)).ps.pending.isSome = true) :
    (receiveFrame m s).ps = (takeGoodFrame h (passedFrame m (atReception s)) (lockTaken m s)).ps := by
  rw [receiveFrame_eq, hheader]
  dsimp only
  split
  · have hfall := evaluateFall_ps_of_pending (s := (takeGoodFrame h (passedFrame m (atReception s))
      (lockTaken m s)).modMP fun mp => { mp with rxTaken := true }) hp
    exact (congrArg State.ps hfall).trans rfl
  · rfl

/-- What a frame's case leaves of the counters of the headers (R8). -/
theorem linkCount_taken {m : ModemFrame} {s p t : State} {c : LinkCounter} (hc : c ∈ frameLinkCounters)
    (hp : linkCount c p = linkCount c (lockTaken m s)) (ht : PositionsStand p t) : linkCount c t =
      linkCount c (countIf (c == headerCase (passedFrame m (atReception s))) (countLink c) s) :=
  ((ht.link c hc).trans hp).trans (lockTaken_linkCount m s hc)

/-- Settles O7: the contents of the frame, behind frame lock, by the header and the decoding plan. -/
theorem receivedFrameReachesItsOwners : Obligations.ReceivedFrameReachesItsOwners := by
  intro m s hwf hrx r u gap
  obtain ⟨hrecs, hout, htaken, hcounts, hmessages⟩ := lockTaken_stands m s
  obtain ⟨hframe, hrole⟩ := lockTaken_frame m s
  obtain ⟨t, ht⟩ : ∃ t, t = receiveFrame m s := ⟨_, rfl⟩
  have hstands : FrameStands (takeContents (receivedHeader r) r u) t := ht ▸ receiveFrame_stands m s
  have hgap (g : Gapped u.mp.frame u t) : gap t := ⟨g.taken.trans (by rw [hframe]), g.tenants⟩
  have hlinks : ∀ c ∈ [LinkCounter.goodHeaders, .headerErrors, .undecodableFrames], c ∈ frameLinkCounters := by decide
  refine ⟨t, ht ▸ exec_receivedFrame hwf hrx, ?_⟩
  cases hheader : receivedHeader r with
  | none =>
    rw [hheader] at hstands
    have hpositions : PositionsStand (noPositions u) t := hstands.positions
    have hgapped := noPositions_gapped (u := u) (fun _ => rfl) rfl hout hpositions
    refine ⟨hpositions.takenBefore.trans ?_, fun c hc => ?_, fun _ => ⟨fun n => ?_, ?_, hgap hgapped⟩,
      fun _ hsome => nomatch hsome⟩
    · have hst : (gapAll u).st = u.st := by simp
      exact (congrArg ST.taken hst).trans htaken
    · exact linkCount_taken (p := noPositions u) (hlinks c hc) (congrArg (·[c.ctorIdx]?) (gapAll_live u).2.1) hpositions
    · rw [(hpositions.tenants n).far, noPositions_rec]
      exact (hrecs n).far
    · rw [hstands.inbox]
      exact (noPositions_messages u).inbox.trans hmessages.inbox
  | some h =>
    rw [hheader] at hstands
    have hpositions : PositionsStand (takePositions h r (decodingPlan u.ps h) (headTaken h r u)) t :=
      (takeGoodFrame_positions h r u).trans hstands.positions
    obtain ⟨hlive, hheadOut⟩ := headTaken_live h r u
    refine ⟨hpositions.takenBefore.trans ?_, fun c hc => ?_, fun hnone => Option.some_ne_none h hnone |>.elim, ?_⟩
    · rw [takePositions_takenBefore, headTaken_st]
      exact htaken
    · refine linkCount_taken (hlinks c hc) ?_ hpositions
      have hother : LinkCounter.planUnknownFrames ≠ c := by rintro rfl; revert hc; decide
      rw [takePositions_linkCount h r _ (hlinks c hc)]
      split
      · exact (bumpAt_other fun e => hother (linkCtorIdx_injective e)).trans (hlive.link c (hlinks c hc))
      · exact hlive.link c (hlinks c hc)
    · rintro _ ⟨rfl⟩
      obtain ⟨hinbox, hreceived⟩ := takeGoodFrame_messages h r u
      rw [hmessages.inbox, hframe] at hinbox hreceived
      refine ⟨fun n => ?_, hstands.inbox.trans hinbox, fun hr c hc => ?_, fun hr hadopts => ?_, fun hunknown => ⟨?_, ?_⟩,
        fun plan hplan => ?_⟩
      · rw [(hpositions.tenants n).far, takePositions_far, headTaken_rec, (hrecs n).far]
      · have hmem : c ∈ frameChannelCounters := by revert c; decide
        rw [hstands.counts.channel c hmem]
        exact (hreceived hr c hc).trans (channelCount_countTimes (hmessages.channel c hmem) _)
      · rw [← hrole] at hadopts
        obtain ⟨hsome, hmarked⟩ := takeContents_ps_of_adopted hr hadopts
        have hps : t.ps = (takeGoodFrame h r u).ps := ht ▸ receiveFrame_ps_of_pending hheader hsome
        rw [hps]
        exact hmarked
      · rw [hunknown] at hpositions
        have hw (n : Tenant) : (tenantRec (headTaken h r u) n).reassembly = (tenantRec u n).reassembly := by
          rw [headTaken_rec]
        have hmp : (headTaken h r u).mp = u.mp := by simp [headTaken]
        have hgapped : Gapped (headTaken h r u).mp.frame u t :=
          noPositions_gapped (w := countLink .planUnknownFrames (headTaken h r u)) hw hlive.tenants (hheadOut.trans hout)
            hpositions
        exact hgap (hmp ▸ hgapped)
      · refine (hpositions.link .planUnknownFrames (by decide)).trans ?_
        rw [takePositions_linkCount h r _ (by decide), if_pos hunknown]
        refine linkCount_countLink_congr .planUnknownFrames _ s ((hlive.link _ (by decide)).trans ?_)
        exact (lockTaken_linkCount m s (by decide)).trans (by rw [planUnknown_ne_headerCase]; rfl)
      · rw [hplan] at hpositions
        have hdistributed : PositionsStand (distribute h plan r (headTaken h r u)) t := hpositions
        have hover := distribute_handedOver hout hdistributed
        refine ⟨hover.taken.trans (by rw [hframe]), fun n => ⟨hover.reassembly n, hover.out n, ?_⟩⟩
        exact (hover.counts n).trans (rebuiltCounted_of n _ hcounts)

end Sys2Proof.Machine
